-- ==== Sys2Proof/Word.lean ====
section
/-! DEFINITION. The byte and word types of the station's wire formats. -/

namespace Sys2Proof

/-- One byte, as the span link and the local port carry it. -/
abbrev Byte := BitVec 8

end Sys2Proof
end

