-- ==== Sys2Proof/Syntax.lean ====
section
/-! DEFINITION. The commands of the station: one constructor of `Instr` for each row of the table of operations and
events, with the values that come with it from outside the part. A timer's expiry names the timer; an order that the
order handler takes names the order, since R195 takes it from the order FIFO. -/

namespace Sys2Proof

/-- The four roles the role straps select, with their codes of R1. -/
inductive Role where
  | corner | approach | channel | desk
  deriving DecidableEq, Repr

/-- LINK A and LINK B. -/
inductive LinkLine where
  | a | b
  deriving DecidableEq, Repr

/-- The levels of the four number straps and the two role straps, read at a reset (R211). -/
structure Straps where
  number : Fin 16
  role : Role
  deriving DecidableEq, Repr

/-- The place of a collision (R36): a line, and the bit of the frame's 160, from 0, that was not read back as it was sent. -/
structure CollisionPoint where
  line : LinkLine
  bit : Fin 160
  deriving DecidableEq, Repr

/-- What the host does at the serial port's pins (R193): CS falls, SCK rises or falls, CS rises. -/
inductive PortEdge where
  | csFall
  | sckRise
  | sckFall
  | csRise
  deriving DecidableEq, Repr

/-- An order of R194 with its arguments as they stand in the order frame. -/
inductive Order where
  | setItem (item : Byte) (value : BitVec 32)
  | setRoster (codes : BitVec 48)
  | run
  | enableReset
  | reset
  | setMask (mask : BitVec 24)
  | setThreshold (threshold : Byte)
  | clearInhibit
  | setInhibit
  | clearTrip
  | home
  | armAccept (arm : Byte)
  | armReset (arm : Byte)
  | navAccept
  | demand (value : Byte)
  | setGoal (height : BitVec 16)
  | clearRequest
  deriving DecidableEq, Repr

/-- The commands: one constructor per row of spec/opcode_table.json, in the table's order. -/
inductive Instr where
  /-- POWER_ON_RESET (R211): application of power or the reset pin, with the strap levels then read. -/
  | powerOnReset (straps : Straps)
  /-- ORDER (R193, R194): one edge of its transaction, and the level of MOSI where SCK rises. -/
  | order (edge : PortEdge) (mosi : Bool)
  /-- INVALID_TRANSACTION (R193): one edge of it, and the level of MOSI where SCK rises. -/
  | invalidTransaction (edge : PortEdge) (mosi : Bool)
  /-- READ_REPORT (R193, R196): one edge of its transaction. Where SCK rises in the code byte, MOSI carries the bit of code 2. -/
  | readReport (edge : PortEdge)
  /-- READ_STATUS (R193, R202): one edge of its transaction. Where SCK rises in the code byte, MOSI carries the bit of code 3. -/
  | readStatus (edge : PortEdge)
  /-- READ_CONDITIONS (R193, R198): one edge of its transaction. Where SCK rises in the code byte, MOSI carries the bit of
  code 4. -/
  | readConditions (edge : PortEdge)
  /-- READ_PEERS (R193, R203): one edge of its transaction, and the level of MOSI where SCK rises. -/
  | readPeers (edge : PortEdge) (mosi : Bool)
  /-- READ_ITEM (R193, R204): one edge of its transaction, and the level of MOSI where SCK rises. -/
  | readItem (edge : PortEdge) (mosi : Bool)
  /-- SET_ITEM taken from the order FIFO (R195, R204). -/
  | setItem (item : Byte) (value : BitVec 32)
  /-- SET_ROSTER taken from the order FIFO (R195, R205). -/
  | setRoster (codes : BitVec 48)
  /-- RUN taken from the order FIFO (R195, R206). -/
  | run
  /-- ENABLE_RESET taken from the order FIFO (R195, R209). -/
  | enableReset
  /-- RESET taken from the order FIFO (R195, R210), with the strap levels an order reset then reads. -/
  | reset (straps : Straps)
  /-- SET_MASK taken from the order FIFO (R195, R200). -/
  | setMask (mask : BitVec 24)
  /-- SET_THRESHOLD taken from the order FIFO (R195, R201). -/
  | setThreshold (threshold : Byte)
  /-- CLEAR_INHIBIT taken from the order FIFO (R195, R208). -/
  | clearInhibit
  /-- SET_INHIBIT taken from the order FIFO (R195, R207). -/
  | setInhibit
  /-- CLEAR_TRIP taken from the order FIFO (R195, R189). -/
  | clearTrip
  /-- HOME taken from the order FIFO (R195, R90). -/
  | home
  /-- ARM_ACCEPT taken from the order FIFO (R195, R131). -/
  | armAccept (arm : Byte)
  /-- ARM_RESET taken from the order FIFO (R195, R132). -/
  | armReset (arm : Byte)
  /-- NAV_ACCEPT taken from the order FIFO (R195, R164). -/
  | navAccept
  /-- DEMAND taken from the order FIFO (R195, R171). -/
  | demand (value : Byte)
  /-- SET_GOAL taken from the order FIFO (R195, R173). -/
  | setGoal (height : BitVec 16)
  /-- CLEAR_REQUEST taken from the order FIFO (R195, R176). -/
  | clearRequest
  /-- FRAME_RECEIVED (R11, R26): a line's receiver ends a frame. `levels` is what the line carried while the receiver waited
  for that frame and assembled it, four samples to a bit time, up to the sample that ends it; `true` is the idle level. Where the
receiver ignores the line they begin at the start of the own attempt (R38). -/
  | frameReceived (line : LinkLine) (levels : List Bool)
  /-- STALE_TIMER_EXPIRY of a peer table slot (R9). -/
  | staleTimerExpiry (station : Fin 12)
  /-- LOST_TIMER_EXPIRY of a peer table slot (R9). -/
  | lostTimerExpiry (station : Fin 12)
  /-- SEEN_TIMER_EXPIRY of a peer table slot, for one line (R10). -/
  | seenTimerExpiry (station : Fin 12) (line : LinkLine)
  /-- DUPLICATE_TIMER_EXPIRY (R12). -/
  | duplicateTimerExpiry
  /-- STATION_TIME_TICK (R211, R10). -/
  | stationTimeTick
  /-- SPACING_TIMER_EXPIRY of a line (R33). -/
  | spacingTimerExpiry (line : LinkLine)
  /-- REFRESH_TIMER_EXPIRY of a line (R33). -/
  | refreshTimerExpiry (line : LinkLine)
  /-- IDLE_GAP_MET on a line (R35): the line has been idle for 12 bit times. -/
  | idleGapMet (line : LinkLine)
  /-- DEFERRAL on a line (R35): the line is seen at the active level, driven by another station. -/
  | deferral (line : LinkLine)
  /-- ATTEMPT_START on a line (R34): its delay timer expires. -/
  | attemptStart (line : LinkLine)
  /-- COLLISION on a line, at a bit of the frame (R36, R37). -/
  | collision (point : CollisionPoint)
  /-- TRANSMISSION_COMPLETE on a line (R34). -/
  | transmissionComplete (line : LinkLine)
  /-- HEALTH_TIMER_EXPIRY of a line (R39). -/
  | healthTimerExpiry (line : LinkLine)
  /-- INPUT_RAW_CHANGE (R134): a 1 ms sample of FI0 to FI23, or of MAINT (24), at this level. -/
  | inputRawChange (input : Fin 25) (active : Bool)
  /-- FILTER_TIMER_EXPIRY of FI0 to FI23, or of MAINT (24) (R135). -/
  | filterTimerExpiry (input : Fin 25)
  /-- ESTOP_RAW_CHANGE (R180): a 0.1 ms ESTOP sample at this level. -/
  | estopRawChange (active : Bool)
  /-- ESTOP_EVENT (R180, R181): the ESTOP filter timer expires. -/
  | estopEvent
  /-- ENCODER_TRANSITION (R42, R43): the next sample of encoder channels A and B. -/
  | encoderTransition (a b : Bool)
  /-- CONTROL_PERIOD (R48). -/
  | controlPeriod
  /-- DEAD_TIME_EXPIRY (R61). -/
  | deadTimeExpiry
  /-- STALL_TIMER_EXPIRY (R64). -/
  | stallTimerExpiry
  /-- BOLT_TRAVEL_TIMEOUT (R71). -/
  | boltTravelTimeout
  /-- BRAKE_TIMER_EXPIRY (R80). -/
  | brakeTimerExpiry
  /-- SET_CHECK_EXPIRY (R80). -/
  | setCheckExpiry
  /-- HOLD_TIMER_EXPIRY (R82). -/
  | holdTimerExpiry
  /-- AMBER_TIMER_EXPIRY (R103). -/
  | amberTimerExpiry
  /-- RED_CLEARANCE_EXPIRY (R104). -/
  | redClearanceExpiry
  /-- DECK_CLEAR_EXPIRY (R106). -/
  | deckClearExpiry
  /-- DECK_LIMIT_EXPIRY (R107). -/
  | deckLimitExpiry
  /-- GAP_TIMER_EXPIRY of an arm (R117). -/
  | gapTimerExpiry (arm : Fin 4)
  /-- ARM_TRAVEL_TIMEOUT of an arm (R126). -/
  | armTravelTimeout (arm : Fin 4)
  /-- RETRY_TIMER_EXPIRY of an arm (R125). -/
  | retryTimerExpiry (arm : Fin 4)
  /-- LANE_TIMER_EXPIRY of an arm (R129). -/
  | laneTimerExpiry (arm : Fin 4)
  /-- CLEARING_TIMER_EXPIRY (R162). -/
  | clearingTimerExpiry
  /-- FLASH_HALF_EXPIRY (R139). -/
  | flashHalfExpiry
  /-- LAMP_SENSE_EVENT of a lamp output (R142): current becomes sensed or absent. -/
  | lampSenseEvent (lamp : Fin 16) (sensed : Bool)
  /-- PROVING_TIMER_EXPIRY of a lamp output (R143). -/
  | provingTimerExpiry (lamp : Fin 16)
  /-- WATCH_TIMER_EXPIRY of a lamp output (R144). -/
  | watchTimerExpiry (lamp : Fin 16)
  /-- DARK_TIMER_EXPIRY of a lamp output (R145). -/
  | darkTimerExpiry (lamp : Fin 16)
  /-- STEP_TIMER_EXPIRY of a sounder's pattern player (R149). -/
  | stepTimerExpiry (sounder : Fin 2)
  deriving DecidableEq, Repr

end Sys2Proof
end

