-- ==== Sys2Proof/Decode.lean ====
section
/-! DEFINITION. The station has no instruction words: no row of spec/opcode_table.json gives a command any bits, so no
word spells a command. The order frames of R194 are decoded in Machine/Operands.lean, as the ORDER command's effect. -/

namespace Sys2Proof

/-- The command that a word of the table spells: none, for every row's fields are empty. -/
def decodeTableWord (_nbits _w : Nat) : Option Instr := none

end Sys2Proof
end

