-- ==== Sys2Proof/Config.lean ====
section
/-! DEFINITION. The configuration store of R204: its 39 items, by item number, and their defaults; and the one value that the
spec leaves open and the machine shows. -/

namespace Sys2Proof

/-- The configuration store (R204): the stored values of items 1 to 39, item `n` at index `n - 1`. -/
structure ConfigStore where
  items : Vector Nat 39
  deriving DecidableEq, Repr

/-- The value of item `n` of R204's table (0 for a number that is no item). -/
def ConfigStore.item (c : ConfigStore) (n : Nat) : Nat := c.items.toList.getD (n - 1) 0

/-- The defaults column of R204. -/
def ConfigStore.defaults : ConfigStore where
  items := #v[
    1, 200, 8192, 12000, 9500, 300, 10, 200, 400, 100,
    20, 10, 5, 8, 20, 100, 300, 1500, 5000, 500,
    10, 5, 2000, 10500, 5, 10, 20, 8, 3, 3,
    120, 500, 1000, 30, 0, 0, 1, 1, 0]

/-- DESIGN CHOICE (log entry 29): the bytes on MISO where R193, R194 and R204 state none, which is under the bytes of an order
frame and under the item byte of READ_ITEM. A free value: nothing constrains it; the argument counts such bytes. -/
opaque Config.freeByte : Nat → Byte

end Sys2Proof
end

