-- ==== Sys2Proof/Machine/State.lean ====
section
/-! DEFINITION. The station's state as plain data: every register, flag, counter, timer, queue and output that the spec
gives one 318, block by block as 00_scope.md lists the blocks, and the state right after a power-on reset.
Values that the spec defines as functions of this state (views, published fields, ATTN, ...) are computed in
Machine/Flags.lean and are not stored a second time. -/

namespace Sys2Proof.Machine

/-- Reasons to stop with a fault. The spec gives the station no event on which it stops, so there is none. -/
inductive Fault : Type
  deriving DecidableEq, Repr

/-- Reasons to refuse a command. -/
inductive Refusal where
  /-- Raised by `exec` for a row that has no meaning yet; safe, since nothing follows from a step that is not taken. -/
  | notModelled (mnemonic : String)
  deriving DecidableEq, Repr

/-- A timer: `none` while stopped, `some n` while it runs, with the length `n` it was last started with. Lengths are in
ms, but for the delay timer of a transmitter, whose length is in bit times. -/
abbrev Timer := Option Nat

/-! ### Named values -/

/-- CORNER phases in the order of their codes (R2). -/
inductive CornerPhase where
  | unreferenced | homing | seated | locking | seatedLocked | unlocking | unlocked | releasing | raising | raised
  | lowering | halting | held | tripped
  deriving DecidableEq, Repr

/-- APPROACH phases in the order of their codes (R2). -/
inductive ApproachPhase where
  | opened | amber | redClearance | entryLowering | deckClearing | exitLowering | closed | raisingArms | holding | tripped
  deriving DecidableEq, Repr

/-- CHANNEL phases in the order of their codes (R2). -/
inductive ChannelPhase where
  | closedToVessels | opening | openToVessels | closing | tripped
  deriving DecidableEq, Repr

/-- DESK phases in the order of their codes (R2). -/
inductive DeskPhase where
  | active | inactive | tripped
  deriving DecidableEq, Repr

/-- Values of DEMAND in the order of their codes (R5). -/
inductive Demand where
  | none | raise | lower | halt
  deriving DecidableEq, Repr

/-- Values of INTENT in the order of their codes (R3). -/
inductive Intent where
  | none | up | down
  deriving DecidableEq, Repr

/-- A direction of the corner's drive: the direction `s` of R50. -/
inductive Dir where
  | up | down
  deriving DecidableEq, Repr

/-- States of the bolt controller in the order of their BOLT codes (R3, R70). -/
inductive BoltState where
  | withdrawn | driving | driven | withdrawing | fault
  deriving DecidableEq, Repr

/-- Freshness of an entry in the order of its codes (R8, R22). -/
inductive Freshness where
  | absent | fresh | stale | lost
  deriving DecidableEq, Repr

/-- Trip causes in the order of their codes 1 to 14 (R6). -/
inductive Cause where
  | estop | driveFault | skew | stall | overspeed | overtravel | encoder | brake | bolt | seatMismatch | peerLost
  | peerSilent | sympathy | duplicate
  deriving DecidableEq, Repr

/-- Causes of an arm's FAULT (R119). -/
inductive ArmFault where
  | travelTimeout | limitPattern | obstructed | disturbed
  deriving DecidableEq, Repr

/-- States of an arm controller (R116, R119). -/
inductive ArmState where
  | notFitted | raised | lowering | lowered | raising | waiting | manual
  | fault (cause : ArmFault)
  deriving DecidableEq, Repr

/-- Standing commands of the Closure Unit (R101). -/
inductive ArmCommand where
  | none | lower | raise
  deriving DecidableEq, Repr

/-- Modes of a lamp output in the order of their codes (R138, R147). -/
inductive LampMode where
  | off | steady | flashA | flashB
  deriving DecidableEq, Repr

/-- Proving states of a lamp output in the order of their codes (R141, R147). -/
inductive Proving where
  | unproven | proven | failed | stuckOn | notProved
  deriving DecidableEq, Repr

/-- The two halves of the flash timebase (R139). -/
inductive FlashHalf where
  | a | b
  deriving DecidableEq, Repr

/-- The two sounder patterns (R149). -/
inductive Pattern where
  | long | alert
  deriving DecidableEq, Repr

/-- States of a line's transmitter (R34). -/
inductive TxState where
  | idle | spacing | gap | delay | sending
  deriving DecidableEq, Repr

/-- Health states of a line in the order of their codes (R39, R41). -/
inductive Health where
  | waiting | ok | silent
  deriving DecidableEq, Repr

/-- The 24 conditions in the order of their numbers (R198). -/
inductive Condition where
  | orderOverrun | portFraming | reportLost | lineASilent | lineBSilent | linkJamA | linkJamB | duplicateStation
  | digestMismatch | roleMismatch | stranger | peerStale | peerLost | trip | lampFault | armFault | laneOccupied
  | deckNotClear | stopSignalFailed | vesselAlert | homingFailed | leftBehind | orderRefused | strapFault
  deriving DecidableEq, Repr

/-- Kinds of report, codes 1 to 11 in this order (R196). -/
inductive ReportKind where
  | restart | orderResult | phase | peer | trip | tripCleared | arm | lamp | input | link | lost
  deriving DecidableEq, Repr

/-! ### Records -/

/-- The role payload of a record (R3, R4, R5). Each field is held as it stands on the wire, since a value outside its
range is stored as received. -/
inductive Payload where
  | corner (position : BitVec 16) (outSpeed : BitVec 16) (goal : BitVec 16) (intent : BitVec 2) (bolt : BitVec 3)
      (brakeReleased seat : Bool) (tripCause : Byte)
  | approach (arm0 arm1 arm2 arm3 : BitVec 4) (loops : BitVec 4) (deckPresent closureIntact stopSignalOk : Bool)
      (heldStage lampSummary tripCause : Byte)
  | channel (aspect : Byte) (vesselPresent vesselAlert channelClosed manualStop : Bool) (lampSummary tripCause : Byte)
  | desk (demand : Byte) (goal : BitVec 16) (clearCount : Byte) (deskEnabled reducedCeiling : Bool) (tripCause : Byte)
  deriving DecidableEq, Repr

/-- The content of a record: the common fields of R1 that can change in RUN, and the role payload. SOURCE and ROLE are
fixed for a station, DIGEST is fixed from RUN and kept beside the content, SEQUENCE numbers it. -/
structure Content where
  tripped : Bool
  startInhibit : Bool
  phase : Byte
  maint : Bool
  estopActive : Bool
  lineAOk : Bool
  lineBOk : Bool
  duplicateSeen : Bool
  payload : Payload
  deriving DecidableEq, Repr

/-- The fields of an entry that are present from its first accepted frame onward (R8). -/
structure Heard where
  content : Content
  lastSequence : Byte
  lastDigest : Byte
  digestOk : Bool
  age : Nat
  deriving DecidableEq, Repr

/-- A peer table entry (R8), with its stale and lost timers (R9) and its seen flags and timers (R10). -/
structure Entry where
  freshness : Freshness
  heard : Option Heard
  seenA : Bool
  seenB : Bool
  staleTimer : Timer
  lostTimer : Timer
  seenTimerA : Timer
  seenTimerB : Timer
  deriving DecidableEq, Repr

/-- A report of R196, byte by byte. -/
structure Report where
  kind : ReportKind
  time : BitVec 16
  subject : Byte
  old : Byte
  new : Byte
  extra1 : Byte
  extra2 : Byte
  deriving DecidableEq, Repr

/-! ### Blocks -/

/-- A transaction at the serial port while CS is low (R193), by its code byte, with what it has still to shift out or has
taken in. `code` has no whole code byte yet; `invalid` has a code byte of 0 or 7 to 255; `abandoned` was cut off by a reset.
A count `shifted` is of whole bytes behind the code byte, and the image of `peers` is empty until its first byte starts. -/
inductive Transaction where
  | code
  | invalid
  | abandoned
  | order (bytes : List Byte)
  | report (head : Option Report) (shifted : Nat)
  | status (left : List Byte)
  | conditions (sent : BitVec 24) (shifted : Nat)
  | peersStart
  | peers (station : Fin 12) (left : List Byte)
  | itemNumber
  | item (left : List Byte)
  deriving DecidableEq, Repr

/-- The serial port's pins and shift registers (R193): the transaction in progress, `none` while CS is high; whether SCK is high;
the rises of SCK within the present byte; the bits taken from MOSI, the last one lowest; and what MISO carries, its top bit now
and those below it behind it. `freeBytes` is the model's own count of the free bytes shifted out (log entry 29). -/
structure SerialPort where
  transaction : Option Transaction
  sck : Bool
  bits : Fin 8
  mosi : Byte
  miso : Byte
  freeBytes : Nat
  deriving DecidableEq, Repr

/-- The Local Port's FIFOs, conditions and flags (R194 to R201, R207, R209), and its serial port. The first KIND and TIME and the
last KIND of R197 stand in `lostFirstKind`, `lostFirstTime` and `lostLastKind`. -/
structure LocalPort where
  orders : List Order
  reports : List Report
  lostCount : Nat
  lostFirstKind : Byte
  lostFirstTime : BitVec 16
  lostLastKind : Byte
  conditions : BitVec 24
  mask : BitVec 24
  threshold : Nat
  orderNumber : Byte
  startInhibit : Bool
  resetEnable : Bool
  serial : SerialPort
  deriving DecidableEq, Repr

/-- One input of the Input Scanner (R134). -/
structure InputLine where
  raw : Bool
  filtered : Bool
  filterTimer : Timer
  bounce : Nat
  deriving DecidableEq, Repr

/-- The Trip Unit (R179), the ESTOP filter (R180) included. -/
structure TripUnit where
  flag : Bool
  causes : List Cause
  more : Bool
  estopRaw : Bool
  estopFiltered : Bool
  estopTimer : Timer
  deriving DecidableEq, Repr

/-- A line's pending slot (R32): a full slot knows whether an attempt has been made with it since it was filled, which
decides what is a transmission start (R33). -/
inductive Slot where
  | empty
  | full (attempted : Bool)
  deriving DecidableEq, Repr

/-- One line of the Link Interface with the Record Builder's CHANGED flag, slot and timers for it (R30 to R40). `idle` says
that the line has stayed idle for 12 bit times (R35), `ignoring` that its receiver ignores it (R38), and `sending` holds the
frame on the line while the transmitter sends. -/
structure LineUnit where
  changed : Bool
  slot : Slot
  spacingTimer : Timer
  refreshTimer : Timer
  tx : TxState
  delayTimer : Timer
  collisions : Nat
  sending : Option (List Byte)
  idle : Bool
  ignoring : Bool
  health : Option Health
  healthTimer : Timer
  deriving DecidableEq, Repr

/-- The two lines, and the SEQUENCE counter and reference snapshot that serve both (R31). -/
structure Link where
  lineA : LineUnit
  lineB : LineUnit
  sequence : Byte
  reference : Option Content
  deriving DecidableEq, Repr

/-- One lamp output with its proving (R138 to R145): `window` is the proving timer, which runs exactly while a proving
window is open; `watched` says that the on-phase's steady window has succeeded. -/
structure Lamp where
  mode : LampMode
  proving : Proving
  sensed : Bool
  window : Timer
  watched : Bool
  watchTimer : Timer
  darkTimer : Timer
  deriving DecidableEq, Repr

/-- One sounder: its steady request and its pattern player (R148 to R150); `running` holds the running pattern and its
step, counted from 0. -/
structure Sounder where
  steady : Bool
  running : Option (Pattern × Nat)
  stepTimer : Timer
  waiting : Option Pattern
  deriving DecidableEq, Repr

/-- The Signal Unit: 16 lamp outputs, the flash timebase and two sounders. -/
structure SignalUnit where
  lamps : Vector Lamp 16
  half : FlashHalf
  halfTimer : Timer
  sounders : Vector Sounder 2
  deriving DecidableEq, Repr

/-- The encoder: the sample last taken, the count and the referenced flag (R42, R46); `sampled` is the count at the last
expiry of the control period, moved with each setting of the count. -/
structure Encoder where
  a : Bool
  b : Bool
  count : BitVec 32
  referenced : Bool
  sampled : Int
  deriving DecidableEq, Repr

/-- The profile's items (R49, R50). -/
structure Profile where
  vPrev : Int
  braking : Bool
  goal : Option Int
  dir : Option Dir
  deriving DecidableEq, Repr

/-- The output stage (R58, R60, R61). -/
structure OutputStage where
  vOut : Int
  duty : Nat
  up : Bool
  down : Bool
  deadTimer : Timer
  upBlocked : Bool
  downBlocked : Bool
  deriving DecidableEq, Repr

/-- The bolt controller (R70). -/
structure Bolt where
  state : BoltState
  driveOut : Bool
  withdrawOut : Bool
  travelTimer : Timer
  deriving DecidableEq, Repr

/-- The brake controller (R80). -/
structure Brake where
  out : Bool
  settled : Bool
  brakeTimer : Timer
  setCheckTimer : Timer
  deriving DecidableEq, Repr

/-- The stall window (R64). -/
structure Stall where
  timer : Timer
  start : Option Int
  deriving DecidableEq, Repr

/-- The Motion Unit: phase and sequence items (R67, R78, R82, R83, R85), arithmetic, output stage, brake and bolt. `pos` is
the position P last formed (R44), `position` the POSITION last set (R45), `skew` and `correction` the levelling and skew
results last computed (R58, R59). -/
structure MotionUnit where
  phase : Option CornerPhase
  intent : Intent
  goal : Nat
  workingGoal : Option Nat
  leftBehind : Bool
  holdTimer : Timer
  controlTimer : Timer
  homingStart : Option Int
  pos : Int
  position : Int
  skew : Option Int
  correction : Int
  encoder : Encoder
  profile : Profile
  output : OutputStage
  bolt : Bolt
  brake : Brake
  stall : Stall
  deriving DecidableEq, Repr

/-- One arm controller with its standing command (R101, R117, R119, R129). `held` says that the arm is held at the lane
(R121), `lastDropped` which output last dropped (`true` for UP). -/
structure Arm where
  state : Option ArmState
  command : ArmCommand
  retry : Nat
  reversing : Bool
  delayServed : Bool
  held : Bool
  travelTimer : Timer
  retryTimer : Timer
  laneTimer : Timer
  gapTimer : Timer
  up : Bool
  down : Bool
  lastDropped : Option Bool
  deriving DecidableEq, Repr

/-- The Closure Unit (R96). -/
structure ClosureUnit where
  phase : Option ApproachPhase
  heldStage : Option ApproachPhase
  holdPending : Bool
  served : Bool
  amberTimer : Timer
  redTimer : Timer
  deckClearTimer : Timer
  deckLimitTimer : Timer
  arms : Vector Arm 4
  deriving DecidableEq, Repr

/-- The Channel Unit (R153). -/
structure ChannelUnit where
  phase : Option ChannelPhase
  clearingTimer : Timer
  vesselAlert : Bool
  manualStop : Bool
  greenFallback : Bool
  deriving DecidableEq, Repr

/-- The Desk Unit (R168). -/
structure DeskUnit where
  phase : Option DeskPhase
  heldDemand : Demand
  requestedGoal : Nat
  clearCount : Nat
  deriving DecidableEq, Repr

/-- The state of one station. `pending` is the model's own queue of commands that wait, first in, first out. `fed` is the
model's own mark of an event in progress, that a change of content has been fed to the Record Builder (R30); between events it
stands as State.reset has it. `running` is RUN (true) or CONFIG (false). -/
structure State where
  pending : List Instr
  fed : Bool
  running : Bool
  straps : Straps
  time : BitVec 16
  config : ConfigStore
  roster : Vector (Option Role) 12
  digest : Option Byte
  port : LocalPort
  inputs : Vector InputLine 25
  trip : TripUnit
  peers : Vector (Option Entry) 12
  duplicateTimer : Timer
  link : Link
  signal : SignalUnit
  motion : MotionUnit
  closure : ClosureUnit
  channel : ChannelUnit
  desk : DeskUnit
  deriving DecidableEq, Repr

/-! ### Reset -/

/-- The CONFIG rest mode of lamp output `i` at a role (R138, with the outputs of R152). -/
def LampMode.rest (role : Role) (i : Nat) : LampMode :=
  match role with
  | .approach => if i = 0 ∨ i = 1 then .steady else if i = 4 then .flashA else if i = 5 then .flashB else .off
  | .channel => if i = 0 ∨ i = 1 then .steady else .off
  | .corner => .off
  | .desk => .off

/-- Lamp output `i` after a reset: UNPROVEN in its rest mode, with the proving window of an on-phase that begins at the
reset open (R138, R141, R143; the timebase begins in half A). -/
def Lamp.atReset (role : Role) (provingTime : Nat) (i : Nat) : Lamp where
  mode := LampMode.rest role i
  proving := .unproven
  sensed := false
  window := if LampMode.rest role i = .steady ∨ LampMode.rest role i = .flashA then some provingTime else none
  watched := false
  watchTimer := none
  darkTimer := none

/-- A line after a reset (R23, R30, R32 to R34, R37). -/
def LineUnit.atReset (idle : Bool) : LineUnit where
  changed := false
  slot := .empty
  spacingTimer := none
  refreshTimer := none
  tx := .idle
  delayTimer := none
  collisions := 0
  sending := none
  idle := idle
  ignoring := false
  health := none
  healthTimer := none

/-- An arm controller after a reset (R96, R117, R119, R130). -/
def Arm.atReset : Arm where
  state := none
  command := .none
  retry := 0
  reversing := false
  delayServed := false
  held := false
  travelTimer := none
  retryTimer := none
  laneTimer := none
  gapTimer := none
  up := false
  down := false
  lastDropped := none

/-- The Motion Unit after a reset with this encoder (R46, R48, R49, R54, R61, R62, R64, R67, R70, R80, R85). -/
def MotionUnit.atReset (deadTime : Nat) (encoder : Encoder) : MotionUnit where
  phase := none
  intent := .none
  goal := 0
  workingGoal := none
  leftBehind := false
  holdTimer := none
  controlTimer := none
  homingStart := none
  pos := 0
  position := -32768
  skew := none
  correction := 0
  encoder := encoder
  profile := { vPrev := 0, braking := false, goal := none, dir := none }
  output :=
    { vOut := 0, duty := 0, up := false, down := false, deadTimer := some deadTime, upBlocked := true, downBlocked := true }
  bolt := { state := .withdrawn, driveOut := false, withdrawOut := false, travelTimer := none }
  brake := { out := false, settled := false, brakeTimer := none, setCheckTimer := none }
  stall := { timer := none, start := none }

/-- The serial port while CS is high, with SCK at rest (R193). -/
def SerialPort.atRest : SerialPort where
  transaction := none
  sck := false
  bits := 0
  mosi := 0
  miso := 0
  freeBytes := 0

/-- The serial port after a reset: a transaction in progress is abandoned, and MISO carries 0 (R193). -/
def SerialPort.afterReset (old : SerialPort) : SerialPort :=
  { old with transaction := old.transaction.map fun _ => .abandoned, bits := 0, mosi := 0, miso := 0 }

/-- The local port after a reset (R193, R195 to R199, R207, R209, R211): STRAP_FAULT latched for a strapped number of 12 or
more, the RESTART report in the FIFO, and a transaction in progress abandoned. -/
def LocalPort.atReset (straps : Straps) (roleCode subject : Byte) (old : SerialPort) : LocalPort where
  orders := []
  reports := [{
    kind := .restart, time := 0, subject := subject, old := BitVec.ofNat 8 straps.number.val
    new := roleCode, extra1 := if 12 ≤ straps.number.val then 1 else 0, extra2 := 0 }]
  lostCount := 0
  lostFirstKind := 0
  lostFirstTime := 0
  lostLastKind := 0
  conditions := if 12 ≤ straps.number.val then 0x800000 else 0
  mask := 0
  threshold := 1
  orderNumber := 0
  startInhibit := true
  resetEnable := false
  serial := old.afterReset

/-- What a reset finds and does not set whole: the model's own queue of commands, the serial port, and whether each line has
stayed idle for 12 bit times. -/
structure Found where
  pending : List Instr
  serial : SerialPort
  idleA : Bool
  idleB : Bool
  deriving DecidableEq, Repr

/-- The station after a reset of either kind: with these straps, these bytes in the RESTART report, this configuration, roster
and encoder, and what the reset found (R211 and the reset rules of every block). -/
def State.afterReset (straps : Straps) (roleCode subject : Byte) (config : ConfigStore)
    (roster : Vector (Option Role) 12) (encoder : Encoder) (found : Found) : State where
  pending := found.pending
  fed := false
  running := false
  straps := straps
  time := 0
  config := config
  roster := roster
  digest := none
  port := LocalPort.atReset straps roleCode subject found.serial
  inputs := .replicate 25 { raw := false, filtered := false, filterTimer := some (config.item 34), bounce := 0 }
  trip :=
    { flag := false, causes := [], more := false, estopRaw := true, estopFiltered := true, estopTimer := some 2 }
  peers := .replicate 12 none
  duplicateTimer := none
  link :=
    { lineA := LineUnit.atReset found.idleA, lineB := LineUnit.atReset found.idleB, sequence := 0, reference := none }
  signal :=
    let lamp := Lamp.atReset straps.role (config.item 32)
    { lamps := #v[lamp 0, lamp 1, lamp 2, lamp 3, lamp 4, lamp 5, lamp 6, lamp 7,
        lamp 8, lamp 9, lamp 10, lamp 11, lamp 12, lamp 13, lamp 14, lamp 15]
      half := .a
      halfTimer := some (config.item 33 / 2)
      sounders := .replicate 2 { steady := false, running := none, stepTimer := none, waiting := none } }
  motion := MotionUnit.atReset (config.item 20) encoder
  closure :=
    { phase := none, heldStage := none, holdPending := false, served := false, amberTimer := none, redTimer := none,
      deckClearTimer := none, deckLimitTimer := none, arms := .replicate 4 Arm.atReset }
  channel := { phase := none, clearingTimer := none, vesselAlert := false, manualStop := false, greenFallback := false }
  desk := { phase := none, heldDemand := .none, requestedGoal := 0, clearCount := 0 }

/-- The encoder at a power-on reset: count 0, not referenced (R46). -/
def Encoder.atPowerOn : Encoder := { a := false, b := false, count := 0, referenced := false, sampled := 0 }

/-- The station after a power-on reset: configuration defaults and an empty roster beside the reset of every block (R211). -/
def State.afterPowerOn (straps : Straps) (roleCode : Byte) (found : Found) : State :=
  State.afterReset straps roleCode 0 ConfigStore.defaults (.replicate 12 none) Encoder.atPowerOn found

/-- The machine right after a power-on reset with every strap pin at 0: station 0, CORNER (the strap levels come from the
board; POWER_ON_RESET carries any others). Configuration defaults, empty roster, count 0, unreferenced. -/
def State.reset : State :=
  State.afterPowerOn { number := 0, role := .corner } 0
    { pending := [], serial := SerialPort.atRest, idleA := false, idleB := false }

end Sys2Proof.Machine
end

