-- ==== Sys2Proof/Machine/Ops.lean ====
section
/-! DEFINITION. The named operations over the state that every block uses: codes of the named values, block updates,
configuration items by name, filtered inputs, conditions, reports, and the fixed times of the rules. -/

namespace Sys2Proof.Machine

/-! ### Bytes -/

/-- The low byte of a number. -/
def byteOf (n : Nat) : Byte := BitVec.ofNat 8 n

/-- The bytes of a 16-bit value, high byte first (R27, R196). -/
def hiByte (w : BitVec 16) : Byte := BitVec.ofNat 8 (w.toNat / 256)

/-- The low byte of a 16-bit value. -/
def loByte (w : BitVec 16) : Byte := BitVec.ofNat 8 w.toNat

/-- The 16-bit value of two bytes, high byte first. -/
def wordOf (hi lo : Byte) : BitVec 16 := BitVec.ofNat 16 (hi.toNat * 256 + lo.toNat)

/-- A flag as a number. -/
def flagNat (b : Bool) : Nat := if b then 1 else 0

/-- A byte packed from its bits, bit 0 first. -/
def byteOfBits (bits : List Bool) : Byte := byteOf (bits.foldr (fun b n => flagNat b + 2 * n) 0)

/-- A value clamped to a range (00_scope.md, Clamping). -/
def clampInt (lo hi x : Int) : Int := max lo (min hi x)

/-- Clamping of naturals. -/
def clampNat (lo hi x : Nat) : Nat := max lo (min hi x)

/-! ### Codes -/

/-- ROLE codes (R1). -/
def roleCode : Role → Nat
  | .corner => 0
  | .approach => 1
  | .channel => 2
  | .desk => 3

/-- The role of a two-bit ROLE code. -/
def roleOfCode (n : Nat) : Role :=
  if n = 0 then .corner else if n = 1 then .approach else if n = 2 then .channel else .desk

/-- PHASE codes of a corner (R2). -/
def cornerCode : CornerPhase → Nat
  | .unreferenced => 0
  | .homing => 1
  | .seated => 2
  | .locking => 3
  | .seatedLocked => 4
  | .unlocking => 5
  | .unlocked => 6
  | .releasing => 7
  | .raising => 8
  | .raised => 9
  | .lowering => 10
  | .halting => 11
  | .held => 12
  | .tripped => 13

/-- PHASE codes of an approach (R2). -/
def approachCode : ApproachPhase → Nat
  | .opened => 0
  | .amber => 1
  | .redClearance => 2
  | .entryLowering => 3
  | .deckClearing => 4
  | .exitLowering => 5
  | .closed => 6
  | .raisingArms => 7
  | .holding => 8
  | .tripped => 9

/-- PHASE codes of a channel (R2). -/
def channelCode : ChannelPhase → Nat
  | .closedToVessels => 0
  | .opening => 1
  | .openToVessels => 2
  | .closing => 3
  | .tripped => 4

/-- PHASE codes of a desk (R2). -/
def deskCode : DeskPhase → Nat
  | .active => 0
  | .inactive => 1
  | .tripped => 2

/-- DEMAND codes (R5). -/
def demandCode : Demand → Nat
  | .none => 0
  | .raise => 1
  | .lower => 2
  | .halt => 3

/-- INTENT codes (R3). -/
def intentCode : Intent → Nat
  | .none => 0
  | .up => 1
  | .down => 2

/-- BOLT codes (R3). -/
def boltCode : BoltState → Nat
  | .withdrawn => 0
  | .driving => 1
  | .driven => 2
  | .withdrawing => 3
  | .fault => 4

/-- FRESHNESS codes (R22). -/
def freshnessCode : Freshness → Nat
  | .absent => 0
  | .fresh => 1
  | .stale => 2
  | .lost => 3

/-- Trip cause codes (R6). -/
def causeCode : Cause → Nat
  | .estop => 1
  | .driveFault => 2
  | .skew => 3
  | .stall => 4
  | .overspeed => 5
  | .overtravel => 6
  | .encoder => 7
  | .brake => 8
  | .bolt => 9
  | .seatMismatch => 10
  | .peerLost => 11
  | .peerSilent => 12
  | .sympathy => 13
  | .duplicate => 14

/-- Arm codes of the APPROACH payload (R4). -/
def armCode : ArmState → Nat
  | .notFitted => 0
  | .raised => 1
  | .lowering => 2
  | .lowered => 3
  | .raising => 4
  | .waiting => 5
  | .manual => 6
  | .fault .travelTimeout => 8
  | .fault .limitPattern => 9
  | .fault .obstructed => 10
  | .fault .disturbed => 11

/-- Lamp mode codes (R147). -/
def modeCode : LampMode → Nat
  | .off => 0
  | .steady => 1
  | .flashA => 2
  | .flashB => 3

/-- Proving state codes (R147). -/
def provingCode : Proving → Nat
  | .unproven => 0
  | .proven => 1
  | .failed => 2
  | .stuckOn => 3
  | .notProved => 4

/-- Line health codes (R41). -/
def healthCode : Health → Nat
  | .waiting => 0
  | .ok => 1
  | .silent => 2

/-- Report kinds (R196). -/
def kindCode : ReportKind → Nat
  | .restart => 1
  | .orderResult => 2
  | .phase => 3
  | .peer => 4
  | .trip => 5
  | .tripCleared => 6
  | .arm => 7
  | .lamp => 8
  | .input => 9
  | .link => 10
  | .lost => 11

/-- Condition numbers (R198). -/
def conditionNumber : Condition → Nat
  | .orderOverrun => 0
  | .portFraming => 1
  | .reportLost => 2
  | .lineASilent => 3
  | .lineBSilent => 4
  | .linkJamA => 5
  | .linkJamB => 6
  | .duplicateStation => 7
  | .digestMismatch => 8
  | .roleMismatch => 9
  | .stranger => 10
  | .peerStale => 11
  | .peerLost => 12
  | .trip => 13
  | .lampFault => 14
  | .armFault => 15
  | .laneOccupied => 16
  | .deckNotClear => 17
  | .stopSignalFailed => 18
  | .vesselAlert => 19
  | .homingFailed => 20
  | .leftBehind => 21
  | .orderRefused => 22
  | .strapFault => 23

/-! ### Updates of one block -/

/-- Notes whether a change of content has been fed to the Record Builder in this event (R30). -/
def State.setFed (b : Bool) (s : State) : State := { s with fed := b }

/-- Updates the Local Port. -/
def State.onPort (f : LocalPort → LocalPort) (s : State) : State := { s with port := f s.port }

/-- Updates the Trip Unit. -/
def State.onTrip (f : TripUnit → TripUnit) (s : State) : State := { s with trip := f s.trip }

/-- Updates the Link Interface and Record Builder. -/
def State.onLink (f : Link → Link) (s : State) : State := { s with link := f s.link }

/-- Updates the Signal Unit. -/
def State.onSignal (f : SignalUnit → SignalUnit) (s : State) : State := { s with signal := f s.signal }

/-- Updates the Motion Unit. -/
def State.onMotion (f : MotionUnit → MotionUnit) (s : State) : State := { s with motion := f s.motion }

/-- Updates the Closure Unit. -/
def State.onClosure (f : ClosureUnit → ClosureUnit) (s : State) : State := { s with closure := f s.closure }

/-- Updates the Channel Unit. -/
def State.onChannel (f : ChannelUnit → ChannelUnit) (s : State) : State := { s with channel := f s.channel }

/-- Updates the Desk Unit. -/
def State.onDesk (f : DeskUnit → DeskUnit) (s : State) : State := { s with desk := f s.desk }

/-- One input of the scanner. -/
def State.inputLine (s : State) (i : Fin 25) : InputLine := s.inputs[i]

/-- Replaces one input of the scanner. -/
def State.setInput (i : Fin 25) (x : InputLine) (s : State) : State := { s with inputs := s.inputs.set i x }

/-- The slot of the peer table for one station number. -/
def State.peer (s : State) (j : Fin 12) : Option Entry := s.peers[j]

/-- Replaces the entry of one station number. -/
def State.setPeer (j : Fin 12) (e : Option Entry) (s : State) : State := { s with peers := s.peers.set j e }

/-- One lamp output. -/
def State.lamp (s : State) (i : Fin 16) : Lamp := s.signal.lamps[i]

/-- Updates one lamp output. -/
def State.onLamp (i : Fin 16) (f : Lamp → Lamp) (s : State) : State :=
  s.onSignal fun g => { g with lamps := g.lamps.set i (f g.lamps[i]) }

/-- One sounder. -/
def State.sounder (s : State) (k : Fin 2) : Sounder := s.signal.sounders[k]

/-- Updates one sounder. -/
def State.onSounder (k : Fin 2) (f : Sounder → Sounder) (s : State) : State :=
  s.onSignal fun g => { g with sounders := g.sounders.set k (f g.sounders[k]) }

/-- One arm controller. -/
def State.arm (s : State) (i : Fin 4) : Arm := s.closure.arms[i]

/-- Updates one arm controller. -/
def State.onArm (i : Fin 4) (f : Arm → Arm) (s : State) : State :=
  s.onClosure fun c => { c with arms := c.arms.set i (f c.arms[i]) }

/-- One line of the link. -/
def State.line (s : State) (l : LinkLine) : LineUnit :=
  match l with
  | .a => s.link.lineA
  | .b => s.link.lineB

/-- Updates one line of the link. -/
def State.onLine (l : LinkLine) (f : LineUnit → LineUnit) (s : State) : State :=
  match l with
  | .a => s.onLink fun k => { k with lineA := f k.lineA }
  | .b => s.onLink fun k => { k with lineB := f k.lineB }

/-- Updates the output stage. -/
def State.onOutput (f : OutputStage → OutputStage) (s : State) : State :=
  s.onMotion fun m => { m with output := f m.output }

/-- Updates the brake controller. -/
def State.onBrake (f : Brake → Brake) (s : State) : State := s.onMotion fun m => { m with brake := f m.brake }

/-- Updates the bolt controller. -/
def State.onBolt (f : Bolt → Bolt) (s : State) : State := s.onMotion fun m => { m with bolt := f m.bolt }

/-- Updates the profile. -/
def State.onProfile (f : Profile → Profile) (s : State) : State := s.onMotion fun m => { m with profile := f m.profile }

/-- The four arms, in order. -/
def arms : List (Fin 4) := [0, 1, 2, 3]

/-- The twelve station numbers, in order. -/
def stations : List (Fin 12) := [0, 1, 2, 3, 4, 5, 6, 7, 8, 9, 10, 11]

/-- The sixteen lamp outputs, in order. -/
def lampOutputs : List (Fin 16) := [0, 1, 2, 3, 4, 5, 6, 7, 8, 9, 10, 11, 12, 13, 14, 15]

/-! ### Configuration items by name (R204) -/

/-- The refresh interval, ms. -/
def State.refreshInterval (s : State) : Nat := s.config.item 2

/-- The stale time, ms (R9). -/
def State.staleTime (s : State) : Nat := 3 * s.config.item 2

/-- The lost time, ms (R9). -/
def State.lostTime (s : State) : Nat := 10 * s.config.item 2

/-- The counts per metre. -/
def State.countsPerMetre (s : State) : Int := s.config.item 3

/-- The open height, mm. -/
def State.openHeight (s : State) : Nat := s.config.item 4

/-- The clearance height, mm. -/
def State.clearanceHeight (s : State) : Nat := s.config.item 5

/-- The landing height, mm. -/
def State.landingHeight (s : State) : Int := s.config.item 6

/-- The seat tolerance, mm. -/
def State.seatTolerance (s : State) : Int := s.config.item 7

/-- The overtravel margin, mm. -/
def State.overtravelMargin (s : State) : Int := s.config.item 8

/-- The full-scale speed VFS, mm/s. -/
def State.vfs (s : State) : Int := s.config.item 9

/-- The top speed in use: VTOP, or VFS where VTOP exceeds it (R48). -/
def State.vtop (s : State) : Int := min (s.config.item 10) (s.config.item 9)

/-- The acceleration step a, mm/s per period. -/
def State.accel (s : State) : Int := s.config.item 11

/-- The creep speed in use: VCREEP, or the top speed in use where VCREEP exceeds it (R48). -/
def State.vcreep (s : State) : Int := min (s.config.item 12 : Int) s.vtop

/-- The deadband, mm. -/
def State.deadband (s : State) : Int := s.config.item 13

/-- The levelling gain KL, in eighths. -/
def State.kl (s : State) : Int := s.config.item 14

/-- The levelling limit VCORR, mm/s. -/
def State.vcorr (s : State) : Int := s.config.item 15

/-- The skew trip limit, mm. -/
def State.skewLimit (s : State) : Int := s.config.item 16

/-- The maintenance skew limit in use, raised to the skew trip limit (R48). -/
def State.maintSkewLimit (s : State) : Int := max (s.config.item 17) (s.config.item 16)

/-- The brake time, ms. -/
def State.brakeTime (s : State) : Nat := s.config.item 18

/-- The hold time, ms. -/
def State.holdTime (s : State) : Nat := s.config.item 19

/-- The dead time, ms. -/
def State.deadTime (s : State) : Nat := s.config.item 20

/-- The bolt travel time, ms. -/
def State.boltTravelTime (s : State) : Nat := 1000 * s.config.item 21

/-- The stall time, ms. -/
def State.stallTime (s : State) : Nat := 1000 * s.config.item 22

/-- The homing limit, mm. -/
def State.homingLimit (s : State) : Int := s.config.item 23

/-- The reduced ceiling in use: the stored one, or the clearance height where it is lower (R78). -/
def State.reducedCeiling (s : State) : Nat := max (s.config.item 24) (s.config.item 5)

/-- The amber time, ms. -/
def State.amberTime (s : State) : Nat := 1000 * s.config.item 25

/-- The red clearance time, ms. -/
def State.redClearanceTime (s : State) : Nat := 1000 * s.config.item 26

/-- The deck clear time, ms. -/
def State.deckClearTime (s : State) : Nat := 1000 * s.config.item 27

/-- The arm travel time, ms. -/
def State.armTravelTime (s : State) : Nat := 1000 * s.config.item 28

/-- The retry delay, ms. -/
def State.retryDelay (s : State) : Nat := 1000 * s.config.item 29

/-- The retry limit. -/
def State.retryLimit (s : State) : Nat := s.config.item 30

/-- The clearing time, ms. -/
def State.clearingTime (s : State) : Nat := 1000 * s.config.item 31

/-- The proving time, ms. -/
def State.provingTime (s : State) : Nat := s.config.item 32

/-- Half the flash period, ms. -/
def State.halfFlashPeriod (s : State) : Nat := s.config.item 33 / 2

/-- The filter time, ms. -/
def State.filterTime (s : State) : Nat := s.config.item 34

/-- An arm is designated ENTRY (R116). -/
def State.isEntryArm (s : State) (i : Fin 4) : Bool := s.config.item (35 + i.val) == 0

/-- An arm is designated EXIT (R116). -/
def State.isExitArm (s : State) (i : Fin 4) : Bool := s.config.item (35 + i.val) == 1

/-- An arm is fitted: ENTRY or EXIT (R116). -/
def State.isFitted (s : State) (i : Fin 4) : Bool := s.isEntryArm i || s.isExitArm i

/-- An input is selected by the input report mask (R137). -/
def State.inputReported (s : State) (i : Fin 25) : Bool := (s.config.item 39).testBit i.val

/-! ### Fixed times and numbers of the rules -/

/-- The spacing timer, 20 ms (R33). -/
def spacingTime : Nat := 20
/-- The gap timer of an arm, 300 ms (R117). -/
def gapTime : Nat := 300
/-- The lane timer of an arm, 30 s (R129). -/
def laneTime : Nat := 30000
/-- The dark timer of a lamp, 200 ms (R142). -/
def darkTime : Nat := 200
/-- The ESTOP filter time, 2 ms (R180). -/
def estopTime : Nat := 2
/-- The control period, 100 ms (R48). -/
def controlTime : Nat := 100
/-- The jam limit (R37). -/
def jamLimit : Nat := 8
/-- The stall distance, 3 mm (R64). -/
def stallDistance : Int := 3
/-- The AGE at which a moving corner's silence trips its partners, 300 ms (R94). -/
def silentAge : Nat := 30

/-! ### Filtered inputs (R136, R151) -/

/-- The filtered state of an input. -/
def State.filtered (s : State) (i : Fin 25) : Bool := (s.inputLine i).filtered

/-- The filtered MAINT input. -/
def State.maint (s : State) : Bool := s.filtered 24

/-- The seat input of a corner. -/
def State.seat (s : State) : Bool := s.filtered 0

/-- The brake-released feedback of a corner. -/
def State.brakeFeedback (s : State) : Bool := s.filtered 3

/-- The drive-fault input of a corner. -/
def State.driveFaultInput (s : State) : Bool := s.filtered 4

/-- The vessel-present input of a channel. -/
def State.vesselPresent (s : State) : Bool := s.filtered 0

/-- The enable key of a desk. -/
def State.enableKey (s : State) : Bool := s.filtered 4

/-- The reduced-ceiling switch of a desk. -/
def State.ceilingSwitch (s : State) : Bool := s.filtered 5

/-- The deck-presence input of an approach. -/
def State.deckPresent (s : State) : Bool := s.filtered 16

/-- The presence loop of an arm (R116). -/
def loopInput (i : Fin 4) : Fin 25 := ⟨8 + i.val, by omega⟩

/-- The obstruction input of an arm (R116). -/
def obstructionInput (i : Fin 4) : Fin 25 := ⟨12 + i.val, by omega⟩

/-- The upper limit input of an arm (R116). -/
def upperInput (i : Fin 4) : Fin 25 := ⟨2 * i.val, by omega⟩

/-- The lower limit input of an arm (R116). -/
def lowerInput (i : Fin 4) : Fin 25 := ⟨2 * i.val + 1, by omega⟩

/-- The filtered presence loop of an arm. -/
def State.loop (s : State) (i : Fin 4) : Bool := s.filtered (loopInput i)

/-- An arm's loop or obstruction input shows presence (R117, R121). -/
def State.presence (s : State) (i : Fin 4) : Bool := s.loop i || s.filtered (obstructionInput i)

/-! ### Conditions and reports -/

/-- The bit of a condition in the 24-bit words (R198). -/
def Condition.bit (c : Condition) : BitVec 24 := 1#24 <<< conditionNumber c

/-- Latches a condition (R198). -/
def latch (c : Condition) (s : State) : State := s.onPort fun p => { p with conditions := p.conditions ||| c.bit }

/-- A condition is latched. -/
def State.latched (s : State) (c : Condition) : Bool := s.port.conditions.getLsbD (conditionNumber c)

/-- Submits a report: it joins the tail, or is lost while 32 stand (R196, R197). -/
def submit (r : Report) (s : State) : State :=
  if s.port.reports.length < 32 then
    s.onPort fun p => { p with reports := p.reports ++ [r] }
  else
    latch .reportLost (s.onPort fun p => { p with
      lostCount := min 65535 (p.lostCount + 1)
      lostFirstKind := if p.lostCount = 0 then byteOf (kindCode r.kind) else p.lostFirstKind
      lostFirstTime := if p.lostCount = 0 then r.time else p.lostFirstTime
      lostLastKind := byteOf (kindCode r.kind) })

/-- Submits a report stamped with station time, its fields given as numbers. -/
def report (kind : ReportKind) (subject old new extra1 extra2 : Nat) (s : State) : State :=
  submit
    { kind := kind, time := s.time, subject := byteOf subject, old := byteOf old, new := byteOf new,
      extra1 := byteOf extra1, extra2 := byteOf extra2 } s

/-! ### Own identity -/

/-- The own station number, as strapped. -/
def State.number (s : State) : Nat := s.straps.number.val

/-- The strapped role. -/
def State.role (s : State) : Role := s.straps.role

/-- The role the roster gives a station number. -/
def State.rosterRole (s : State) (j : Fin 12) : Option Role := s.roster[j]

/-- The PHASE code of the active role block; 255 in CONFIG (R202, R206). -/
def State.phaseCode (s : State) : Nat :=
  match s.role with
  | .corner => (s.motion.phase.map cornerCode).getD 255
  | .approach => (s.closure.phase.map approachCode).getD 255
  | .channel => (s.channel.phase.map channelCode).getD 255
  | .desk => (s.desk.phase.map deskCode).getD 255

end Sys2Proof.Machine
end

