-- ==== Sys2Proof/Machine/Receiver.lean ====
section
/-! DEFINITION. A line's receiver (R26): from the levels on the line to the characters of a frame. The levels are sampled four
times in a bit time, so that half a bit is two samples, a character 40 and the end of a frame 8 (log entry 13). -/

namespace Sys2Proof.Machine

/-- What a receiver hands over at the end of a frame (R26): the first 16 characters, the count of all, and whether any of them
had a framing error. -/
structure Received where
  chars : List Byte
  count : Nat
  framingError : Bool
  deriving DecidableEq, Repr

/-- A receiver. `level` is the level last sampled and `idle` the number of samples for which the line has stayed idle, counted
afresh from the end of each stop bit. `bit` is none while the receiver waits for a start bit; within a character it holds the
number of samples since the start bit began and the data bits sampled so far. -/
structure Receiver where
  level : Bool
  idle : Nat
  bit : Option (Nat × List Bool)
  received : Received
  deriving DecidableEq, Repr

/-- A receiver that waits for a frame, on an idle line. -/
def Receiver.waiting : Receiver where
  level := true
  idle := 0
  bit := none
  received := { chars := [], count := 0, framingError := false }

/-- A character has ended with these data bits, least significant first: it is counted, and kept while fewer than 16 are. -/
def Received.add (r : Received) (bits : List Bool) : Received :=
  { r with count := r.count + 1, chars := if r.count < 16 then r.chars ++ [byteOfBits bits] else r.chars }

/-- One more sample of the line. Waiting, a change to the active level begins a start bit. Half a bit later an idle level makes
it noise. Each data bit and the stop bit are sampled at the middle of their bit time, and a stop bit at the active level is a
framing error. DESIGN CHOICE (log entry 35): the noise test is made on every start bit, also on one behind the first character,
where noise leaves the frame as it is. -/
def Receiver.sample (r : Receiver) (x : Bool) : Receiver :=
  let idle := if x then r.idle + 1 else 0
  match r.bit with
  | none => { r with level := x, idle := idle, bit := if r.level && !x then some (1, []) else none }
  | some (n, bits) =>
    if n = 2 ∧ x = true then { r with level := x, idle := idle, bit := none }
    else if n = 39 then { level := x, idle := 0, bit := none, received := r.received.add bits }
    else
      { level := x
        idle := idle
        bit := some (n + 1, if n % 4 = 2 ∧ 6 ≤ n ∧ n < 38 then bits ++ [x] else bits)
        received := { r.received with framingError := r.received.framingError || (n == 38 && !x) } }

/-- The frame has ended: the line has stayed idle for 2 bit times after the end of a stop bit. -/
def Receiver.ended (r : Receiver) : Bool := r.bit.isNone && r.received.count != 0 && decide (8 ≤ r.idle)

/-- What a receiver hands over from these levels, where a frame ends within them. -/
def Receiver.run (r : Receiver) : List Bool → Option Received
  | [] => none
  | x :: rest => if (r.sample x).ended then some (r.sample x).received else (r.sample x).run rest

/-- What a waiting receiver hands over at the end of the frame in these levels. -/
def received (levels : List Bool) : Option Received := Receiver.waiting.run levels

/-- The line stays idle for 2 bit times before the first character ends: the end-of-frame test that a receiver which ignores the
line waits for has passed where no frame stood on the line (R38, log entry 13). -/
def Receiver.idles (r : Receiver) : List Bool → Bool
  | [] => false
  | x :: rest =>
    let q := r.sample x
    (q.bit.isNone && q.received.count == 0 && decide (8 ≤ q.idle)) || q.idles rest

/-- The same of a waiting receiver. -/
def idleFirst (levels : List Bool) : Bool := Receiver.waiting.idles levels

/-- The levels end a frame, with their last sample. -/
def endsFrame (levels : List Bool) : Bool := (received levels).isSome && (received levels.dropLast).isNone

/-! ### Characters on the line (R25) -/

/-- The bits of a character with this stop bit, in the order sent: `false` is the active level. -/
def charBits (b : Byte) (stop : Bool) : List Bool :=
  false :: ([0, 1, 2, 3, 4, 5, 6, 7].map fun i => b.getLsbD i) ++ [stop]

/-- The ten bits of one character as it is sent. -/
def characterBits (b : Byte) : List Bool := charBits b true

/-- The bits of a frame on the line, characters back to back. -/
def frameBits (bytes : List Byte) : List Bool := bytes.flatMap characterBits

/-- The levels that bits put on the line, four samples to a bit time. -/
def levelsOf (bits : List Bool) : List Bool := bits.flatMap (List.replicate 4)

/-- The levels of a frame as a receiver sees them to its end: the bits, and 2 bit times of idle line. -/
def frameLevels (bytes : List Byte) : List Bool := levelsOf (frameBits bytes ++ [true, true])

end Sys2Proof.Machine
end

