-- ==== Sys2Proof/Machine/Operands.lean ====
section
/-! DEFINITION. The byte layouts that a bus partner sees: the record on the wire and its CHECK (R25 to R29), the order
frames (R194), the ranges of SET_ITEM (R204), and the images of reports and peer entries (R196, R203). -/

namespace Sys2Proof.Machine

/-! ### CHECK (R29) -/

/-- One data bit: the remainder shifts left, and 1021h is combined where the bit shifted out differs from the data bit. -/
def crcBit (rem : BitVec 16) (bit : Bool) : BitVec 16 :=
  if rem.msb != bit then (rem <<< 1) ^^^ 0x1021#16 else rem <<< 1

/-- One byte, from its most significant bit down. -/
def crcByte (rem : BitVec 16) (b : Byte) : BitVec 16 :=
  [7, 6, 5, 4, 3, 2, 1, 0].foldl (fun r i => crcBit r (b.getLsbD i)) rem

/-- The remainder over a sequence of bytes, from FFFFh. -/
def crc (bytes : List Byte) : BitVec 16 := bytes.foldl crcByte 0xFFFF#16

/-! ### The record on the wire (R27, R28) -/

/-- Record byte 5: the common flags. -/
def flagsByte (c : Content) : Byte :=
  byteOfBits [c.maint, c.estopActive, c.lineAOk, c.lineBOk, c.duplicateSeen]

/-- Record bytes 6 to 13: the role payload. -/
def payloadBytes : Payload → List Byte
  | .corner position outSpeed goal intent bolt brakeReleased seat tripCause =>
    [hiByte position, loByte position, hiByte outSpeed, loByte outSpeed, hiByte goal, loByte goal,
      byteOf (intent.toNat + 4 * bolt.toNat + 32 * flagNat brakeReleased + 64 * flagNat seat), tripCause]
  | .approach arm0 arm1 arm2 arm3 loops deckPresent closureIntact stopSignalOk heldStage lampSummary tripCause =>
    [byteOf (arm0.toNat + 16 * arm1.toNat), byteOf (arm2.toNat + 16 * arm3.toNat),
      byteOf (loops.toNat + 16 * flagNat deckPresent + 32 * flagNat closureIntact + 64 * flagNat stopSignalOk),
      heldStage, lampSummary, tripCause, 0, 0]
  | .channel aspect vesselPresent vesselAlert channelClosed manualStop lampSummary tripCause =>
    [aspect, byteOfBits [vesselPresent, vesselAlert, channelClosed, manualStop], lampSummary, tripCause, 0, 0, 0, 0]
  | .desk demand goal clearCount deskEnabled reducedCeiling tripCause =>
    [demand, hiByte goal, loByte goal, clearCount, byteOfBits [deskEnabled, reducedCeiling], tripCause, 0, 0]

/-- Record bytes 1 to 13. -/
def recordBody (number : Nat) (role : Role) (sequence digest : Byte) (c : Content) : List Byte :=
  byteOf (number % 16 + 16 * roleCode role + 64 * flagNat c.tripped + 128 * flagNat c.startInhibit) ::
    sequence :: c.phase :: digest :: flagsByte c :: payloadBytes c.payload

/-- The 16 characters of a record: SYNC, the body, and CHECK with its high byte first. -/
def recordFrame (number : Nat) (role : Role) (sequence digest : Byte) (c : Content) : List Byte :=
  let body := recordBody number role sequence digest c
  0xC3#8 :: (body ++ [hiByte (crc body), loByte (crc body)])

/-- The role payload of record bytes 6 to 13, read by the ROLE; bits marked zero are ignored. -/
def payloadOf (role : Role) (b6 b7 b8 b9 b10 b11 b12 b13 : Byte) : Payload :=
  match role with
  | .corner =>
    .corner (wordOf b6 b7) (wordOf b8 b9) (wordOf b10 b11) (b12.extractLsb' 0 2) (b12.extractLsb' 2 3)
      (b12.getLsbD 5) (b12.getLsbD 6) b13
  | .approach =>
    .approach (b6.extractLsb' 0 4) (b6.extractLsb' 4 4) (b7.extractLsb' 0 4) (b7.extractLsb' 4 4) (b8.extractLsb' 0 4)
      (b8.getLsbD 4) (b8.getLsbD 5) (b8.getLsbD 6) b9 b10 b11
  | .channel => .channel b6 (b7.getLsbD 0) (b7.getLsbD 1) (b7.getLsbD 2) (b7.getLsbD 3) b8 b9
  | .desk => .desk b6 (wordOf b7 b8) b9 (b10.getLsbD 0) (b10.getLsbD 1) b11

/-- A well-formed frame as the Peer Table reads it. -/
structure Frame where
  source : Nat
  role : Role
  sequence : Byte
  digest : Byte
  content : Content
  deriving DecidableEq, Repr

/-- The first check of R11: exactly 16 characters without framing error (R26), SYNC, CHECK over bytes 1 to 13 (R29), and a
SOURCE of 0 to 11. -/
def readFrame (r : Received) : Option Frame :=
  if r.count = 16 ∧ r.framingError = false then
    match r.chars with
    | [b0, b1, b2, b3, b4, b5, b6, b7, b8, b9, b10, b11, b12, b13, b14, b15] =>
      if b0 = 0xC3#8 ∧ wordOf b14 b15 = crc [b1, b2, b3, b4, b5, b6, b7, b8, b9, b10, b11, b12, b13] ∧
          (b1.extractLsb' 0 4).toNat < 12 then
        let role := roleOfCode (b1.extractLsb' 4 2).toNat
        some {
          source := (b1.extractLsb' 0 4).toNat
          role := role
          sequence := b2
          digest := b4
          content := {
            tripped := b1.getLsbD 6
            startInhibit := b1.getLsbD 7
            phase := b3
            maint := b5.getLsbD 0
            estopActive := b5.getLsbD 1
            lineAOk := b5.getLsbD 2
            lineBOk := b5.getLsbD 3
            duplicateSeen := b5.getLsbD 4
            payload := payloadOf role b6 b7 b8 b9 b10 b11 b12 b13 } }
      else none
    | _ => none
  else none

/-! ### Order frames (R194) -/

/-- The order that a frame's bytes spell: the order code fixes the length, and values go high byte first. -/
def parseOrder (frame : List Byte) : Option Order :=
  match frame with
  | [] => none
  | code :: args =>
    match code.toNat, args with
    | 0x01, [i, v3, v2, v1, v0] => some (.setItem i (v3 ++ v2 ++ v1 ++ v0))
    | 0x02, [r0, r1, r2, r3, r4, r5] => some (.setRoster (r0 ++ r1 ++ r2 ++ r3 ++ r4 ++ r5))
    | 0x03, [] => some .run
    | 0x04, [] => some .enableReset
    | 0x05, [] => some .reset
    | 0x06, [m2, m1, m0] => some (.setMask (m2 ++ m1 ++ m0))
    | 0x07, [t] => some (.setThreshold t)
    | 0x08, [] => some .clearInhibit
    | 0x09, [] => some .setInhibit
    | 0x0A, [] => some .clearTrip
    | 0x0B, [] => some .home
    | 0x0C, [a] => some (.armAccept a)
    | 0x0D, [a] => some (.armReset a)
    | 0x0E, [] => some .navAccept
    | 0x0F, [d] => some (.demand d)
    | 0x10, [h1, h0] => some (.setGoal (h1 ++ h0))
    | 0x11, [] => some .clearRequest
    | _, _ => none

/-- Order codes (R194), the SUBJECT of an ORDER_RESULT (R195). -/
def orderCode : Order → Nat
  | .setItem _ _ => 0x01
  | .setRoster _ => 0x02
  | .run => 0x03
  | .enableReset => 0x04
  | .reset => 0x05
  | .setMask _ => 0x06
  | .setThreshold _ => 0x07
  | .clearInhibit => 0x08
  | .setInhibit => 0x09
  | .clearTrip => 0x0A
  | .home => 0x0B
  | .armAccept _ => 0x0C
  | .armReset _ => 0x0D
  | .navAccept => 0x0E
  | .demand _ => 0x0F
  | .setGoal _ => 0x10
  | .clearRequest => 0x11

/-! ### Configuration items (R204) -/

/-- The range of item `n` in R204's table, as it stands with this store: the clearance height and the reduced ceiling end
at the stored open height. -/
def itemRange (c : ConfigStore) (n : Nat) : Option (Nat × Nat) :=
  match n with
  | 1 => some (0, 1)
  | 2 => some (100, 1000)
  | 3 => some (1000, 200000)
  | 4 => some (1000, 29000)
  | 5 => some (500, c.item 4)
  | 6 => some (0, 2000)
  | 7 => some (2, 50)
  | 8 => some (10, 500)
  | 9 => some (50, 500)
  | 10 => some (10, 500)
  | 11 => some (1, 50)
  | 12 => some (1, 50)
  | 13 => some (1, 20)
  | 14 => some (0, 32)
  | 15 => some (0, 50)
  | 16 => some (10, 300)
  | 17 => some (10, 600)
  | 18 => some (100, 5000)
  | 19 => some (0, 60000)
  | 20 => some (200, 5000)
  | 21 => some (1, 30)
  | 22 => some (1, 10)
  | 23 => some (100, 29000)
  | 24 => some (500, c.item 4)
  | 25 => some (3, 10)
  | 26 => some (2, 30)
  | 27 => some (5, 120)
  | 28 => some (2, 20)
  | 29 => some (1, 10)
  | 30 => some (1, 5)
  | 31 => some (10, 600)
  | 32 => some (100, 1000)
  | 33 => some (800, 1500)
  | 34 => some (10, 200)
  | 35 => some (0, 2)
  | 36 => some (0, 2)
  | 37 => some (0, 2)
  | 38 => some (0, 2)
  | 39 => some (0, 0x1FFFFFF)
  | _ => none

/-- The items kept in 10 ms steps (R204). -/
def itemInSteps (n : Nat) : Bool := n == 2 || n == 32 || n == 33

/-- The value SET_ITEM stores for item `n`: rounded down to its step, bits above bit 24 dropped from the input report mask,
then clamped to the range (R204). -/
def itemStored (range : Nat × Nat) (n value : Nat) : Nat :=
  if n = 39 then value % 0x2000000
  else clampNat range.1 range.2 (if itemInSteps n then value / 10 * 10 else value)

/-- Writes one item. -/
def storeItem (c : ConfigStore) (n value : Nat) : ConfigStore :=
  if h : n - 1 < 39 then { items := c.items.set (n - 1) value h } else c

/-- The store after SET_ITEM stores `value` in item `n`: writing the open height also lowers the clearance height and the
reduced ceiling to it (R204). -/
def writeItem (c : ConfigStore) (n value : Nat) : ConfigStore :=
  if n = 4 then
    storeItem (storeItem (storeItem c 4 value) 5 (min (c.item 5) value)) 24 (min (c.item 24) value)
  else storeItem c n value

/-! ### The roster (R205) -/

/-- The 4-bit roster code of station `j`: the high half of the first byte is station 0. -/
def rosterCode (codes : BitVec 48) (j : Fin 12) : BitVec 4 := codes.extractLsb' (4 * (11 - j.val)) 4

/-- A roster code is 0 to 3, or 15 for "not present". -/
def rosterCodeOk (code : BitVec 4) : Bool := decide (code.toNat < 4) || code == 15#4

/-- The roster entry of a code. -/
def rosterEntry (code : BitVec 4) : Option Role := if code.toNat < 4 then some (roleOfCode code.toNat) else none

/-- The roster that SET_ROSTER's codes give. -/
def rosterOf (codes : BitVec 48) : Vector (Option Role) 12 :=
  let e := fun j => rosterEntry (rosterCode codes j)
  #v[e 0, e 1, e 2, e 3, e 4, e 5, e 6, e 7, e 8, e 9, e 10, e 11]

/-! ### Images -/

/-- The 8 bytes of a report (R196). -/
def reportBytes (r : Report) : List Byte :=
  [byteOf (kindCode r.kind), hiByte r.time, loByte r.time, r.subject, r.old, r.new, r.extra1, r.extra2]

/-- The first 16 bytes of a peer table slot's image (R203): `role` is the roster's, `entry` the slot's entry. -/
def peerImage (j : Fin 12) (role : Option Role) (entry : Option Entry) : List Byte :=
  let roster := (role.map fun r => 16 * roleCode r + 64).getD 0
  match entry with
  | none => byteOf (j.val + roster) :: List.replicate 15 0
  | some e =>
    let status := freshnessCode e.freshness + 8 * flagNat e.seenA + 16 * flagNat e.seenB
    match e.heard with
    | none => byteOf (j.val + roster + 128) :: byteOf status :: List.replicate 14 0
    | some h =>
      [byteOf (j.val + roster + 128),
        byteOf (status + 4 * flagNat h.digestOk + 32 + 64 * flagNat h.content.tripped +
          128 * flagNat h.content.startInhibit),
        h.lastSequence, h.lastDigest, hiByte (BitVec.ofNat 16 h.age), loByte (BitVec.ofNat 16 h.age),
        h.content.phase, flagsByte h.content] ++ payloadBytes h.content.payload

end Sys2Proof.Machine
end

