-- ==== Sys2Proof/Machine/Flags.lean ====
section
/-! DEFINITION. Every flag and value that the spec defines as a function of the state: limit patterns, the published fields
of each role, the own record's content, the views of section 1.5, entry tests of the corner chapters, ATTN. -/

namespace Sys2Proof.Machine

/-! ### Limit patterns -/

/-- An arm's limit pattern (R118); for the bolt, `atFirst` is AT_WITHDRAWN and `atSecond` AT_DRIVEN (R70). -/
inductive LimitPattern where
  | atFirst | atSecond | travelling | invalid
  deriving DecidableEq, Repr

/-- The pattern of two limit inputs (R70, R118). -/
def limitPattern (first second : Bool) : LimitPattern :=
  match first, second with
  | true, false => .atFirst
  | false, true => .atSecond
  | false, false => .travelling
  | true, true => .invalid

/-- The bolt's pattern: FI1 withdrawn limit, FI2 driven limit (R70). -/
def State.boltPattern (s : State) : LimitPattern := limitPattern (s.filtered 1) (s.filtered 2)

/-- An arm's pattern: upper limit first (R118). -/
def State.armPattern (s : State) (i : Fin 4) : LimitPattern :=
  limitPattern (s.filtered (upperInput i)) (s.filtered (lowerInput i))

/-! ### Lamps -/

/-- The output is on in this mode and half (R138, R139). -/
def modeOn (m : LampMode) (h : FlashHalf) : Bool :=
  match m, h with
  | .off, _ => false
  | .steady, _ => true
  | .flashA, .a => true
  | .flashA, .b => false
  | .flashB, .a => false
  | .flashB, .b => true

/-- A lamp output is on. -/
def State.lampOn (s : State) (i : Fin 16) : Bool := modeOn (s.lamp i).mode s.signal.half

/-- The output is a proved output of its role: LO0 to LO5 at an APPROACH, LO0 to LO4 at a CHANNEL (R141, R152). -/
def provedOutput (r : Role) (i : Fin 16) : Bool :=
  match r with
  | .approach => decide (i.val < 6)
  | .channel => decide (i.val < 5)
  | .corner => false
  | .desk => false

/-- A proving state counted in LAMP_SUMMARY: FAILED or STUCK_ON. -/
def lampFaulty (p : Proving) : Bool := p == .failed || p == .stuckOn

/-- The number of the station's outputs that are FAILED or STUCK_ON: LAMP_SUMMARY (R100, R147, R157). -/
def State.lampSummary (s : State) : Nat := (lampOutputs.filter fun i => lampFaulty (s.lamp i).proving).length

/-- A lamp's proving state is FAILED. -/
def State.lampFailed (s : State) (i : Fin 16) : Bool := (s.lamp i).proving == .failed

/-- At least one of RED_1 and RED_2 is not FAILED: STOP_SIGNAL_OK (R100), and the red test of R163. -/
def State.stopSignalOk (s : State) : Bool := !(s.lampFailed 0 && s.lampFailed 1)

/-! ### Sounders -/

/-- The pattern's step is an on step (R149). -/
def stepOn (p : Pattern) (step : Nat) : Bool :=
  match p with
  | .long => true
  | .alert => step % 2 == 0

/-- A sounder output is asserted (R148). -/
def State.sounderOn (s : State) (k : Fin 2) : Bool :=
  (s.sounder k).steady || ((s.sounder k).running.map fun r => stepOn r.1 r.2).getD false

/-! ### The trip record -/

/-- TRIP_CAUSE: the first code in the trip record, or 0 (R179). -/
def State.tripCause (s : State) : Nat := (s.trip.causes.head?.map causeCode).getD 0

/-! ### Approach -/

/-- An arm's state is this one. -/
def State.armIs (s : State) (i : Fin 4) (x : ArmState) : Bool := (s.arm i).state == some x

/-- An arm is down: LOWERED or MANUAL (R101). -/
def State.armDown (s : State) (i : Fin 4) : Bool := s.armIs i .lowered || s.armIs i .manual

/-- An arm's state is a FAULT. -/
def State.armFaulted (s : State) (i : Fin 4) : Bool :=
  match (s.arm i).state with
  | some (.fault _) => true
  | _ => false

/-- Every fitted ENTRY arm is down (R101, R105). -/
def State.entryArmsDown (s : State) : Bool := arms.all fun i => !s.isEntryArm i || s.armDown i

/-- Every fitted arm is down (R108, R109). -/
def State.allArmsDown (s : State) : Bool := arms.all fun i => !s.isFitted i || s.armDown i

/-- The arm set is at rest: no fitted arm in LOWERING or RAISING (R101). -/
def State.armsAtRest (s : State) : Bool :=
  arms.all fun i => !s.isFitted i || !(s.armIs i .lowering || s.armIs i .raising)

/-- Every fitted arm is RAISED, FAULT or MANUAL (R110). -/
def State.armsReopened (s : State) : Bool :=
  arms.all fun i => !s.isFitted i || s.armIs i .raised || s.armFaulted i || s.armIs i .manual

/-- The number of fitted arms whose state is LOWERED or MANUAL (R96). -/
def State.armsDownCount (s : State) : Nat := (arms.filter fun i => s.isFitted i && s.armDown i).length

/-- CLOSURE_INTACT (R109). -/
def State.closureIntact (s : State) : Bool := s.closure.phase == some .closed && s.allArmsDown

/-- The deck clear condition (R106). -/
def State.deckClear (s : State) : Bool :=
  !s.deckPresent && arms.all fun i => !s.isExitArm i || !s.loop i

/-- HELD_STAGE as published: 0 outside HOLDING (R4, R112). -/
def State.heldStageCode (s : State) : Nat := (s.closure.heldStage.map approachCode).getD 0

/-- The closing stages (R96). -/
def closingStage : ApproachPhase → Bool
  | .amber => true
  | .redClearance => true
  | .entryLowering => true
  | .deckClearing => true
  | .exitLowering => true
  | .opened => false
  | .closed => false
  | .raisingArms => false
  | .holding => false
  | .tripped => false

/-- The arm code an approach publishes; an arm without a state publishes NOT_FITTED. -/
def State.armCodeOf (s : State) (i : Fin 4) : Nat := ((s.arm i).state.map armCode).getD 0

/-! ### Channel -/

/-- CHANNEL_CLOSED (R163). -/
def State.channelClosed (s : State) : Bool :=
  s.channel.phase == some .closedToVessels && (s.stopSignalOk || s.channel.manualStop)

/-- ASPECT_SHOWN: 0 STOP, 1 PREPARE, 2 PROCEED, 3 DARK (R5, R153, R155). -/
def State.aspect (s : State) : Nat :=
  match s.channel.phase with
  | none => 3
  | some .opening => 1
  | some .openToVessels => if s.channel.greenFallback then 0 else 2
  | some .closedToVessels => 0
  | some .closing => 0
  | some .tripped => 0

/-! ### Desk -/

/-- The published DEMAND (R172). -/
def State.publishedDemand (s : State) : Demand :=
  match s.desk.phase with
  | some .tripped => .halt
  | some .active => if s.port.startInhibit then .none else s.desk.heldDemand
  | some .inactive => .none
  | none => .none

/-- The published GOAL of a desk (R174). -/
def State.publishedGoal (s : State) : Nat := if s.publishedDemand = .raise then s.desk.requestedGoal else 0

/-! ### The own record -/

/-- The line's health is OK: LINE_A_OK, LINE_B_OK (R40). -/
def State.lineOk (s : State) (l : LinkLine) : Bool := (s.line l).health == some .ok

/-- The own role payload (R3, R4, R5, R45, R115, R167, R178). -/
def State.ownPayload (s : State) : Payload :=
  match s.role with
  | .corner =>
    .corner (BitVec.ofInt 16 s.motion.position) (BitVec.ofInt 16 s.motion.output.vOut) (BitVec.ofNat 16 s.motion.goal)
      (BitVec.ofNat 2 (intentCode s.motion.intent)) (BitVec.ofNat 3 (boltCode s.motion.bolt.state)) s.motion.brake.out
      s.seat (byteOf s.tripCause)
  | .approach =>
    .approach (BitVec.ofNat 4 (s.armCodeOf 0)) (BitVec.ofNat 4 (s.armCodeOf 1)) (BitVec.ofNat 4 (s.armCodeOf 2))
      (BitVec.ofNat 4 (s.armCodeOf 3))
      (BitVec.ofNat 4 (flagNat (s.loop 0) + 2 * flagNat (s.loop 1) + 4 * flagNat (s.loop 2) + 8 * flagNat (s.loop 3)))
      s.deckPresent s.closureIntact s.stopSignalOk (byteOf s.heldStageCode) (byteOf s.lampSummary) (byteOf s.tripCause)
  | .channel =>
    .channel (byteOf s.aspect) s.vesselPresent s.channel.vesselAlert s.channelClosed s.channel.manualStop
      (byteOf s.lampSummary) (byteOf s.tripCause)
  | .desk =>
    .desk (byteOf (demandCode s.publishedDemand)) (BitVec.ofNat 16 s.publishedGoal) (byteOf s.desk.clearCount) s.enableKey
      s.ceilingSwitch (byteOf s.tripCause)

/-- The content of the own record as its sources stand (R1, R30). -/
def State.ownContent (s : State) : Content where
  tripped := s.trip.flag
  startInhibit := s.port.startInhibit
  phase := byteOf s.phaseCode
  maint := s.maint
  estopActive := s.trip.estopFiltered
  lineAOk := s.lineOk .a
  lineBOk := s.lineOk .b
  duplicateSeen := s.duplicateTimer.isSome
  payload := s.ownPayload

/-- Feeds the Record Builder what an operation has changed of the content, also where the event changes it back (R30). -/
def feed (before after : State) : State :=
  after.setFed (after.fed || decide (before.ownContent ≠ after.ownContent))

/-! ### Entries and views (section 1.5) -/

/-- The stored content of an entry, whatever its freshness and digest. -/
def State.storedContent (s : State) (j : Fin 12) : Option Content :=
  (s.peer j).bind fun e => e.heard.map (·.content)

/-- An entry is FRESH. -/
def State.isFresh (s : State) (j : Fin 12) : Bool :=
  match s.peer j with
  | some e => e.freshness == .fresh
  | none => false

/-- The content of a qualifying entry: FRESH and DIGEST_OK (R16). -/
def State.qualifying (s : State) (j : Fin 12) : Option Content :=
  match s.peer j with
  | some e =>
    match e.heard with
    | some h => if e.freshness = .fresh ∧ h.digestOk = true then some h.content else none
    | none => none
  | none => none

/-- What a view counts of a station: self by its live state, any other by its qualifying entry (R16). -/
def State.counted (s : State) (j : Fin 12) : Option Content :=
  if j.val = s.number then some s.ownContent else s.qualifying j

/-- Every rostered station of a role meets a test (R19). -/
def State.everyStation (s : State) (r : Role) (test : Content → Bool) : Bool :=
  stations.all fun j => decide (s.rosterRole j ≠ some r) ||
    match s.counted j with
    | some c => test c
    | none => false

/-- The counted desks' published DEMAND codes and GOALs (R17, R18). -/
def State.countedDesks (s : State) : List (Byte × BitVec 16) :=
  stations.filterMap fun j =>
    match s.counted j with
    | some c =>
      match c.payload with
      | .desk demand goal _ deskEnabled _ _ => if deskEnabled then some (demand, goal) else none
      | _ => none
    | none => none

/-- The DEMAND view (R17). -/
def State.demandView (s : State) : Demand :=
  let desks := s.countedDesks
  let shows := fun (code : Byte) => desks.any fun d => d.1 == code
  if shows 3 then .halt
  else if shows 1 && shows 2 then .halt
  else if shows 1 then .raise
  else if shows 2 then .lower
  else .none

/-- The smallest nonzero number of a list, or 0. -/
def leastNonzero (xs : List Nat) : Nat := xs.foldl (fun m x => if x = 0 then m else if m = 0 then x else min m x) 0

/-- EFFECTIVE_GOAL: present while DEMAND is RAISE (R18). -/
def State.effectiveGoal (s : State) : Option Nat :=
  if s.demandView = .raise then
    some (leastNonzero ((s.countedDesks.filter fun d => d.1 == 1).map fun d => d.2.toNat))
  else none

/-- APPROACHES_CLOSED (R19). -/
def State.approachesClosed (s : State) : Bool :=
  s.everyStation .approach fun c =>
    match c.payload with
    | .approach _ _ _ _ _ _ closureIntact _ _ _ _ => c.phase == byteOf (approachCode .closed) && closureIntact
    | _ => false

/-- CHANNELS_CLOSED (R19). -/
def State.channelsClosed (s : State) : Bool :=
  s.everyStation .channel fun c =>
    match c.payload with
    | .channel _ _ _ channelClosed _ _ _ => channelClosed
    | _ => false

/-- CORNERS_READY: referenced, TRIPPED clear, START_INHIBIT clear (R3, R19). -/
def State.cornersReady (s : State) : Bool :=
  s.everyStation .corner fun c =>
    match c.payload with
    | .corner position _ _ _ _ _ _ _ => position != 0x8000#16 && !c.tripped && !c.startInhibit
    | _ => false

/-- SPAN_SEATED_LOCKED (R19). -/
def State.spanSeatedLocked (s : State) : Bool :=
  s.everyStation .corner fun c =>
    match c.payload with
    | .corner _ _ _ _ _ _ _ _ => c.phase == byteOf (cornerCode .seatedLocked)
    | _ => false

/-- SPAN_CLEAR (R19). -/
def State.spanClear (s : State) : Bool :=
  s.everyStation .corner fun c =>
    match c.payload with
    | .corner position _ _ _ _ _ _ _ =>
      c.phase == byteOf (cornerCode .raised) && decide ((s.clearanceHeight : Int) ≤ position.toInt)
    | _ => false

/-- VESSEL_ALERT_ANY (R20). -/
def State.vesselAlertAny (s : State) : Bool :=
  stations.any fun j =>
    match s.counted j with
    | some c =>
      match c.payload with
      | .channel _ _ vesselAlert _ _ _ _ => vesselAlert
      | _ => false
    | none => false

/-- At least one qualifying CHANNEL entry shows PROCEED (R177). -/
def State.channelOpenSeen (s : State) : Bool :=
  stations.any fun j =>
    match s.qualifying j with
    | some c =>
      match c.payload with
      | .channel aspect _ _ _ _ _ _ => aspect == 2
      | _ => false
    | none => false

/-- At least one qualifying entry shows TRIPPED, or the own trip flag is set (R177). -/
def State.anyTrip (s : State) : Bool :=
  s.trip.flag || stations.any fun j => ((s.qualifying j).map (·.tripped)).getD false

/-- REDUCED_CEILING is shown by a qualifying desk entry (R78). -/
def State.ceilingReduced (s : State) : Bool :=
  stations.any fun j =>
    match s.counted j with
    | some c =>
      match c.payload with
      | .desk _ _ _ _ reducedCeiling _ => reducedCeiling
      | _ => false
    | none => false

/-! ### Corner groups and entry tests (R59, R67, R79, R83, R85, R92, R94) -/

/-- The moving phases (R67). -/
def movingPhase : CornerPhase → Bool
  | .releasing => true
  | .raising => true
  | .lowering => true
  | .halting => true
  | .unreferenced => false
  | .homing => false
  | .seated => false
  | .locking => false
  | .seatedLocked => false
  | .unlocking => false
  | .unlocked => false
  | .raised => false
  | .held => false
  | .tripped => false

/-- The seated phases (R67). -/
def seatedPhase : CornerPhase → Bool
  | .seated => true
  | .locking => true
  | .seatedLocked => true
  | .unlocking => true
  | .unlocked => true
  | .unreferenced => false
  | .homing => false
  | .releasing => false
  | .raising => false
  | .raised => false
  | .lowering => false
  | .halting => false
  | .held => false
  | .tripped => false

/-- The stall window runs in the moving phases and in HOMING (R64). -/
def stallPhase (p : CornerPhase) : Bool := movingPhase p || p == .homing

/-- The corner's phase satisfies a test; false in CONFIG. -/
def State.cornerIn (s : State) (test : CornerPhase → Bool) : Bool :=
  match s.motion.phase with
  | some p => test p
  | none => false

/-- The corner is in a moving phase. -/
def State.isMoving (s : State) : Bool := s.role == .corner && s.cornerIn movingPhase

/-- The corner reads itself as referenced (R3, R45). -/
def State.ownReferenced (s : State) : Bool := s.motion.position != -32768

/-- The other rostered corners. -/
def State.otherCorners (s : State) : List (Fin 12) :=
  stations.filter fun j => decide (s.rosterRole j = some .corner) && decide (j.val ≠ s.number)

/-- A stored PHASE code is one of these corner phases. -/
def phaseCodeIn (phases : List CornerPhase) (code : Byte) : Bool := phases.any fun p => code == byteOf (cornerCode p)

/-- The positions the skew is computed over: the own POSITION, and that of every corner entry that is FRESH or STALE,
referenced and DIGEST_OK (R59, R187). -/
def State.skewPositions (s : State) : List Int :=
  s.motion.position :: s.otherCorners.filterMap fun j =>
    match s.peer j with
    | some e =>
      match e.heard with
      | some h =>
        match h.content.payload with
        | .corner position _ _ _ _ _ _ _ =>
          if (e.freshness = .fresh ∨ e.freshness = .stale) ∧ h.digestOk = true ∧ position ≠ 0x8000#16 then
            some position.toInt else none
        | _ => none
      | none => none
    | none => none

/-- The difference between the highest and the lowest of some positions; 0 of none. -/
def spread (xs : List Int) : Int :=
  match xs with
  | [] => 0
  | x :: rest => rest.foldl max x - rest.foldl min x

/-- The skew (R59). -/
def State.skewNow (s : State) : Int := spread s.skewPositions

/-- The skew limit in force (R59, R187). -/
def State.skewLimitInForce (s : State) : Int := if s.maint then s.maintSkewLimit else s.skewLimit

/-- The positions of the levelling participants other than self (R57). -/
def State.levellingPeers (s : State) : List Int :=
  s.otherCorners.filterMap fun j =>
    match s.qualifying j with
    | some c =>
      match c.payload with
      | .corner position _ _ _ _ _ _ _ =>
        if position ≠ 0x8000#16 ∧ c.tripped = false then some position.toInt else none
      | _ => none
    | none => none

/-- The raising goals: nonzero GOALs of qualifying corner entries in RAISING or releasing up (R83). -/
def State.raisingGoals (s : State) : List Nat :=
  s.otherCorners.filterMap fun j =>
    match s.qualifying j with
    | some c =>
      match c.payload with
      | .corner _ _ goal intent _ _ _ _ =>
        if goal ≠ 0 ∧ (phaseCodeIn [.raising] c.phase = true ∨
            (phaseCodeIn [.releasing] c.phase = true ∧ intent = 1#2)) then some goal.toNat else none
      | _ => none
    | none => none

/-- A rostered corner entry's stored PHASE is one of these, whatever its freshness and digest (R85). -/
def State.someCornerStoredIn (s : State) (phases : List CornerPhase) : Bool :=
  s.otherCorners.any fun j => ((s.storedContent j).map fun c => phaseCodeIn phases c.phase).getD false

/-- Every rostered corner other than self has a qualifying entry that meets a test (R74, R79). -/
def State.everyOtherCorner (s : State) (test : Content → Bool) : Bool :=
  s.otherCorners.all fun j => ((s.qualifying j).map test).getD false

/-- A rostered corner entry has a stored TRIPPED flag (R92). -/
def State.someCornerTripped (s : State) : Bool :=
  s.otherCorners.any fun j => ((s.storedContent j).map (·.tripped)).getD false

/-- A rostered corner entry whose stored PHASE is a moving phase has an AGE of 30 or more (R94). -/
def State.someCornerSilent (s : State) : Bool :=
  s.otherCorners.any fun j =>
    match (s.peer j).bind (·.heard) with
    | some h => phaseCodeIn [.releasing, .raising, .lowering, .halting] h.content.phase && decide (silentAge ≤ h.age)
    | none => false

/-- A rostered corner entry other than self is not FRESH (R186). -/
def State.someCornerNotFresh (s : State) : Bool := s.otherCorners.any fun j => !s.isFresh j

/-- The corner is on its seat (R68). -/
def State.onSeat (s : State) : Bool :=
  s.seat && s.motion.encoder.referenced && decide ((s.motion.pos.natAbs : Int) ≤ s.seatTolerance)

/-- The drive condition of the bolt (R72). -/
def State.driveCondition (s : State) : Bool := s.seat && decide ((s.motion.pos.natAbs : Int) ≤ s.seatTolerance)

/-- P is outside the overtravel range while the test of R65 is made. -/
def State.overtravelled (s : State) : Bool :=
  s.motion.encoder.referenced && !s.maint &&
    (decide ((s.openHeight : Int) + s.overtravelMargin < s.motion.pos) || decide (s.motion.pos < -s.overtravelMargin))

/-! ### Permissions (R73 to R75) -/

/-- The unlock permission (R73). -/
def State.unlockPermission (s : State) : Bool :=
  s.demandView == .raise && s.approachesClosed && s.cornersReady && s.ownReferenced && !s.port.startInhibit

/-- A vessel alert stands while P is at or above the clearance height (R74, R87). -/
def State.vesselHigh (s : State) : Bool := s.vesselAlertAny && decide ((s.clearanceHeight : Int) ≤ s.motion.pos)

/-- The lowering permission (R74). -/
def State.loweringPermission (s : State) : Bool :=
  s.demandView == .lower && s.channelsClosed && s.everyOtherCorner (fun c => !c.tripped) &&
    s.motion.bolt.state == .withdrawn && !s.vesselHigh

/-- The raising permission (R75). -/
def State.raisingPermission (s : State) : Bool :=
  s.demandView == .raise && s.cornersReady && !s.port.startInhibit && s.motion.bolt.state == .withdrawn &&
    !s.motion.leftBehind

/-- The LEFT_BEHIND test of R85. -/
def State.leftBehindFound (s : State) : Bool :=
  decide (s.seatTolerance < s.motion.pos) && s.demandView == .raise && s.someCornerStoredIn [.locking, .seatedLocked]

/-! ### ATTN (R199) -/

/-- Some latched condition is not masked. -/
def State.unmaskedCondition (s : State) : Bool := s.port.conditions &&& ~~~s.port.mask != 0

/-- ATTN is asserted (R199). DESIGN CHOICE (log entry 40): a strapped number of 12 or more does not keep it asserted once the
reports and conditions are read (R211). -/
def State.attn (s : State) : Bool := decide (s.port.threshold ≤ s.port.reports.length) || s.unmaskedCondition

/-- The number of latched conditions. -/
def State.latchedCount (s : State) : Nat := ((List.range 24).filter fun n => s.port.conditions.getLsbD n).length

end Sys2Proof.Machine
end

