-- ==== Sys2Proof/Machine/Signal.lean ====
section
/-! DEFINITION. The Signal Unit: lamp modes, on-phases and proving (R138 to R147), and the sounders' pattern players
(R148 to R150). A change of a proving state is reported here; the role block hears of it from the commands of FieldCommands.lean. -/

namespace Sys2Proof.Machine

/-! ### Proving -/

/-- Sets a proving state; a change gives a LAMP report, feeds the fields that follow it (R100, R167), and latches LAMP_FAULT where it
is into FAILED or STUCK_ON (R147).
DESIGN CHOICE (log entry 24): the report comes before what the role block reports of the same change. -/
def setProving (i : Fin 16) (p : Proving) (s : State) : State :=
  let old := (s.lamp i).proving
  if old = p then s
  else
    let s1 := feed s (s.onLamp i fun l => { l with proving := p })
    let s2 := report .lamp i.val (provingCode old) (provingCode p) (modeCode (s1.lamp i).mode) s1.lampSummary s1
    if p = .failed ∨ p = .stuckOn then latch .lampFault s2 else s2

/-- The proving state after a window that succeeds (R143). -/
def provingAfterSuccess (p : Proving) : Proving :=
  match p with
  | .unproven => .proven
  | .proven => .proven
  | .failed => .proven
  | .stuckOn => .stuckOn
  | .notProved => .notProved

/-- A proving window succeeds: a steady on-phase is watched from here (R143, R144). -/
def windowSucceeds (i : Fin 16) (s : State) : State :=
  let s1 := s.onLamp i fun l => { l with window := none, watched := l.mode == .steady }
  setProving i (provingAfterSuccess (s1.lamp i).proving) s1

/-- A proving window fails (R143). -/
def windowFails (i : Fin 16) (s : State) : State :=
  setProving i .failed (s.onLamp i fun l => { l with window := none, watched := false })

/-- An on-phase of a proved output begins: the dark timer stops and a proving window opens, which succeeds at once where
current is already sensed (R143, R145). -/
def beginOnPhase (i : Fin 16) (s : State) : State :=
  if provedOutput s.role i then
    let s1 := s.onLamp i fun l => { l with darkTimer := none, watchTimer := none, watched := false }
    if (s1.lamp i).sensed then windowSucceeds i s1
    else s1.onLamp i fun l => { l with window := some s.provingTime }
  else s

/-- The dark timer of a lamp that turns off: it measures current, or its absence in STUCK_ON (R145). -/
def darkAtTurnOff (l : Lamp) : Timer :=
  if l.proving = .stuckOn then (if l.sensed then none else some darkTime)
  else (if l.sensed then some darkTime else none)

/-- An on-phase of a proved output ends, by the timebase (an open window fails) or by request (it is abandoned); the watch
ends with it (R140, R143, R144, R146). -/
def endOnPhase (i : Fin 16) (byTimebase : Bool) (s : State) : State :=
  if provedOutput s.role i then
    let s1 := if byTimebase && (s.lamp i).window.isSome then windowFails i s else s
    s1.onLamp i fun l =>
      { l with window := none, watched := false, watchTimer := none, darkTimer := darkAtTurnOff l }
  else s

/-- A mode request (R138 to R140): a change of mode ends the on-phase in progress and begins a new one where the new mode
has the output on. -/
def requestMode (i : Fin 16) (m : LampMode) (s : State) : State :=
  if (s.lamp i).mode = m then s
  else
    let s1 := if s.lampOn i then endOnPhase i false s else s
    let s2 := s1.onLamp i fun l => { l with mode := m }
    if s2.lampOn i then beginOnPhase i s2 else s2

/-- A new on-phase without darkening: OFF and then STEADY in one event (R98, R140, R155). -/
def requestAnew (i : Fin 16) (s : State) : State := requestMode i .steady (requestMode i .off s)

/-- Requests a row of modes. -/
def requestRow (row : List (Fin 16 × LampMode)) (s : State) : State :=
  row.foldl (fun t r => requestMode r.1 r.2 t) s

/-- Each red lamp whose proving state is FAILED is given a new on-phase (R98, R155). -/
def renewFailedReds (s : State) : State :=
  let s1 := if s.lampFailed 0 then requestAnew 0 s else s
  if s1.lampFailed 1 then requestAnew 1 s1 else s1

/-- A sense event: current becomes sensed or absent on a proved output (R142 to R145). -/
def senseEvent (i : Fin 16) (sensed : Bool) (s : State) : State :=
  if provedOutput s.role i = true ∧ (s.lamp i).sensed ≠ sensed then
    let on := s.lampOn i
    let s1 := s.onLamp i fun l => { l with sensed := sensed }
    if on then
      if sensed then
        if (s1.lamp i).window.isSome then windowSucceeds i s1 else s1.onLamp i fun l => { l with watchTimer := none }
      else
        s1.onLamp i fun l => { l with watchTimer := if l.watched then some s.provingTime else l.watchTimer }
    else s1.onLamp i fun l => { l with darkTimer := darkAtTurnOff l }
  else s

/-- The proving timer expires: the window fails (R143). -/
def provingExpiry (i : Fin 16) (s : State) : State :=
  if (s.lamp i).window.isSome then windowFails i s else s

/-- The watch timer expires: the lamp is FAILED and no longer watched (R144). -/
def watchExpiry (i : Fin 16) (s : State) : State :=
  if (s.lamp i).watchTimer.isSome then
    setProving i .failed (s.onLamp i fun l => { l with watchTimer := none, watched := false })
  else s

/-- The dark timer expires: STUCK_ON, or back to UNPROVEN from it (R145). -/
def darkExpiry (i : Fin 16) (s : State) : State :=
  if (s.lamp i).darkTimer.isSome then
    setProving i (if (s.lamp i).proving = .stuckOn then .unproven else .stuckOn)
      (s.onLamp i fun l => { l with darkTimer := none })
  else s

/-- The other half. -/
def otherHalf : FlashHalf → FlashHalf
  | .a => .b
  | .b => .a

/-- The half timer expires: the outputs that were on and are off in the new half end their on-phase, the others that are
now on begin one (R139, R140). -/
def flashExpiry (s : State) : State :=
  if s.signal.halfTimer.isSome then
    let old := s.signal.half
    let s1 := s.onSignal fun g => { g with half := otherHalf old, halfTimer := some s.halfFlashPeriod }
    lampOutputs.foldl (fun t i =>
      let m := (t.lamp i).mode
      if modeOn m old && !modeOn m (otherHalf old) then endOnPhase i true t
      else if !modeOn m old && modeOn m (otherHalf old) then beginOnPhase i t
      else t) s1
  else s

/-- Sets the outputs that the role does not prove NOT_PROVED, with one LAMP report for the set (R141, R147). -/
def setNotProved (s : State) : State :=
  let s1 := lampOutputs.foldl (fun t i =>
    if provedOutput s.role i then t else t.onLamp i fun l => { l with proving := .notProved }) s
  report .lamp 16 0 4 0 (lampOutputs.filter fun i => !provedOutput s.role i).length s1

/-! ### Sounders -/

/-- The length of a step (R149). -/
def stepLength (p : Pattern) : Nat :=
  match p with
  | .long => 3000
  | .alert => 500

/-- The number of steps of a pattern (R149). -/
def stepCount (p : Pattern) : Nat :=
  match p with
  | .long => 1
  | .alert => 10

/-- A pattern starts at its first step (R149). -/
def startPattern (p : Pattern) (x : Sounder) : Sounder :=
  { x with running := some (p, 0), stepTimer := some (stepLength p) }

/-- A request for a pattern (R150). -/
def requestPattern (k : Fin 2) (p : Pattern) (s : State) : State :=
  s.onSounder k fun x =>
    match x.running with
    | some (.alert, _) => { x with waiting := some p }
    | some (.long, _) => startPattern p x
    | none => startPattern p x

/-- The step timer expires: the next step begins, or the pattern ends and a waiting one starts (R149, R150). -/
def stepExpiry (k : Fin 2) (s : State) : State :=
  s.onSounder k fun x =>
    match x.stepTimer, x.running with
    | some _, some (p, step) =>
      if step + 1 < stepCount p then { x with running := some (p, step + 1), stepTimer := some (stepLength p) }
      else
        match x.waiting with
        | some w => startPattern w { x with waiting := none }
        | none => { x with running := none, stepTimer := none }
    | _, _ => x

/-- Sets a steady request (R148). -/
def requestSteady (k : Fin 2) (on : Bool) (s : State) : State := s.onSounder k fun x => { x with steady := on }

/-- The bell of an approach (R148). -/
def bell : Fin 2 := 0

/-- The horn of a channel (R148). -/
def horn : Fin 2 := 1

end Sys2Proof.Machine
end

