-- ==== Sys2Proof/Machine/Link.lean ====
section
/-! DEFINITION. The span link: SEQUENCE, pending slots, gaining the line, collisions and line health (R23, R30 to R41). -/

namespace Sys2Proof.Machine

/-- The access delay plus the collision backoff, in bit times (R35). -/
def accessDelay (s : State) (l : LinkLine) : Nat := s.number * 8 + (s.line l).collisions * 16

/-- Numbers the content at an attempt start (R31): absent reference gives 0, an equal one the counter's value, and a
different one the next value. -/
def numberSnapshot (s : State) : State :=
  s.onLink fun k =>
    match k.reference with
    | none => { k with sequence := 0, reference := some s.ownContent }
    | some r =>
      if r = s.ownContent then k else { k with sequence := k.sequence + 1, reference := some s.ownContent }

/-- The frame that an attempt sends: the own record under its SEQUENCE and the own digest (R27, R31, R34). -/
def ownFrame (s : State) : List Byte :=
  recordFrame s.number s.role s.link.sequence (s.digest.getD 0) s.ownContent

/-- An attempt starts: CHANGED is cleared, the content numbered and the frame formed, and the spacing and refresh timers
restart where this is a transmission start (R33, R34). The own receiver ignores the line from here (R38). -/
def startAttempt (l : LinkLine) (s : State) : State :=
  let s1 := numberSnapshot s
  let first := (s.line l).slot == .full false
  s1.onLine l fun u =>
    { u with
      changed := false
      slot := .full true
      spacingTimer := if first then some spacingTime else u.spacingTimer
      refreshTimer := if first then some s.refreshInterval else u.refreshTimer
      tx := .sending
      delayTimer := none
      sending := some (ownFrame s1)
      idle := false
      ignoring := true }

/-- Enters DELAY: the delay timer starts, and expires as it starts where the delay is 0 (R35). -/
def enterDelay (l : LinkLine) (s : State) : State :=
  if accessDelay s l = 0 then startAttempt l s
  else s.onLine l fun u => { u with tx := .delay, delayTimer := some (accessDelay s l) }

/-- Enters GAP; a line idle for 12 bit times or more has met the gap on entry (R35). -/
def enterGap (l : LinkLine) (s : State) : State :=
  if (s.line l).idle then enterDelay l s else s.onLine l fun u => { u with tx := .gap }

/-- Fills the slot of a line; a full slot stays as it is. An IDLE transmitter goes to SPACING or GAP (R32, R34). -/
def fillSlot (l : LinkLine) (s : State) : State :=
  if (s.line l).slot = .empty then
    let s1 := s.onLine l fun u => { u with slot := .full false }
    if (s.line l).tx = .idle then
      if (s.line l).spacingTimer.isSome then s1.onLine l fun u => { u with tx := .spacing } else enterGap l s1
    else s1
  else s

/-- Fills the slot where CHANGED is set and the spacing timer does not run (R32, triggers 2 and 5). -/
def fillIfChanged (l : LinkLine) (s : State) : State :=
  if (s.line l).changed = true ∧ (s.line l).spacingTimer = none then fillSlot l s else s

/-- Fills both slots (R32, triggers 1 and 4). -/
def fillBoth (s : State) : State := fillSlot .b (fillSlot .a s)

/-- A change of content sets CHANGED on both lines, which may fill their slots (R30, R32). -/
def contentChanged (s : State) : State :=
  let s1 := s.onLine .a fun u => { u with changed := true }
  let s2 := s1.onLine .b fun u => { u with changed := true }
  fillIfChanged .b (fillIfChanged .a s2)

/-- The end of an event, taken in RUN: what it fed to the Record Builder is a change of content, also where every field has
returned to its value (R30). Changes of PHASE, of an arm's state and of what follows a lamp's proving state are
marked as they are fed; no other field changes and returns in an event without one of them. That the changes of one event are
taken together at its end is log entry 15. -/
def publish (before after : State) : State :=
  let t :=
    if before.running = true ∧ after.running = true ∧ (after.fed = true ∨ before.ownContent ≠ after.ownContent) then
      contentChanged after
    else after
  t.setFed before.fed

/-! ### Events of the transmitters -/

/-- The spacing timer expires: a set CHANGED flag fills the slot, and a transmitter in SPACING passes to GAP (R32 to R34). -/
def spacingExpiry (l : LinkLine) (s : State) : State :=
  if (s.line l).spacingTimer.isSome then
    let s1 := s.onLine l fun u => { u with spacingTimer := none }
    if (s1.line l).tx = .spacing then enterGap l s1 else fillIfChanged l s1
  else s

/-- The refresh timer expires and fills the slot (R32, R33). -/
def refreshExpiry (l : LinkLine) (s : State) : State :=
  if (s.line l).refreshTimer.isSome then fillSlot l (s.onLine l fun u => { u with refreshTimer := none }) else s

/-- The line has been idle for 12 bit times: a transmitter in GAP enters DELAY, and a frame that the receiver was ignoring
has ended (R35, R38). -/
def idleGap (l : LinkLine) (s : State) : State :=
  if (s.line l).tx = .sending then s
  else
    let s1 := s.onLine l fun u => { u with idle := true, ignoring := false }
    if (s1.line l).tx = .gap then enterDelay l s1 else s1

/-- The line is seen at the active level: a transmitter in DELAY returns to GAP (R35). -/
def deferLine (l : LinkLine) (s : State) : State :=
  s.onLine l fun u =>
    { u with
      idle := false
      tx := if u.tx = .delay then .gap else u.tx
      delayTimer := if u.tx = .delay then none else u.delayTimer }

/-- The delay timer expires in DELAY: an attempt starts (R34). -/
def delayExpiry (l : LinkLine) (s : State) : State :=
  if (s.line l).tx = .delay ∧ (s.line l).delayTimer.isSome = true then startAttempt l s else s

/-- The condition of a jam on a line (R37). -/
def jamCondition : LinkLine → Condition
  | .a => .linkJamA
  | .b => .linkJamB

/-- The condition of a silent line (R39). -/
def silentCondition : LinkLine → Condition
  | .a => .lineASilent
  | .b => .lineBSilent

/-- A line's number: 0 for A, 1 for B (R41). -/
def lineNumber : LinkLine → Nat
  | .a => 0
  | .b => 1

/-- A health code, 3 where there is no health state (R202). -/
def healthCodeOf (h : Option Health) : Nat := (h.map healthCode).getD 3

/-- The line as a collision leaves it. The first bit of a frame is a start bit, so a collision there (`atFirst`) has read the
idle level: nothing has taken the line from the idle level that the attempt found, and the idle gap stands as met (R35, R37). A
later collision follows bits read back at the active level. Either way the receiver goes on ignoring the line (R38). -/
def releaseLine (l : LinkLine) (atFirst : Bool) (s : State) : State :=
  s.onLine l fun u => { u with sending := none, idle := atFirst }

/-- A collision: the line is released and the count rises; at the jam limit the slot is emptied (R36, R37). Below it the
transmitter returns to GAP, and straight to DELAY where the gap stands as met (R35). -/
def collide (l : LinkLine) (atFirst : Bool) (s : State) : State :=
  if (s.line l).tx = .sending then
    let s1 := releaseLine l atFirst s
    if (s.line l).collisions + 1 < jamLimit then
      enterGap l (s1.onLine l fun u => { u with collisions := u.collisions + 1 })
    else
      let s2 := s1.onLine l fun u => { u with tx := .idle, collisions := 0, slot := .empty }
      let h := healthCodeOf (s.line l).health
      fillIfChanged l (report .link (lineNumber l) h h 2 jamLimit (latch (jamCondition l) s2))
  else s

/-- The last stop bit is read back as sent: the slot is emptied and the count set to 0 (R34, R36). The own receiver ignores the
line until this frame ends by the end-of-frame test, 2 bit times later (R38, log entry 13). -/
def completeTransmission (l : LinkLine) (s : State) : State :=
  if (s.line l).tx = .sending then
    fillIfChanged l (s.onLine l fun u => { u with tx := .idle, sending := none, collisions := 0, slot := .empty })
  else s

/-! ### Line health -/

/-- Sets a line's health, with the LINK report of a change (R39, R41). -/
def setHealth (l : LinkLine) (h : Health) (extra : Nat) (s : State) : State :=
  let old := (s.line l).health
  if old = some h then s
  else
    report .link (lineNumber l) (healthCodeOf old) (healthCode h) 1 extra
      (s.onLine l fun u => { u with health := some h })

/-- A valid frame of this SOURCE on the line: the health timer restarts and the line is OK (R39). -/
def validFrame (l : LinkLine) (source : Nat) (s : State) : State :=
  setHealth l .ok source (s.onLine l fun u => { u with healthTimer := some s.staleTime })

/-- The health timer expires: the line is SILENT (R39). -/
def healthExpiry (l : LinkLine) (s : State) : State :=
  if (s.line l).healthTimer.isSome then
    setHealth l .silent 255 (latch (silentCondition l) (s.onLine l fun u => { u with healthTimer := none }))
  else s

end Sys2Proof.Machine
end

