-- ==== Sys2Proof/Machine/Drive.lean ====
section
/-! DEFINITION. A corner's position, output stage, brake controller and bolt controller, and the entry into a corner phase
with the actions that every entry takes (R42 to R46, R58 to R62, R64, R67, R70 to R72, R76, R78, R80, R82, R90, R95). -/

namespace Sys2Proof.Machine

/-! ### Position (R44 to R46) -/

/-- The position of a count, truncated toward zero (R44). -/
def positionOfCount (s : State) (count : Int) : Int := (count * 1000).tdiv s.countsPerMetre

/-- The published POSITION of a position: saturated, or −32,768 while unreferenced (R45). -/
def publishedPosition (referenced : Bool) (p : Int) : Int := if referenced then clampInt (-1000) 30000 p else -32768

/-- Forms P from the count. -/
def formPosition (s : State) : State :=
  s.onMotion fun m => { m with pos := positionOfCount s m.encoder.count.toInt }

/-- Sets POSITION from P and the referenced flag (R45). -/
def setPosition (s : State) : State :=
  s.onMotion fun m => { m with position := publishedPosition m.encoder.referenced m.pos }

/-- Sets the count to 0, and moves the count sampled at the last expiry by the same amount (R46); P is 0. -/
def zeroCount (s : State) : State :=
  s.onMotion fun m => { m with
    pos := 0
    encoder := { m.encoder with count := 0, sampled := m.encoder.sampled - m.encoder.count.toInt } }

/-- Sets the referenced flag. -/
def setReferenced (r : Bool) (s : State) : State :=
  s.onMotion fun m => { m with encoder := { m.encoder with referenced := r } }

/-! ### Output stage (R58, R60 to R62) -/

/-- The duty of an output speed, in ‰ (R60). -/
def dutyOf (s : State) (v : Int) : Nat := min 1000 ((v.natAbs * 1000) / s.vfs.toNat)

/-- Sets V_OUT, the direction outputs and the duty: a drop starts the dead time and blocks the other direction, and a blocked
direction asserts no output and gives a duty of 0 (R60, R61). -/
def applyOutput (v : Int) (s : State) : State :=
  let o := s.motion.output
  let dropUp := o.up && !decide (0 < v)
  let dropDown := o.down && !decide (v < 0)
  let upBlocked := o.upBlocked || dropDown
  let downBlocked := o.downBlocked || dropUp
  s.onOutput fun _ =>
    { vOut := v
      duty := if (0 < v ∧ upBlocked = true) ∨ (v < 0 ∧ downBlocked = true) then 0 else dutyOf s v
      up := decide (0 < v) && !upBlocked
      down := decide (v < 0) && !downBlocked
      deadTimer := if dropUp || dropDown then some s.deadTime else o.deadTimer
      upBlocked := upBlocked
      downBlocked := downBlocked }

/-- The dead time expires and unblocks both directions (R61). -/
def deadExpiry (s : State) : State :=
  if s.motion.output.deadTimer.isSome then
    s.onOutput fun o => { o with deadTimer := none, upBlocked := false, downBlocked := false }
  else s

/-! ### Brake controller (R80) -/

/-- A release request. -/
def releaseRequest (s : State) : State :=
  if s.motion.brake.out then s
  else s.onBrake fun _ => { out := true, settled := false, brakeTimer := some s.brakeTime, setCheckTimer := none }

/-- A set request. -/
def setRequest (s : State) : State :=
  if s.motion.brake.out then
    (s.onBrake fun _ => { out := false, settled := false, brakeTimer := none, setCheckTimer := some s.brakeTime }).onMotion
      fun m => { m with holdTimer := none }
  else s

/-! ### Bolt controller (R70 to R72) -/

/-- The bolt starts a travel to its driven limit; the drive output follows the drive condition (R71, R72). -/
def startDriving (s : State) : State :=
  s.onBolt fun _ =>
    { state := .driving, driveOut := s.driveCondition, withdrawOut := false, travelTimer := some s.boltTravelTime }

/-- The bolt starts a travel to its withdrawn limit (R71). -/
def startWithdrawing (s : State) : State :=
  s.onBolt fun _ => { state := .withdrawing, driveOut := false, withdrawOut := true, travelTimer := some s.boltTravelTime }

/-- The bolt rests in a state, with its outputs off and its timer stopped. -/
def restBolt (b : BoltState) (s : State) : State :=
  s.onBolt fun _ => { state := b, driveOut := false, withdrawOut := false, travelTimer := none }

/-- A drive command (R71). -/
def driveBolt (s : State) : State :=
  match s.motion.bolt.state with
  | .withdrawn => startDriving s
  | .driven => s
  | .driving => s
  | .withdrawing => startDriving s
  | .fault =>
    match s.boltPattern with
    | .atSecond => restBolt .driven s
    | .invalid => s
    | .travelling => startDriving s
    | .atFirst => startDriving s

/-- A withdraw command (R71). -/
def withdrawBolt (s : State) : State :=
  match s.motion.bolt.state with
  | .withdrawn => s
  | .driven => startWithdrawing s
  | .driving => startWithdrawing s
  | .withdrawing => s
  | .fault =>
    match s.boltPattern with
    | .atFirst => restBolt .withdrawn s
    | .invalid => s
    | .travelling => startWithdrawing s
    | .atSecond => startWithdrawing s

/-- In DRIVING the drive output follows the drive condition (R72). -/
def testDriveCondition (s : State) : State :=
  if s.motion.bolt.state = .driving then s.onBolt fun b => { b with driveOut := s.driveCondition } else s

/-! ### Goals (R78, R83) -/

/-- The ceiling (R78). -/
def ceilingNow (s : State) : Nat := if s.ceilingReduced then s.reducedCeiling else s.openHeight

/-- The goal a corner captures: EFFECTIVE_GOAL, with 0 taken as the open height, clamped from the clearance height to the
ceiling (R78). -/
def capturedGoal (s : State) : Nat :=
  let wanted := s.effectiveGoal.getD 0
  clampNat s.clearanceHeight (ceilingNow s) (if wanted = 0 then s.openHeight else wanted)

/-- The corner captures its goal (R78). -/
def captureGoal (s : State) : State := s.onMotion fun m => { m with goal := capturedGoal s }

/-- The least of a goal and the raising goals (R83). -/
def leastGoal (s : State) (g : Nat) : Nat := s.raisingGoals.foldl min g

/-! ### Entry into a phase -/

/-- INTENT on entering a phase; `rel` is the direction a RELEASING corner is released for (R67). -/
def intentOn (p : CornerPhase) (rel old : Intent) : Intent :=
  match p with
  | .releasing => rel
  | .raising => .up
  | .lowering => .down
  | .homing => .down
  | .halting => old
  | .unreferenced => .none
  | .seated => .none
  | .locking => .none
  | .seatedLocked => .none
  | .unlocking => .none
  | .unlocked => .none
  | .raised => .none
  | .held => .none
  | .tripped => .none

/-- The phases whose entry sets GOAL to 0 (R78). -/
def clearsGoal (p : CornerPhase) (rel : Intent) : Bool :=
  seatedPhase p || p == .lowering || p == .unreferenced || p == .homing || (p == .releasing && rel == .down)

/-- The phases whose entry forces the outputs off and sets the brake at once (R62, R80, R91, R95). -/
def forcesOff (p : CornerPhase) : Bool := seatedPhase p || p == .tripped || p == .unreferenced

/-- The profile's items on entering a phase (R49, R50). -/
def profileOn (p : CornerPhase) (working : Nat) (old : Profile) : Profile :=
  match p with
  | .raising => { vPrev := 0, braking := false, goal := some working, dir := some .up }
  | .lowering => { vPrev := 0, braking := false, goal := some 0, dir := some .down }
  | .halting => { old with goal := none }
  | .homing => { vPrev := 0, braking := false, goal := none, dir := some .down }
  | _ => { vPrev := 0, braking := false, goal := none, dir := old.dir }

/-- The stall window on entering a phase: it starts on entry from a phase without one, and stops on leaving (R64). -/
def stallOn (s : State) (p : CornerPhase) : Stall :=
  if stallPhase p then
    if s.cornerIn stallPhase then s.motion.stall
    else { timer := some s.stallTime, start := some s.motion.pos }
  else { timer := none, start := none }

/-- The commands that an entry gives the bolt (R72). -/
def boltOnEntry (p : CornerPhase) (s : State) : State :=
  if p = .locking then driveBolt s
  else if p = .unlocking then withdrawBolt s
  else if p = .held ∨ p = .unreferenced then withdrawBolt s
  else s

/-- The brake on entry: set with the outputs forced off, or released for RELEASING and HOMING, or held released in RAISED and
HELD for the hold time (R62, R79, R80, R82, R86, R90). -/
def brakeOnEntry (p : CornerPhase) (s : State) : State :=
  if forcesOff p then setRequest (applyOutput 0 s)
  else if p = .releasing ∨ p = .homing then releaseRequest s
  else if (p = .raised ∨ p = .held) ∧ s.motion.brake.out = true then
    if s.holdTime = 0 then setRequest s else s.onMotion fun m => { m with holdTimer := some s.holdTime }
  else s

/-- Entering HOMING clears the referenced flag, and the travel is measured from P at entry (R46, R54, R90). -/
def homingOnEntry (p : CornerPhase) (s : State) : State :=
  if p = .homing then
    setPosition (setReferenced false (s.onMotion fun m => { m with homingStart := some m.pos }))
  else s

/-- Enters a corner phase: the items that follow the phase, the entry actions, and the PHASE report with the published
POSITION after the change (R67). DESIGN CHOICE (log entry 30): within an expiry of the control period that is the POSITION
before step 8 of R48 renews it. -/
def enterCorner (p : CornerPhase) (rel : Intent) (s : State) : State :=
  let old := s.phaseCode
  let working := leastGoal s s.motion.goal
  let s1 := s.onMotion fun m =>
    { m with
      phase := some p
      intent := intentOn p rel m.intent
      goal := if clearsGoal p rel then 0 else m.goal
      workingGoal := if p = .raising then some working else none
      holdTimer := none
      profile := profileOn p working m.profile
      stall := stallOn s p }
  let s2 := homingOnEntry p (boltOnEntry p (brakeOnEntry p (s1.setFed true)))
  let w := BitVec.ofInt 16 s2.motion.position
  report .phase s2.number old (cornerCode p) (hiByte w).toNat (loByte w).toNat s2

end Sys2Proof.Machine
end

