-- ==== Sys2Proof/Machine/Arms.lean ====
section
/-! DEFINITION. The four arm controllers of an approach (R116 to R130, R133). -/

namespace Sys2Proof.Machine

/-! ### Motor outputs (R117) -/

/-- Brings an arm's motor outputs up to date: UP is demanded in RAISING and DOWN in LOWERING, both are held off while the
trip flag is set, DOWN never asserts under presence, a drop starts the gap timer, and the output opposite to the one that
last dropped is blocked while it runs (R117, R128). DESIGN CHOICE (log entry 39): a demand that ends while its output is blocked
drops no output, so it starts no gap timer. -/
def driveArm (i : Fin 4) (s : State) : State :=
  let a := s.arm i
  let wantUp := a.state == some .raising && !s.trip.flag
  let wantDown := a.state == some .lowering && !s.trip.flag && !s.presence i
  let dropUp := a.up && !wantUp
  let dropDown := a.down && !wantDown
  let dropped := if dropDown then some false else if dropUp then some true else a.lastDropped
  let gap := if dropUp || dropDown then some gapTime else a.gapTimer
  s.onArm i fun a =>
    { a with
      gapTimer := gap
      lastDropped := dropped
      up := wantUp && !(gap.isSome && dropped == some false)
      down := wantDown && !(gap.isSome && dropped == some true) }

/-- The gap timer expires: a demanded output asserts (R117). -/
def gapExpiry (i : Fin 4) (s : State) : State :=
  if (s.arm i).gapTimer.isSome then driveArm i (s.onArm i fun a => { a with gapTimer := none }) else s

/-! ### Changes of state (R119, R133) -/

/-- An arm state is a FAULT. -/
def isFault : ArmState → Bool
  | .fault _ => true
  | .notFitted => false
  | .raised => false
  | .lowering => false
  | .lowered => false
  | .raising => false
  | .waiting => false
  | .manual => false

/-- An arm takes a state: a change is fed (R115) and gives an ARM report of this event, an entry to FAULT or a change of cause latches
ARM_FAULT (R133), and an arm that leaves LOWERING while a hold is pending loses its command (R101). DESIGN CHOICE (log entry 37):
the report carries the retry count at this change, before what follows it in the same event. -/
def enterArm (i : Fin 4) (x : ArmState) (event : Nat) (s : State) : State :=
  let a := s.arm i
  if a.state = some x then s
  else
    let s1 := feed s (s.onArm i fun a =>
      { a with
        state := some x
        command := if a.state = some .lowering ∧ s.closure.holdPending = true then .none else a.command })
    let s2 := report .arm i.val ((a.state.map armCode).getD 0) (armCode x) event a.retry s1
    if isFault x then latch .armFault s2 else s2

/-- An arm enters FAULT: every timer but the gap timer stops (R126, R127). -/
def faultArm (i : Fin 4) (c : ArmFault) (s : State) : State :=
  enterArm i (.fault c) 1 (s.onArm i fun a =>
    { a with travelTimer := none, retryTimer := none, laneTimer := none, held := false, reversing := false })

/-! ### Lowering (R121, R122) -/

/-- The arm may begin lowering: RAISED, or WAITING with delay served set, under a standing LOWER (R121). -/
def mayLower (a : Arm) : Bool :=
  (a.state == some .raised || (a.state == some .waiting && a.delayServed)) && a.command == .lower

/-- An arm arrives below: the travel timer stops and it is LOWERED (R122). DESIGN CHOICE (log entry 24): the ARM report comes before
the PHASE report of a stage change that the arrival causes. -/
def arriveBelow (i : Fin 4) (s : State) : State :=
  enterArm i .lowered 1 (s.onArm i fun a => { a with travelTimer := none })

/-- An arm that may begin lowering begins, is held at the lane, or is OBSTRUCTED where its retry count is above the limit;
with its pattern already AT_DOWN it completes at once (R121, R129). -/
def beginLowering (i : Fin 4) (s : State) : State :=
  if mayLower (s.arm i) then
    if s.retryLimit < (s.arm i).retry then faultArm i .obstructed s
    else if s.presence i then
      if (s.arm i).held then s else s.onArm i fun a => { a with held := true, laneTimer := some laneTime }
    else
      let s1 := enterArm i .lowering 1 (s.onArm i fun a =>
        { a with held := false, laneTimer := none, retryTimer := none, reversing := false,
                 travelTimer := some s.armTravelTime })
      if s.armPattern i = .atSecond then arriveBelow i s1 else s1
  else s

/-! ### Raising (R123, R124) -/

/-- The end of a raise (R124). -/
def endRaise (i : Fin 4) (s : State) : State :=
  let a := s.arm i
  let s1 := s.onArm i fun a => { a with travelTimer := none, reversing := false }
  if a.reversing = true ∧ a.command = .lower then
    if s.retryLimit < a.retry then faultArm i .obstructed s1
    else enterArm i .waiting 1 (s1.onArm i fun a => { a with retryTimer := some s.retryDelay, delayServed := false })
  else beginLowering i (enterArm i .raised 1 s1)

/-- An arm enters RAISING; with its pattern already AT_UP the raise ends at once (R120, R123, R124). -/
def beginRaise (i : Fin 4) (reversing : Bool) (s : State) : State :=
  let s1 := enterArm i .raising 1 (s.onArm i fun a =>
    { a with reversing := reversing, held := false, laneTimer := none, retryTimer := none,
             travelTimer := some s.armTravelTime })
  if s.armPattern i = .atFirst then endRaise i s1 else s1

/-- A reversal: the retry count rises and the arm turns back (R123). -/
def reverseArm (i : Fin 4) (s : State) : State :=
  beginRaise i true (s.onArm i fun a => { a with retry := a.retry + 1 })

/-! ### Stops and commands (R120, R125, R128) -/

/-- The arm takes the state of its pattern; TRAVELLING gives WAITING with delay served set (R118, R125, R128). -/
def takePattern (i : Fin 4) (s : State) : State :=
  match s.armPattern i with
  | .atFirst => enterArm i .raised 1 s
  | .atSecond => enterArm i .lowered 1 s
  | .travelling => enterArm i .waiting 1 (s.onArm i fun a => { a with delayServed := true })
  | .invalid => faultArm i .limitPattern s

/-- A stop (R128). -/
def stopArm (i : Fin 4) (s : State) : State :=
  takePattern i (s.onArm i fun a => { a with travelTimer := none, retryTimer := none, reversing := false })

/-- The standing command of an arm changes, and the arm acts on it (R120). -/
def commandArm (i : Fin 4) (c : ArmCommand) (s : State) : State :=
  let a := s.arm i
  if a.command = c ∨ a.state = some .notFitted then s
  else
    let s1 := s.onArm i fun a => { a with command := c }
    match c, a.state with
    | .lower, some .raised => driveArm i (beginLowering i s1)
    | .lower, some .waiting => driveArm i (beginLowering i s1)
    | .raise, some .raised => s1.onArm i fun a => { a with held := false, laneTimer := none }
    | .raise, some .lowered => driveArm i (beginRaise i false s1)
    | .raise, some .lowering => driveArm i (beginRaise i false s1)
    | .raise, some .waiting => driveArm i (beginRaise i false s1)
    | .none, some .raised => s1.onArm i fun a => { a with held := false, laneTimer := none }
    | .none, some .lowering => driveArm i (stopArm i s1)
    | .none, some .waiting =>
      driveArm i (takePattern i (s1.onArm i fun a =>
        { a with retryTimer := none, delayServed := false, held := false, laneTimer := none }))
    | _, _ => s1

/-- A command to every arm that meets a test. DESIGN CHOICE (log entry 36): where several arms act in one event they act, and
report, in arm order, arm 0 first. -/
def commandArms (which : Fin 4 → Bool) (c : ArmCommand) (s : State) : State :=
  arms.foldl (fun t i => if which i then commandArm i c t else t) s

/-- An arm when the approach trips: an arm in LOWERING or RAISING is stopped, then its command becomes NONE (R114, R128). -/
def tripArm (i : Fin 4) (s : State) : State :=
  let s1 := if s.armIs i .lowering || s.armIs i .raising then stopArm i s else s
  driveArm i (commandArm i .none s1)

/-- A new closure begins: the arm controllers reset their retry counts (R101, R130). -/
def newClosure (s : State) : State := arms.foldl (fun t i => t.onArm i fun a => { a with retry := 0 }) s

/-! ### Events -/

/-- A pattern event (R118, R122, R124, R127); `old` is the pattern before it. -/
def patternEvent (i : Fin 4) (old : LimitPattern) (s : State) : State :=
  match (s.arm i).state, s.armPattern i with
  | some .raised, .invalid => driveArm i (faultArm i .limitPattern s)
  | some .lowered, .invalid => driveArm i (faultArm i .limitPattern s)
  | some .lowering, .invalid => driveArm i (faultArm i .limitPattern s)
  | some .raising, .invalid => driveArm i (faultArm i .limitPattern s)
  | some .waiting, .invalid => driveArm i (faultArm i .limitPattern s)
  | some .lowering, .atSecond => driveArm i (arriveBelow i s)
  | some .raising, .atFirst => driveArm i (endRaise i s)
  | some .raised, .travelling => if old = .atFirst then driveArm i (faultArm i .disturbed s) else s
  | some .raised, .atSecond => if old = .atFirst then driveArm i (faultArm i .disturbed s) else s
  | some .lowered, .travelling => if old = .atSecond then driveArm i (faultArm i .disturbed s) else s
  | some .lowered, .atFirst => if old = .atSecond then driveArm i (faultArm i .disturbed s) else s
  | _, _ => s

/-- A filtered change of an arm's loop or obstruction input: presence reverses a lowering arm, and an arm that may begin
lowering begins or is held (R121, R123, R129). -/
def presenceEvent (i : Fin 4) (active : Bool) (s : State) : State :=
  if (s.arm i).state = some .lowering then
    if active then driveArm i (reverseArm i s) else s
  else driveArm i (beginLowering i s)

/-- The travel timer expires (R126). -/
def armTravelExpiry (i : Fin 4) (s : State) : State :=
  if (s.arm i).travelTimer.isSome then driveArm i (faultArm i .travelTimeout s) else s

/-- The retry timer expires: delay served is set, and the arm begins lowering if LOWER stands (R125). -/
def retryExpiry (i : Fin 4) (s : State) : State :=
  if (s.arm i).retryTimer.isSome then
    driveArm i (beginLowering i (s.onArm i fun a => { a with retryTimer := none, delayServed := true }))
  else s

/-- The lane timer expires: LANE_OCCUPIED and an ARM report of event 2; the arm stays held (R129, R133). -/
def laneExpiry (i : Fin 4) (s : State) : State :=
  let a := s.arm i
  if a.laneTimer.isSome then
    let code := (a.state.map armCode).getD 0
    report .arm i.val code code 2 a.retry (latch .laneOccupied (s.onArm i fun a => { a with laneTimer := none }))
  else s

/-- The state of an arm derived at RUN (R119). -/
def derivedState (p : LimitPattern) : ArmState :=
  match p with
  | .atFirst => .raised
  | .atSecond => .lowered
  | .travelling => .fault .disturbed
  | .invalid => .fault .limitPattern

/-- Derives an arm at RUN: NOT_FITTED without a report, or the state of its pattern with one (R116, R119, R133). -/
def deriveArm (i : Fin 4) (s : State) : State :=
  let s1 := s.onArm i fun a => { a with retry := 0 }
  if s.isFitted i then enterArm i (derivedState (s.armPattern i)) 1 s1
  else s1.onArm i fun a => { a with state := some .notFitted }

/-- Derives every arm at RUN, arm 0 first (log entry 36). -/
def deriveArms (s : State) : State := arms.foldl (fun t i => deriveArm i t) s

end Sys2Proof.Machine
end

