-- ==== Sys2Proof/Machine/Roles.lean ====
section
/-! DEFINITION. Entry into a phase of an approach, a channel and a desk, with the signals, timers and commands of that entry
(R98 to R112, R153 to R166, R168 to R177). -/

namespace Sys2Proof.Machine

/-! ### Approach -/

/-- The lamp row of an approach phase (R98). -/
def approachRow (p : ApproachPhase) : List (Fin 16 × LampMode) :=
  match p with
  | .opened => [(0, .off), (1, .off), (2, .off), (3, .steady), (4, .off), (5, .off)]
  | .amber => [(0, .off), (1, .off), (2, .steady), (3, .off), (4, .flashA), (5, .flashB)]
  | _ => [(0, .steady), (1, .steady), (2, .off), (3, .off), (4, .flashA), (5, .flashB)]

/-- The phases in which the bell is requested on (R99). -/
def bellOn (p : ApproachPhase) : Bool :=
  p == .amber || p == .redClearance || p == .entryLowering || p == .raisingArms

/-- The deck clear timer follows the deck clear condition in DECK_CLEARING (R106). -/
def startDeckTimers (s : State) : State :=
  s.onClosure fun c =>
    { c with
      deckLimitTimer := some (4 * s.deckClearTime)
      deckClearTimer := if s.deckClear then some s.deckClearTime else none }

/-- The timers and arm commands of an entry, arm 0 first (R101 to R110, R112, R114; log entry 36). -/
def approachActions (p : ApproachPhase) (s : State) : State :=
  match p with
  | .opened => commandArms (fun _ => true) .none s
  | .amber => s.onClosure fun c => { c with amberTimer := some s.amberTime }
  | .redClearance => (renewFailedReds s).onClosure fun c => { c with redTimer := some s.redClearanceTime }
  | .entryLowering => commandArms s.isEntryArm .lower s
  | .deckClearing => startDeckTimers s
  | .exitLowering => commandArms s.isExitArm .lower s
  | .closed => s
  | .raisingArms => commandArms (fun i => s.isFitted i && !s.armIs i .manual) .raise s
  | .holding => commandArms (fun _ => true) .none s
  | .tripped => arms.foldl (fun t i => tripArm i t) s

/-- Enters an approach phase: the timers of the phase left stop, the hold pending flag is cleared by HOLDING and TRIPPED,
HELD_STAGE stands in HOLDING alone, the PHASE report is submitted, and the entry actions follow (R96, R103, R104, R106, R111,
R112, R114). DESIGN CHOICE (log entry 31): the report counts the arms down before the arm commands of the entry act. -/
def enterApproach (p : ApproachPhase) (held : Option ApproachPhase) (s : State) : State :=
  let old := s.phaseCode
  let s1 := s.onClosure fun c =>
    { c with
      phase := some p
      heldStage := if p = .holding then held else none
      holdPending := if p = .holding ∨ p = .tripped then false else c.holdPending
      served := false
      amberTimer := none
      redTimer := none
      deckClearTimer := none
      deckLimitTimer := none }
  let s2 := report .phase s1.number old (approachCode p) s1.heldStageCode s1.armsDownCount (s1.setFed true)
  approachActions p (requestSteady bell (bellOn p) (requestRow (approachRow p) s2))

/-! ### Channel -/

/-- The lamp row of a channel phase and its green fallback flag (R155). -/
def channelRow (p : ChannelPhase) (fallback : Bool) : List (Fin 16 × LampMode) :=
  match p with
  | .opening => [(0, .steady), (1, .steady), (2, .flashA), (3, .off), (4, .off)]
  | .openToVessels =>
    if fallback then [(0, .steady), (1, .steady), (2, .off), (3, .off), (4, .off)]
    else [(0, .off), (1, .off), (2, .off), (3, .steady), (4, .steady)]
  | _ => [(0, .steady), (1, .steady), (2, .off), (3, .off), (4, .off)]

/-- The vessel-alert flag follows FI0 and the phase; a change to set latches the condition and requests the ALERT (R165). -/
def testVesselAlert (s : State) : State :=
  let want := s.vesselPresent && s.channel.phase != some .openToVessels
  let s1 := s.onChannel fun c => { c with vesselAlert := want }
  if want = true ∧ s.channel.vesselAlert = false then requestPattern horn .alert (latch .vesselAlert s1) else s1

/-- The second EXTRA byte of a channel PHASE report: payload byte 7 (R28, R153). -/
def channelFlags (s : State) : Nat :=
  flagNat s.vesselPresent + 2 * flagNat s.channel.vesselAlert + 4 * flagNat s.channelClosed + 8 * flagNat s.channel.manualStop

/-- A green lamp is FAILED (R156). -/
def State.greenFailed (s : State) : Bool := s.lampFailed 3 || s.lampFailed 4

/-- Enters a channel phase: flags, alert, the LONG blast of a `withdrawn` PROCEED, lamps, clearing timer and PHASE report
(R153, R155, R156, R159 to R162, R164 to R166). -/
def enterChannel (p : ChannelPhase) (s : State) : State :=
  let old := s.phaseCode
  let withdrawn := s.channel.phase == some .openToVessels
  let s1 := s.onChannel fun c =>
    { c with
      phase := some p
      clearingTimer := if p = .closing ∧ s.vesselPresent = false then some s.clearingTime else none
      manualStop := if p = .opening then false else c.manualStop
      greenFallback := p == .openToVessels && s.greenFailed }
  let s2 := testVesselAlert s1
  let s3 := if withdrawn then requestPattern horn .long s2 else s2
  let s4 := report .phase s3.number old (channelCode p) s3.aspect (channelFlags s3) (s3.setFed true)
  let s5 := requestRow (channelRow p s4.channel.greenFallback) s4
  if p = .closing then renewFailedReds s5 else s5

/-- The green fallback is taken: the greens go off, the reds steady and the aspect to STOP (R156). -/
def takeFallback (s : State) : State :=
  requestRow (channelRow .openToVessels true) (s.onChannel fun c => { c with greenFallback := true })

/-! ### Desk -/

/-- An indicator's mode (R177). -/
def indicator (lit : Bool) : LampMode := if lit then .steady else .off

/-- The desk's indicators follow their tests (R177). -/
def deskIndicators (s : State) : State :=
  requestRow
    [(0, indicator s.approachesClosed), (1, indicator s.spanSeatedLocked), (2, indicator s.spanClear),
      (3, indicator s.channelOpenSeen), (4, indicator s.anyTrip), (5, indicator (s.lineOk .a && s.lineOk .b)),
      (6, indicator (s.publishedDemand == .raise)), (7, indicator (s.publishedDemand == .lower)),
      (8, indicator (s.publishedDemand == .halt))] s

/-- Enters a desk phase with this held demand (R168, R169). -/
def enterDesk (p : DeskPhase) (held : Demand) (s : State) : State :=
  let old := s.phaseCode
  let s1 := s.onDesk fun d => { d with phase := some p, heldDemand := held }
  report .phase s1.number old (deskCode p) (demandCode s1.publishedDemand) s1.desk.clearCount (s1.setFed true)

end Sys2Proof.Machine
end

