-- ==== Sys2Proof/Machine/Trip.lean ====
section
/-! DEFINITION. The Trip Unit: submission of a cause and the safe outputs it forces (R182 to R185), and which causes persist
(R186, R187). -/

namespace Sys2Proof.Machine

/-- The role block enters TRIPPED, with the safe outputs of its role (R95, R114, R166, R169, R184). -/
def enterTripped (s : State) : State :=
  match s.role with
  | .corner => enterCorner .tripped .none s
  | .approach => enterApproach .tripped none s
  | .channel => enterChannel .tripped s
  | .desk => deskIndicators (enterDesk .tripped .halt s)

/-- The TRIP report of a submission (R185). -/
def tripReport (c : Cause) (before after : Nat) (s : State) : State :=
  report .trip (causeCode c) before after s.phaseCode (flagNat s.trip.more) s

/-- A block submits a cause; discarded in CONFIG, else taken as R182's table gives (R179, R182). -/
def submitCause (c : Cause) (s : State) : State :=
  if s.running = false then s
  else if s.trip.flag = false then
    let s1 := s.onTrip fun t => { t with flag := true, causes := [c] }
    enterTripped (tripReport c 0 1 (latch .trip s1))
  else if c ∈ s.trip.causes then s
  else
    let n := s.trip.causes.length
    if n < 4 then tripReport c n (n + 1) (s.onTrip fun t => { t with causes := t.causes ++ [c] })
    else if s.trip.more then s
    else tripReport c n n (s.onTrip fun t => { t with more := true })

/-- Submits a cause where a test holds. -/
def submitIf (b : Bool) (c : Cause) (s : State) : State := if b then submitCause c s else s

/-- A cause persists (R186, R187). -/
def State.persists (s : State) (c : Cause) : Bool :=
  match c with
  | .estop => s.trip.estopFiltered
  | .driveFault => s.driveFaultInput
  | .brake => s.brakeFeedback && !s.motion.brake.out
  | .bolt => s.boltPattern == .invalid
  | .skew => decide (s.skewLimitInForce < s.skewNow)
  | .overtravel => s.overtravelled
  | .peerLost => s.someCornerNotFresh
  | .peerSilent => s.someCornerNotFresh
  | .duplicate => s.duplicateTimer.isSome
  | .encoder => false
  | .stall => false
  | .overspeed => false
  | .seatMismatch => false
  | .sympathy => false

/-- The causes that can arise at a role, in code order (R182). -/
def causesOfRole (r : Role) : List Cause :=
  match r with
  | .corner =>
    [.estop, .driveFault, .skew, .stall, .overspeed, .overtravel, .encoder, .brake, .bolt, .seatMismatch, .peerLost,
      .peerSilent, .sympathy, .duplicate]
  | _ => [.estop, .duplicate]

/-- The first persisting cause of a clear request: the recorded causes in record order, then with MORE set every cause of
the role in code order (R188). -/
def State.firstPersisting (s : State) : Option Cause :=
  (s.trip.causes ++ if s.trip.more then causesOfRole s.role else []).find? s.persists

end Sys2Proof.Machine
end

