-- ==== Sys2Proof/Machine/Corner.lean ====
section
/-! DEFINITION. The corner movement sequence: transitions with their entry tests, condition causes, and the events of the
seat, bolt, brake and timers (R47, R66, R68 to R95). -/

namespace Sys2Proof.Machine

/-! ### Transitions -/

/-- The corner's phase is this one. -/
def State.cornerIs (s : State) (p : CornerPhase) : Bool := s.motion.phase == some p

/-- Computes the skew and tests it against the limit in force (R59). -/
def skewTest (s : State) : State :=
  submitIf (decide (s.skewLimitInForce < s.skewNow)) .skew (s.onMotion fun m => { m with skew := some s.skewNow })

/-- SYMPATHY: a moving corner and a stored TRIPPED flag in a corner entry (R92). -/
def sympathyTest (s : State) : State := submitIf (s.isMoving && s.someCornerTripped) .sympathy s

/-- PEER_SILENT: a moving corner and a moving corner entry of AGE 30 or more (R94). -/
def silentTest (s : State) : State := submitIf (s.isMoving && s.someCornerSilent) .peerSilent s

/-- Arrival at the seat: the count is zeroed and the corner is SEATED (R47, R87). -/
def arriveAtSeat (s : State) : State := enterCorner .seated .none (setPosition (zeroCount s))

/-- The seat capture of LOWERING: arrival at the seat, or SEAT_MISMATCH (R47). -/
def seatCapture (s : State) : State :=
  let s1 := formPosition s
  if (s1.motion.pos.natAbs : Int) ≤ s1.seatTolerance then arriveAtSeat s1 else submitCause .seatMismatch s1

/-- Homing complete (R46, R47, R91). -/
def completeHoming (s : State) : State := enterCorner .seated .none (setPosition (setReferenced true (zeroCount s)))

/-- A transition: the entry, then the tests that entering a moving phase or HOMING makes (R47, R59, R92, R94). DESIGN CHOICE (log
entry 22): these tests come before the condition causes of the phase entered (R68), and each is made only while the ones before
it have left the corner in its phase. -/
def toCorner (p : CornerPhase) (rel : Intent) (s : State) : State :=
  let s1 := enterCorner p rel s
  if movingPhase p then
    let s2 := if s.cornerIn movingPhase then s1 else skewTest s1
    let s3 := silentTest (sympathyTest s2)
    if s3.cornerIs .lowering && s3.seat then seatCapture s3 else s3
  else if p = .homing ∧ s1.seat = true then completeHoming s1
  else s1

/-- RAISED and HELD are left for lowering: at once with the brake released, through RELEASING with it set (R86). -/
def toLowering (s : State) : State :=
  if s.motion.brake.out then toCorner .lowering .down s else toCorner .releasing .down s

/-- HELD is left for raising: the goal is captured, and RELEASING skipped with the brake released (R78, R89). -/
def toRaising (s : State) : State :=
  let s1 := captureGoal s
  if s1.motion.brake.out then toCorner .raising .up s1 else toCorner .releasing .up s1

/-- LEFT_BEHIND: the condition is latched, the flag set, and the corner halts (R85). -/
def haltLeftBehind (s : State) : State :=
  toCorner .halting .none ((latch .leftBehind s).onMotion fun m => { m with leftBehind := true })

/-- RELEASING is abandoned: the brake is set, and the corner is SEATED on its seat and HELD off it (R81). -/
def abandonRelease (s : State) : State :=
  let s1 := setRequest s
  if s1.onSeat then toCorner .seated .none s1 else toCorner .held .none s1

/-- HOMING fails: HOMING_FAILED is latched and the corner stops in UNREFERENCED (R91). -/
def failHoming (s : State) : State := toCorner .unreferenced .none (latch .homingFailed s)

/-! ### Condition causes (R68) -/

/-- The condition cause of the present phase that holds, if any, taken once. -/
def cornerCondition (s : State) : Option State :=
  match s.motion.phase with
  | none => none
  | some .seated =>
    if s.demandView ≠ .raise then some (toCorner .locking .none s)
    else if s.unlockPermission then
      if s.motion.bolt.state = .withdrawn then some (toCorner .unlocked .none s) else some (toCorner .unlocking .none s)
    else none
  | some .locking => if s.motion.bolt.state = .driven then some (toCorner .seatedLocked .none s) else none
  | some .seatedLocked => if s.unlockPermission then some (toCorner .unlocking .none s) else none
  | some .unlocking =>
    if !s.unlockPermission then some (toCorner .locking .none s)
    else if s.motion.bolt.state = .withdrawn then some (toCorner .unlocked .none s)
    else none
  | some .unlocked =>
    if !s.unlockPermission then some (toCorner .locking .none s)
    else if s.everyOtherCorner fun c => phaseCodeIn [.unlocked, .releasing, .raising] c.phase then
      some (toCorner .releasing .up (captureGoal s))
    else none
  | some .releasing =>
    if s.motion.intent = .up then
      if s.demandView ≠ .raise then some (abandonRelease s)
      else if s.leftBehindFound then some (haltLeftBehind s)
      else none
    else if s.demandView ≠ .lower then some (abandonRelease s)
    else none
  | some .raising =>
    if s.demandView ≠ .raise then some (toCorner .halting .none s)
    else if s.leftBehindFound then some (haltLeftBehind s)
    else none
  | some .raised => if s.loweringPermission then some (toLowering s) else none
  | some .lowering => if s.demandView ≠ .lower ∨ s.vesselHigh = true then some (toCorner .halting .none s) else none
  | some .halting => none
  | some .held =>
    if s.loweringPermission then some (toLowering s)
    else if s.raisingPermission then some (toRaising s)
    else none
  | some .homing =>
    if s.maint = false ∨ s.demandView = .raise ∨ s.demandView = .lower then some (failHoming s) else none
  | some .unreferenced => none
  | some .tripped => none

/-- Takes condition causes until none holds; a chain within one event has at most this many transitions. -/
def cornerSettle (fuel : Nat) (s : State) : State :=
  match fuel with
  | 0 => s
  | n + 1 =>
    match cornerCondition s with
    | none => s
    | some t => cornerSettle n t

/-- The left-behind flag is cleared while the DEMAND view is other than RAISE (R85). -/
def clearLeftBehind (s : State) : State :=
  if s.demandView ≠ .raise then s.onMotion fun m => { m with leftBehind := false } else s

/-- The corner sequence tests its condition causes. -/
def cornerReact (s : State) : State := cornerSettle 16 (clearLeftBehind s)

/-- Tests the condition causes where an event has changed the phase or the bolt state. -/
def reactIfMoved (before after : State) : State :=
  if before.motion.phase ≠ after.motion.phase ∨ before.motion.bolt.state ≠ after.motion.bolt.state then cornerReact after
  else after

/-! ### Events of inputs -/

/-- A change of the seat input: P is formed; LOWERING makes the seat capture, HOMING completes, and a driving bolt tests its
drive condition (R47, R72). -/
def seatEvent (active : Bool) (s : State) : State :=
  let s1 := formPosition s
  let s2 :=
    if active then
      if s1.cornerIs .lowering then seatCapture s1 else if s1.cornerIs .homing then completeHoming s1 else s1
    else s1
  reactIfMoved s (testDriveCondition s2)

/-- The bolt faults: outputs off, timer stopped, BOLT submitted (R71). -/
def faultBolt (s : State) : State := submitCause .bolt (restBolt .fault s)

/-- A pattern event of the bolt (R71). DESIGN CHOICE (log entry 41): DRIVING and WITHDRAWING end where the pattern becomes the
commanded limit, so a bolt reversed while its pattern already stands there runs to a new pattern event or its timeout. -/
def boltEvent (s : State) : State :=
  reactIfMoved s
    (match s.motion.bolt.state, s.boltPattern with
      | _, .invalid => faultBolt s
      | .withdrawn, .travelling => faultBolt s
      | .withdrawn, .atSecond => faultBolt s
      | .driven, .travelling => faultBolt s
      | .driven, .atFirst => faultBolt s
      | .driving, .atSecond => restBolt .driven s
      | .withdrawing, .atFirst => restBolt .withdrawn s
      | _, _ => s)

/-- A change of the brake-released feedback (R80). -/
def feedbackEvent (released : Bool) (s : State) : State :=
  submitIf
    (if released then !s.motion.brake.out && s.motion.brake.setCheckTimer.isNone
      else s.motion.brake.out && s.motion.brake.settled)
    .brake s

/-! ### Events of timers -/

/-- The brake timer expires: settled follows the feedback, and RELEASING and HOMING act on it (R80, R81, R91). -/
def brakeExpiry (s : State) : State :=
  if s.motion.brake.brakeTimer.isSome then
    let s1 := s.onBrake fun b => { b with brakeTimer := none, settled := b.settled || s.brakeFeedback }
    if s1.cornerIs .releasing then
      if s1.brakeFeedback = false then submitCause .brake s1
      else if s1.motion.intent = .up then cornerReact (toCorner .raising .up s1)
      else if s1.loweringPermission then cornerReact (toCorner .lowering .down s1)
      else cornerReact (toCorner .held .none (setRequest s1))
    else if s1.cornerIs .homing then submitIf (!s1.brakeFeedback) .brake s1
    else s1
  else s

/-- The set-check timer expires (R80). -/
def setCheckExpiry (s : State) : State :=
  if s.motion.brake.setCheckTimer.isSome then
    submitIf s.brakeFeedback .brake (s.onBrake fun b => { b with setCheckTimer := none })
  else s

/-- The hold timer expires and makes a set request (R82). -/
def holdExpiry (s : State) : State :=
  if s.motion.holdTimer.isSome then setRequest (s.onMotion fun m => { m with holdTimer := none }) else s

/-- The bolt travel timer expires in DRIVING or WITHDRAWING (R71). -/
def boltTimeout (s : State) : State :=
  if s.motion.bolt.travelTimer.isSome = true ∧ (s.motion.bolt.state = .driving ∨ s.motion.bolt.state = .withdrawing) then
    faultBolt s
  else s

/-- The stall timer expires (R64). -/
def stallExpiry (s : State) : State :=
  if s.motion.stall.timer.isSome then
    submitCause .stall (s.onMotion fun m => { m with stall := { m.stall with timer := none } })
  else s

/-! ### RUN and clear -/

/-- The corner's reference at RUN (R46): an active seat input zeroes the count and sets the flag. P and POSITION are set from
the count, which the first expiry measures from (R45, R63). -/
def referenceAtRun (s : State) : State :=
  let s1 := if s.seat then setReferenced true (zeroCount s) else s
  let s2 := setPosition (formPosition s1)
  s2.onMotion fun m => { m with encoder := { m.encoder with sampled := m.encoder.count.toInt } }

/-- The bolt's state derived at RUN (R70), before any cause is submitted. -/
def deriveBolt (s : State) : State :=
  match s.boltPattern with
  | .atFirst => restBolt .withdrawn s
  | .atSecond => restBolt .driven s
  | .travelling => startWithdrawing s
  | .invalid => restBolt .fault s

/-- The first phase of a corner (R69). -/
def firstCornerPhase (s : State) : CornerPhase :=
  if s.motion.encoder.referenced then
    if s.seat then (if s.motion.bolt.state = .driven then .seatedLocked else .seated) else .held
  else .unreferenced

/-- A corner at the accepted RUN order: reference, bolt, first phase, the causes the order submits, then the condition causes
(R46, R48, R69, R70, R80, R181). -/
def runCorner (s : State) : State :=
  let s1 := deriveBolt (referenceAtRun s)
  let s2 := s1.onMotion fun m => { m with controlTimer := some controlTime }
  let s3 := enterCorner (firstCornerPhase s2) .none s2
  let s4 := submitIf s3.trip.estopFiltered .estop s3
  let s5 := submitIf s4.driveFaultInput .driveFault s4
  let s6 := submitIf s5.brakeFeedback .brake s5
  let s7 := submitIf (s6.boltPattern == .invalid) .bolt s6
  cornerReact s7

/-- The phase a corner enters on an accepted clear (R95). -/
def clearedCornerPhase (s : State) : CornerPhase :=
  if s.onSeat then .seated else if s.motion.encoder.referenced then .held else .unreferenced

end Sys2Proof.Machine
end

