-- ==== Sys2Proof/Machine/Motion.lean ====
section
/-! DEFINITION. The work of a corner's control period: travel and supervision, profile, levelling, output stage, stall window
and POSITION (R42, R43, R48 to R65). -/

namespace Sys2Proof.Machine

/-! ### The profile (R49 to R56) -/

/-- A speed moved toward 0 by at most `a` (R51). -/
def towardZero (v a : Int) : Int := if 0 < v then v - min a v else v + min a (-v)

/-- The stopping distance from `u`, rounded up to a whole millimetre (R52). -/
def stoppingDistance (u a : Int) : Int := (u * (u + a) + 20 * a - 1) / (20 * a)

/-- The new speed magnitude of step 4 (R52). -/
def driveMagnitude (u a top creep : Int) (braking : Bool) : Int :=
  if braking then (if creep ≤ u then max (u - a) creep else min (u + a) creep)
  else if u < top then min (u + a) top
  else if top < u then max (u - a) top
  else u

/-- The sign of a direction. -/
def Dir.sign : Dir → Int
  | .up => 1
  | .down => -1

/-- The direction s of a remainder: its sign, or the last value where it is 0 (R50). -/
def dirOf (r : Int) (last : Option Dir) : Option Dir := if 0 < r then some .up else if r < 0 then some .down else last

/-- The top speed of an expiry (R50). -/
def topSpeed (s : State) : Int :=
  if s.cornerIs .lowering && decide (s.motion.pos ≤ s.landingHeight) then s.vcreep else s.vtop

/-- One expiry of the profile in RAISING or LOWERING toward a goal: the profile's items before the dead-time hold, and
whether the expiry is an arrival (R50 to R54). -/
def profileStep (s : State) (g : Int) : Profile × Bool :=
  let old := s.motion.profile
  let v := old.vPrev
  let a := s.accel
  let r := g - s.motion.pos
  let dir := dirOf r old.dir
  let kept := old.braking && old.goal == some g && old.dir == dir
  let next := fun (v : Int) (braking : Bool) => ({ vPrev := v, braking := braking, goal := some g, dir := dir } : Profile)
  if s.cornerIs .lowering && decide (s.motion.pos ≤ s.deadband) then
    let u := if v ≤ 0 then -v else 0
    (next (if s.vcreep < u then -(max (u - a) s.vcreep) else -(min (u + a) s.vcreep)) kept, false)
  else if (r.natAbs : Int) ≤ s.deadband then
    if (v.natAbs : Int) ≤ s.vcreep then (next 0 false, true) else (next (towardZero v a) kept, false)
  else
    let sign := (dir.map Dir.sign).getD 0
    if v ≠ 0 ∧ v.sign ≠ sign then (next (towardZero v a) kept, false)
    else
      let u := (v.natAbs : Int)
      let braking := kept || decide ((r.natAbs : Int) ≤ stoppingDistance u a)
      (next (sign * driveMagnitude u a (topSpeed s) s.vcreep braking) braking, false)

/-- V is held at 0 while the dead time blocks its direction (R56). -/
def deadHold (s : State) (v : Int) : Int :=
  if (0 < v ∧ s.motion.output.upBlocked = true) ∨ (v < 0 ∧ s.motion.output.downBlocked = true) then 0 else v

/-- Stores the items of an expiry's profile work, after the dead-time hold. -/
def storeProfile (p : Profile) (s : State) : State := s.onProfile fun _ => { p with vPrev := deadHold s p.vPrev }

/-- The speed of HOMING: 0 until the brake is settled, then creep down (R54, R91). -/
def homingSpeed (s : State) : Int :=
  if s.motion.brake.settled then -(min ((s.motion.profile.vPrev.natAbs : Int) + s.accel) s.vcreep) else 0

/-- The working goal at an expiry in RAISING: the least of what it was, the own GOAL and the raising goals (R83). -/
def workingGoalNow (s : State) : Nat := leastGoal s (min (s.motion.workingGoal.getD s.motion.goal) s.motion.goal)

/-- Step 4 of R48: the profile speed V, and the arrival, halt or homing limit that it hands to the corner sequence. -/
def profileWork (s : State) : State :=
  match s.motion.phase with
  | some .raising =>
    let g := workingGoalNow s
    let r := profileStep s g
    let s1 := storeProfile r.1 (s.onMotion fun m => { m with workingGoal := some g })
    if r.2 then cornerReact (toCorner .raised .none s1) else s1
  | some .lowering => storeProfile (profileStep s 0).1 s
  | some .halting =>
    let s1 := storeProfile { s.motion.profile with vPrev := towardZero s.motion.profile.vPrev s.accel } s
    if s1.motion.profile.vPrev = 0 then cornerReact (toCorner .held .none s1) else s1
  | some .homing =>
    if s.homingLimit < s.motion.homingStart.getD s.motion.pos - s.motion.pos then failHoming s
    else storeProfile { s.motion.profile with vPrev := homingSpeed s } s
  | _ => s

/-! ### Levelling (R57, R58) -/

/-- The levelling correction (R57, R58). -/
def levellingCorrection (s : State) : Int :=
  let own := s.motion.position
  let peers := s.levellingPeers
  let e := (own + peers.sum).fdiv (1 + peers.length) - own
  clampInt (-s.vcorr) s.vcorr ((e * s.kl).tdiv 8)

/-- V_OUT from V and the correction (R58). -/
def levelled (s : State) (v c : Int) : Int :=
  if 0 < v then clampInt 0 s.vfs (v + c) else if v < 0 then clampInt (-s.vfs) 0 (v + c) else 0

/-- Steps 5 and 6 of R48: the output speed, the duty and the direction outputs (R57, R58, R60, R61). -/
def outputWork (s : State) : State :=
  let v := s.motion.profile.vPrev
  if s.cornerIs .raising || s.cornerIs .lowering || s.cornerIs .halting then
    let c := levellingCorrection s
    applyOutput (levelled s v c) (s.onMotion fun m => { m with correction := c })
  else if s.cornerIs .homing then applyOutput v (s.onMotion fun m => { m with correction := 0 })
  else applyOutput 0 (s.onMotion fun m => { m with correction := 0 })

/-! ### Supervision (R63 to R65) -/

/-- Step 7 of R48: the stall window restarts below creep speed, or after 3 mm (R64). -/
def stallWork (s : State) : State :=
  if s.cornerIn stallPhase then
    let moved := s.motion.pos - s.motion.stall.start.getD s.motion.pos
    if (s.motion.output.vOut.natAbs : Int) < s.vcreep ∨ stallDistance ≤ (moved.natAbs : Int) then
      s.onMotion fun m => { m with stall := { timer := some s.stallTime, start := some m.pos } }
    else s
  else s

/-- The travel of the period, any setting of the count removed (R46, R63). -/
def travelNow (s : State) : Int :=
  positionOfCount s s.motion.encoder.count.toInt - positionOfCount s s.motion.encoder.sampled

/-- The overspeed threshold VFS × 5 / 4, truncated (R63). -/
def overspeedLimit (s : State) : Int := (s.vfs * 5).tdiv 4

/-- Steps 1 to 3 of R48: P and the travel, overspeed, overtravel, the seat test of LOWERING, and the skew (R44, R47, R59,
R63, R65). DESIGN CHOICE (log entry 28): where OVERSPEED or OVERTRAVEL trips the corner in this expiry it is in LOWERING no
more, and the seat test of step 2 is not made. -/
def supervise (s : State) : State :=
  let travel := travelNow s
  let s1 := (formPosition s).onMotion fun m => { m with encoder := { m.encoder with sampled := m.encoder.count.toInt } }
  let s2 := submitIf (decide (overspeedLimit s < (travel.natAbs : Int) * 10)) .overspeed s1
  let s3 := submitIf s2.overtravelled .overtravel s2
  let s4 := submitIf
    (s3.cornerIs .lowering && !s3.seat && decide (s3.motion.pos ≤ -s3.seatTolerance)) .seatMismatch s3
  if s4.isMoving then skewTest s4 else s4

/-- A corner in a moving phase, or in RAISED or HELD with its brake released, sends at each expiry (R32, trigger 4). -/
def sendsEachPeriod (s : State) : Bool :=
  s.cornerIn movingPhase || ((s.cornerIs .raised || s.cornerIs .held) && s.motion.brake.out)

/-- The work of one expiry of the control period, in the order of R48. -/
def controlWork (s : State) : State :=
  let s1 := supervise s
  let s2 := cornerReact (testDriveCondition s1)
  let s3 := stallWork (outputWork (profileWork s2))
  (setPosition s3).onMotion fun m => { m with controlTimer := some controlTime }

/-! ### The encoder (R42, R43) -/

/-- The direction of an edge by the quadrature table (R42): +1, −1, 0 for no change, none for an illegal transition. -/
def quadrature (a b a' b' : Bool) : Option Int :=
  match a, b, a', b' with
  | false, false, true, false => some 1
  | true, false, true, true => some 1
  | true, true, false, true => some 1
  | false, true, false, false => some 1
  | true, false, false, false => some (-1)
  | true, true, true, false => some (-1)
  | false, true, true, true => some (-1)
  | false, false, false, true => some (-1)
  | false, false, true, true => none
  | true, true, false, false => none
  | false, true, true, false => none
  | true, false, false, true => none
  | false, false, false, false => some 0
  | false, true, false, true => some 0
  | true, false, true, false => some 0
  | true, true, true, true => some 0

/-- The next sample of the encoder channels (R42, R43): a legal edge moves the count; an illegal transition at a CORNER
submits ENCODER in RUN, and clears the referenced flag in CONFIG. -/
def encoderSample (a b : Bool) (s : State) : State :=
  let e := s.motion.encoder
  let s1 := s.onMotion fun m => { m with encoder := { m.encoder with a := a, b := b } }
  match quadrature e.a e.b a b with
  | some d => s1.onMotion fun m => { m with encoder := { m.encoder with count := m.encoder.count + BitVec.ofInt 32 d } }
  | none =>
    if s.role = .corner then
      if s.running then submitCause .encoder s1 else setPosition (setReferenced false s1)
    else s1

end Sys2Proof.Machine
end

