-- ==== Sys2Proof/Machine/Closure.lean ====
section
/-! DEFINITION. The road closure sequence of an approach: condition causes, stage timers, RUN, clear, and the two orders for
faulted arms (R97, R102 to R113, R131, R132). -/

namespace Sys2Proof.Machine

/-- The approach's phase is this one. -/
def State.approachIs (s : State) (p : ApproachPhase) : Bool := s.closure.phase == some p

/-- The approach is in a closing stage. -/
def State.inClosingStage (s : State) : Bool := (s.closure.phase.map closingStage).getD false

/-- Sets the hold pending flag; ENTRY_LOWERING and EXIT_LOWERING withdraw the command of every arm that is not lowering
(R101, R111). -/
def setHold (s : State) : State :=
  let s1 := s.onClosure fun c => { c with holdPending := true }
  if s.approachIs .entryLowering || s.approachIs .exitLowering then
    commandArms (fun i => !s.armIs i .lowering) .none s1
  else s1

/-- A stage is complete: the next phase, or HOLDING at that stage where a hold is pending (R111). -/
def completeStage (next : ApproachPhase) (s : State) : State :=
  if s.closure.holdPending then enterApproach .holding (some next) s else enterApproach next none s

/-- The condition cause of the present phase that holds, if any, taken once; setting the hold pending flag counts as one
(R97, R102, R104 to R106, R108 to R112). -/
def approachCondition (s : State) : Option State :=
  if s.inClosingStage && !s.closure.holdPending && s.demandView != .raise then some (setHold s)
  else
    let pending := s.closure.holdPending
    match s.closure.phase with
    | none => none
    | some .opened =>
      if s.demandView = .raise ∧ s.port.startInhibit = false then some (enterApproach .amber none (newClosure s)) else none
    | some .amber => none
    | some .redClearance =>
      if s.closure.served then
        if s.stopSignalOk then some (completeStage .entryLowering s)
        else if pending then some (enterApproach .holding (some .redClearance) s)
        else none
      else none
    | some .entryLowering =>
      if s.entryArmsDown then some (completeStage .deckClearing s)
      else if pending && s.armsAtRest then some (enterApproach .holding (some .entryLowering) s)
      else none
    | some .deckClearing =>
      if pending && s.closure.deckClearTimer.isNone then some (enterApproach .holding (some .deckClearing) s) else none
    | some .exitLowering =>
      if s.allArmsDown then some (completeStage .closed s)
      else if pending && s.armsAtRest then some (enterApproach .holding (some .exitLowering) s)
      else none
    | some .closed =>
      if s.demandView = .lower ∧ s.spanSeatedLocked = true ∧ s.port.startInhibit = false then
        some (enterApproach .raisingArms none s)
      else none
    | some .raisingArms => if s.armsReopened then some (enterApproach .opened none s) else none
    | some .holding =>
      if s.port.startInhibit then none
      else if s.demandView = .raise then some (enterApproach (s.closure.heldStage.getD .redClearance) none s)
      else if s.demandView = .lower ∧ s.spanSeatedLocked = true then some (enterApproach .raisingArms none s)
      else none
    | some .tripped => none

/-- Takes condition causes until none holds; a chain within one event has at most this many links. -/
def approachSettle (fuel : Nat) (s : State) : State :=
  match fuel with
  | 0 => s
  | n + 1 =>
    match approachCondition s with
    | none => s
    | some t => approachSettle n t

/-- The Closure Unit tests its condition causes. -/
def approachReact (s : State) : State := approachSettle 16 s

/-! ### Stage timers -/

/-- The amber timer expires (R103). -/
def amberExpiry (s : State) : State :=
  if s.closure.amberTimer.isSome then approachReact (completeStage .redClearance s) else s

/-- The red clearance timer expires (R104). -/
def redExpiry (s : State) : State :=
  if s.closure.redTimer.isSome then
    if s.stopSignalOk then approachReact (completeStage .entryLowering s)
    else
      let s1 := latch .stopSignalFailed s
      if s.closure.holdPending then approachReact (enterApproach .holding (some .redClearance) s1)
      else approachReact (s1.onClosure fun c => { c with redTimer := none, served := true })
  else s

/-- The deck clear timer expires (R106). -/
def deckClearExpiry (s : State) : State :=
  if s.closure.deckClearTimer.isSome then approachReact (completeStage .exitLowering s) else s

/-- The deck limit timer expires: DECK_NOT_CLEAR is latched and the timer is not restarted (R107). -/
def deckLimitExpiry (s : State) : State :=
  if s.closure.deckLimitTimer.isSome then
    latch .deckNotClear (s.onClosure fun c => { c with deckLimitTimer := none })
  else s

/-- In DECK_CLEARING the deck clear timer follows each change of the deck clear condition (R106); `old` is the condition
before the event. -/
def followDeck (old : Bool) (s : State) : State :=
  if s.approachIs .deckClearing && s.deckClear != old then
    s.onClosure fun c => { c with deckClearTimer := if s.deckClear then some s.deckClearTime else none }
  else s

/-! ### RUN and clear -/

/-- An approach at the accepted RUN order (R113, R119, R181). -/
def runApproach (s : State) : State :=
  let s1 := enterApproach .holding (some .redClearance) (deriveArms s)
  approachReact (submitIf s1.trip.estopFiltered .estop s1)

/-- The held stage of an approach at an accepted clear (R114). -/
def clearedHeldStage (s : State) : ApproachPhase :=
  if s.allArmsDown then .closed else if s.entryArmsDown then .deckClearing else .redClearance

/-! ### The orders for faulted arms -/

/-- The phases in which ARM_ACCEPT is taken (R131). -/
def acceptPhase : ApproachPhase → Bool
  | .redClearance => true
  | .entryLowering => true
  | .deckClearing => true
  | .exitLowering => true
  | .closed => true
  | .holding => true
  | .opened => false
  | .amber => false
  | .raisingArms => false
  | .tripped => false

/-- ARM_ACCEPT taken: the arm is MANUAL (R131). DESIGN CHOICE (log entry 24): its ARM report comes before the PHASE report of the
stage change that it causes. -/
def acceptArm (i : Fin 4) (s : State) : State := approachReact (driveArm i (enterArm i .manual 3 s))

/-- The state that ARM_RESET derives from an arm's pattern (R132). -/
def resetState (p : LimitPattern) (old : ArmState) : ArmState :=
  match p with
  | .atFirst => .raised
  | .atSecond => .lowered
  | _ =>
    match old with
    | .fault c => .fault c
    | _ => .fault .disturbed

/-- An arm acts on its standing command as it stands (R120). -/
def actOnCommand (i : Fin 4) (s : State) : State :=
  match (s.arm i).state, (s.arm i).command with
  | some .lowered, .raise => beginRaise i false s
  | _, _ => beginLowering i s

/-- ARM_RESET taken: the count is 0, the state derived from the pattern, and the arm acts on its command (R132). DESIGN CHOICE
(log entry 32): the ARM report of the derived state carries event 3, and that of a movement which its command then begins
carries event 1 (R133). -/
def resetArm (i : Fin 4) (s : State) : State :=
  let s1 := s.onArm i fun a => { a with retry := 0 }
  let s2 := enterArm i (resetState (s.armPattern i) ((s.arm i).state.getD .manual)) 3 s1
  approachReact (driveArm i (actOnCommand i s2))

end Sys2Proof.Machine
end

