-- ==== Sys2Proof/Machine/Channel.lean ====
section
/-! DEFINITION. The channel's sequence: condition causes, the vessel input, the clearing timer, NAV_ACCEPT and RUN
(R154 to R166). -/

namespace Sys2Proof.Machine

/-- The channel's phase is this one. -/
def State.channelIs (s : State) (p : ChannelPhase) : Bool := s.channel.phase == some p

/-- The condition cause of the present phase that holds, if any, taken once; the setting of the green fallback flag counts
as one (R154, R156, R159 to R161). -/
def channelCondition (s : State) : Option State :=
  match s.channel.phase with
  | none => none
  | some .closedToVessels =>
    if s.demandView = .raise ∧ s.port.startInhibit = false then some (enterChannel .opening s) else none
  | some .opening =>
    if s.demandView = .lower then some (enterChannel .closing s)
    else if s.spanClear then some (enterChannel .openToVessels s)
    else none
  | some .openToVessels =>
    if s.greenFailed && !s.channel.greenFallback then some (takeFallback s)
    else if s.demandView = .lower ∨ s.spanClear = false then some (enterChannel .closing s)
    else none
  | some .closing => none
  | some .tripped => none

/-- Takes condition causes until none holds; a chain within one event has at most this many links. -/
def channelSettle (fuel : Nat) (s : State) : State :=
  match fuel with
  | 0 => s
  | n + 1 =>
    match channelCondition s with
    | none => s
    | some t => channelSettle n t

/-- The Channel Unit tests its condition causes. -/
def channelReact (s : State) : State := channelSettle 8 s

/-- A filtered change of the vessel-present input: the clearing timer starts or stops in CLOSING, and the vessel-alert flag
is tested (R162, R165). -/
def vesselEvent (active : Bool) (s : State) : State :=
  let s1 :=
    if s.channelIs .closing then
      s.onChannel fun c => { c with clearingTimer := if active then none else some s.clearingTime }
    else s
  channelReact (testVesselAlert s1)

/-- The clearing timer expires (R162). -/
def clearingExpiry (s : State) : State :=
  if s.channel.clearingTimer.isSome then channelReact (enterChannel .closedToVessels s) else s

/-- NAV_ACCEPT taken: the manual-stop flag is set, and a channel in CLOSING closes at once; with the flag already set nothing
else changes (R164). -/
def takeNavAccept (s : State) : State :=
  if s.channel.manualStop then s
  else
    let s1 := s.onChannel fun c => { c with manualStop := true }
    if s.channelIs .closing then channelReact (enterChannel .closedToVessels s1) else s1

/-- A channel at the accepted RUN order (R158, R181). -/
def runChannel (s : State) : State :=
  let s1 := enterChannel .closing s
  channelReact (submitIf s1.trip.estopFiltered .estop s1)

end Sys2Proof.Machine
end

