-- ==== Sys2Proof/Machine/Desk.lean ====
section
/-! DEFINITION. The desk's sequence: buttons, key, held demand, requested goal and RUN (R168 to R174); what each role block
does when its inputs change (R68, R97, R154, R177); and the clear of a trip with what a desk's CLEAR does (R175, R188 to
R191). -/

namespace Sys2Proof.Machine

/-! ### The desk -/

/-- The desk's phase is this one. -/
def State.deskIs (s : State) (p : DeskPhase) : Bool := s.desk.phase == some p

/-- The held demand takes a value (R170, R171). -/
def setDemand (d : Demand) (s : State) : State := deskIndicators (s.onDesk fun k => { k with heldDemand := d })

/-- A press of a demand button: taken in ACTIVE alone (R170). -/
def demandPress (d : Demand) (s : State) : State := if s.deskIs .active then setDemand d s else s

/-- A filtered change of the enable key (R169). -/
def keyEvent (active : Bool) (s : State) : State :=
  if s.deskIs .active && !active then deskIndicators (enterDesk .inactive .none s)
  else if s.deskIs .inactive && active then deskIndicators (enterDesk .active s.desk.heldDemand s)
  else deskIndicators s

/-- The goal that SET_GOAL stores: 0, or the height clamped to the lift's range (R173). -/
def goalStored (s : State) (height : Nat) : Nat :=
  if height = 0 then 0 else clampNat s.clearanceHeight s.openHeight height

/-- SET_GOAL taken (R173). -/
def setGoal (height : Nat) (s : State) : State :=
  s.onDesk fun k => { k with requestedGoal := goalStored s height }

/-- A desk at the accepted RUN order (R168, R177, R181). -/
def runDesk (s : State) : State :=
  let s1 := enterDesk (if s.enableKey then .active else .inactive) s.desk.heldDemand s
  deskIndicators (submitIf s1.trip.estopFiltered .estop s1)

/-! ### Every role -/

/-- The role block tests its condition causes, or re-evaluates its indicators, after a change of its inputs. -/
def roleReact (s : State) : State :=
  if s.running then
    match s.role with
    | .corner => cornerReact s
    | .approach => approachReact s
    | .channel => channelReact s
    | .desk => deskIndicators s
  else s

/-- The role block's part of the accepted RUN order (R206). -/
def runRole (s : State) : State :=
  match s.role with
  | .corner => runCorner s
  | .approach => runApproach s
  | .channel => runChannel s
  | .desk => runDesk s

/-! ### Clearing a trip -/

/-- The phase code that the role enters at an accepted clear (R190). -/
def clearedPhaseCode (s : State) : Nat :=
  match s.role with
  | .corner => cornerCode (clearedCornerPhase s)
  | .approach => approachCode .holding
  | .channel => channelCode .closing
  | .desk => deskCode (if s.enableKey then .active else .inactive)

/-- The role block leaves TRIPPED (R95, R114, R166, R169, R190). -/
def leaveTripped (s : State) : State :=
  match s.role with
  | .corner => cornerReact (toCorner (clearedCornerPhase s) .none s)
  | .approach => approachReact (enterApproach .holding (some (clearedHeldStage s)) s)
  | .channel => channelReact (enterChannel .closing s)
  | .desk =>
    deskIndicators
      (if s.enableKey then enterDesk .active s.desk.heldDemand s else enterDesk .inactive .none s)

/-- An accepted clear: the record is emptied, the TRIP_CLEARED report submitted, and the role block leaves TRIPPED; `source`
is 255 for a CLEAR_TRIP order, else the desk's number (R190, R191). -/
def acceptClear (source : Nat) (s : State) : State :=
  let s1 := s.onTrip fun t => { t with flag := false, causes := [], more := false }
  leaveTripped
    (report .tripCleared source s.tripCause (clearedPhaseCode s1) s.trip.causes.length (flagNat s.trip.more) s1)

/-- What the Trip Unit makes of a clear request (R188). -/
inductive ClearDecision where
  | wrongState
  | causePresent (first : Cause)
  | accepted
  deriving DecidableEq, Repr

/-- Decides a clear request (R188). -/
def State.decideClear (s : State) : ClearDecision :=
  if s.trip.flag = false then .wrongState
  else
    match s.firstPersisting with
    | some c => .causePresent c
    | none => .accepted

/-- A clear attempt from a desk: refused in silence, or accepted (R21, R175, R189). -/
def clearAttempt (source : Nat) (s : State) : State :=
  match s.decideClear with
  | .accepted => acceptClear source s
  | .wrongState => s
  | .causePresent _ => s

/-- A rise of the clear counter, handed to the desk's own Trip Unit (R175). -/
def clearPress (s : State) : State :=
  clearAttempt s.number (s.onDesk fun k => { k with clearCount := (k.clearCount + 1) % 16 })

end Sys2Proof.Machine
end

