-- ==== Sys2Proof/Machine/PeerTable.lean ====
section
/-! DEFINITION. The Peer Table: acceptance of frames, freshness, seen flags, AGE and the duplicate timer (R7 to R14, R21,
R22), with what a received frame does to the line it came on (R26, R38, R39). -/

namespace Sys2Proof.Machine

/-! ### PEER reports (R22, R196) -/

/-- The first EXTRA byte of a PEER report: role code, DIGEST_OK, SEEN_A and SEEN_B. -/
def peerFlags (role : Option Role) (e : Entry) : Nat :=
  (role.map roleCode).getD 0 + 4 * flagNat ((e.heard.map (·.digestOk)).getD false) + 8 * flagNat e.seenA +
    16 * flagNat e.seenB

/-- Submits a PEER report of an entry after its change (R22). -/
def peerReport (j : Fin 12) (old : Freshness) (e : Entry) (s : State) : State :=
  report .peer j.val (freshnessCode old) (freshnessCode e.freshness) (peerFlags (s.rosterRole j) e)
    ((e.heard.map fun h => h.lastDigest.toNat).getD 0) s

/-! ### Frames -/

/-- The entry was FRESH or STALE (R13). -/
def Entry.known (e : Entry) : Bool := e.freshness == .fresh || e.freshness == .stale

/-- The frame is new to the entry (R13). -/
def Entry.isNew (e : Entry) (f : Frame) : Bool :=
  !e.known || (e.heard.map (·.lastSequence)) != some f.sequence

/-- The CLEAR_COUNT of a desk's content. -/
def clearCountOf (c : Content) : Option Byte :=
  match c.payload with
  | .desk _ _ clearCount _ _ _ => some clearCount
  | _ => none

/-- The entry after an accepted frame, copy or new (R8 to R10, R13, R14). -/
def Entry.accept (line : LinkLine) (f : Frame) (digestOk : Bool) (staleTime lostTime : Nat) (e : Entry) : Entry where
  freshness := .fresh
  heard := some {
    content := if e.isNew f then f.content else (e.heard.map (·.content)).getD f.content
    lastSequence := f.sequence
    lastDigest := f.digest
    digestOk := digestOk
    age := 0 }
  seenA := e.seenA || line == .a
  seenB := e.seenB || line == .b
  staleTimer := some staleTime
  lostTimer := some lostTime
  seenTimerA := if line = .a then some staleTime else e.seenTimerA
  seenTimerB := if line = .b then some staleTime else e.seenTimerB

/-- A new frame from a desk whose entry was FRESH or STALE, with another CLEAR_COUNT, is a clear attempt (R21). -/
def Entry.clears (e : Entry) (f : Frame) : Bool :=
  f.role == .desk && e.isNew f && e.known &&
    ((e.heard.map fun h => clearCountOf h.content) != some (clearCountOf f.content))

/-- Step 5 of R11: the frame is accepted into the entry. The digest is compared, the change reported, a clear attempt handed
on, and the role block told (R13, R14, R16, R21, R22, R92). -/
def acceptFrame (line : LinkLine) (j : Fin 12) (f : Frame) (s : State) : State :=
  match s.peer j with
  | none => s
  | some e =>
    let digestOk := s.digest == some f.digest
    let oldDigestOk := e.heard.map (·.digestOk)
    let oldContent := e.heard.map (·.content)
    let e1 := e.accept line f digestOk s.staleTime s.lostTime
    let s1 := s.setPeer j (some e1)
    let s2 := if digestOk = false ∧ oldDigestOk ≠ some false then latch .digestMismatch s1 else s1
    let changed := e.freshness != .fresh || oldDigestOk != some digestOk
    let s3 := if changed then peerReport j e.freshness e1 s2 else s2
    let s4 := if e.clears f then clearAttempt f.source s3 else s3
    let newContent := oldContent != (e1.heard.map (·.content))
    let s5 := if newContent then sympathyTest s4 else s4
    if changed || newContent then roleReact s5 else s5

/-- A frame bearing the own number: DUPLICATE_STATION, the duplicate timer and the cause DUPLICATE (R12). -/
def ownNumberFrame (s : State) : State :=
  submitCause .duplicate { latch .duplicateStation s with duplicateTimer := some s.staleTime }

/-- Steps 2 to 5 of R11 for a well-formed frame. -/
def checkFrame (line : LinkLine) (f : Frame) (s : State) : State :=
  if f.source = s.number then ownNumberFrame s
  else if h : f.source < 12 then
    match s.rosterRole ⟨f.source, h⟩ with
    | none => latch .stranger s
    | some r => if f.role ≠ r then latch .roleMismatch s else acceptFrame line ⟨f.source, h⟩ f s
  else s

/-- A desk's LINK indicator follows the line health (R177). -/
def healthReact (s : State) : State := if s.running = true ∧ s.role = .desk then deskIndicators s else s

/-- What a received frame does where it reaches the Peer Table's first check (R11). DESIGN CHOICE (log entry 24): the line's
health, with its LINK report, comes before the PEER or TRIP report of the same frame. -/
def takeFrame (line : LinkLine) (r : Received) (s : State) : State :=
  match readFrame r with
  | none => s
  | some f => checkFrame line f (healthReact (validFrame line f.source s))

/-- A receiver ends the frame in these levels. The line has been active. A receiver that ignores the line drops the frame, and
waits for the next one unless the own transmitter sends; where that has ended and the line stayed idle for 2 bit times before
the frame, the ignoring had ended before it, and the frame is taken (R38). In CONFIG the frame is discarded (R7). Levels that end
no frame are nothing (log entry 7). -/
def receiveFrame (line : LinkLine) (levels : List Bool) (s : State) : State :=
  match received levels with
  | none => s
  | some r =>
    let ignored := (s.line line).ignoring && ((s.line line).tx == .sending || !idleFirst levels)
    let s1 := s.onLine line fun u => { u with idle := false, ignoring := u.ignoring && u.tx == .sending }
    if ignored = true ∨ s.running = false then s1 else takeFrame line r s1

/-! ### Timers -/

/-- An entry's stale timer expires (R9): PEER_STALE, and PEER_LOST at a moving corner for a rostered corner (R93). -/
def staleExpiry (j : Fin 12) (s : State) : State :=
  match s.peer j with
  | none => s
  | some e =>
    if e.freshness = .fresh ∧ e.staleTimer.isSome = true then
      let e1 := { e with freshness := .stale, staleTimer := none }
      let s1 := latch .peerStale (peerReport j e.freshness e1 (s.setPeer j (some e1)))
      roleReact (submitIf (s1.isMoving && s1.rosterRole j == some .corner) .peerLost s1)
    else s

/-- An entry's lost timer expires (R9). -/
def lostExpiry (j : Fin 12) (s : State) : State :=
  match s.peer j with
  | none => s
  | some e =>
    if e.freshness = .stale ∧ e.lostTimer.isSome = true then
      let e1 := { e with freshness := .lost, lostTimer := none }
      roleReact (latch .peerLost (peerReport j e.freshness e1 (s.setPeer j (some e1))))
    else s

/-- An entry's seen timer of a line expires and clears the seen flag (R10). -/
def seenExpiry (j : Fin 12) (line : LinkLine) (s : State) : State :=
  match s.peer j with
  | none => s
  | some e =>
    match line with
    | .a => if e.seenTimerA.isSome then s.setPeer j (some { e with seenA := false, seenTimerA := none }) else s
    | .b => if e.seenTimerB.isSome then s.setPeer j (some { e with seenB := false, seenTimerB := none }) else s

/-- The duplicate timer expires (R12). -/
def duplicateExpiry (s : State) : State := { s with duplicateTimer := none }

/-- AGE after a 10 ms step, saturated (R10). -/
def Entry.grow (e : Entry) : Entry :=
  { e with heard := e.heard.map fun h => { h with age := min 65535 (h.age + 1) } }

/-- A 10 ms step of station time: every AGE advances, and a moving corner tests its silent partners (R10, R94, R211). -/
def timeTick (s : State) : State :=
  silentTest { s with time := s.time + 1, peers := s.peers.map fun e => e.map Entry.grow }

/-- The health timer of a line expires (R39, R177). -/
def lineSilent (line : LinkLine) (s : State) : State := healthReact (healthExpiry line s)

end Sys2Proof.Machine
end

