-- ==== Sys2Proof/Machine/Inputs.lean ====
section
/-! DEFINITION. The Input Scanner with the delivery of filtered changes to the role blocks (R134 to R137, R151), and the ESTOP
filter of the Trip Unit (R180, R181). -/

namespace Sys2Proof.Machine

/-- A sample of an input: a raw change sets the last raw level, counts a bounce and restarts the filter timer (R134, R135). -/
def sampleInput (i : Fin 25) (active : Bool) (s : State) : State :=
  let x := s.inputLine i
  if x.raw = active then s
  else s.setInput i { x with raw := active, bounce := min 255 (x.bounce + 1), filterTimer := some s.filterTime }

/-! ### Delivery by role (R136, R151) -/

/-- A filtered change at a corner. -/
def deliverCorner (i : Fin 25) (active : Bool) (s : State) : State :=
  match i.val with
  | 0 => seatEvent active s
  | 1 => boltEvent s
  | 2 => boltEvent s
  | 3 => feedbackEvent active s
  | 4 => submitIf active .driveFault s
  | 24 => cornerReact s
  | _ => s

/-- The arm whose limit an input below FI8 is. -/
def limitArm (i : Fin 25) : Fin 4 := ⟨i.val / 2 % 4, by omega⟩

/-- The arm whose loop (FI8 to FI11) or obstruction (FI12 to FI15) an input is. -/
def laneArm (i : Fin 25) : Fin 4 := ⟨i.val % 4, by omega⟩

/-- A filtered change at an approach; `before` is the state before the change. -/
def deliverApproach (i : Fin 25) (active : Bool) (before s : State) : State :=
  if i.val < 8 then approachReact (patternEvent (limitArm i) (before.armPattern (limitArm i)) s)
  else if i.val < 16 then approachReact (followDeck before.deckClear (presenceEvent (laneArm i) active s))
  else if i.val = 16 then approachReact (followDeck before.deckClear s)
  else s

/-- A filtered change at a channel. -/
def deliverChannel (i : Fin 25) (active : Bool) (s : State) : State := if i.val = 0 then vesselEvent active s else s

/-- A filtered change at a desk (R169, R170, R174, R175). -/
def deliverDesk (i : Fin 25) (active : Bool) (s : State) : State :=
  match i.val with
  | 0 => if active then demandPress .raise s else s
  | 1 => if active then demandPress .lower s else s
  | 2 => if active then demandPress .halt s else s
  | 3 => if active then clearPress s else s
  | 4 => keyEvent active s
  | _ => s

/-- A filtered change reaches the role block that reads the input. -/
def deliverInput (i : Fin 25) (active : Bool) (before s : State) : State :=
  match s.role with
  | .corner => deliverCorner i active s
  | .approach => deliverApproach i active before s
  | .channel => deliverChannel i active s
  | .desk => deliverDesk i active s

/-- The filter timer of an input expires (R135): a raw level that differs becomes the filtered state, is reported where the
input is selected, and is delivered in RUN (R136, R137). -/
def filterExpiry (i : Fin 25) (s : State) : State :=
  let x := s.inputLine i
  if x.filterTimer.isSome then
    let s1 := s.setInput i { x with filtered := x.raw, filterTimer := none, bounce := 0 }
    if x.raw = x.filtered ∨ s.running = false then s1
    else
      let s2 :=
        if s.inputReported i then report .input i.val (flagNat x.filtered) (flagNat x.raw) x.bounce s.phaseCode s1 else s1
      deliverInput i x.raw s s2
  else s

/-! ### The ESTOP filter -/

/-- A sample of the ESTOP input (R180). -/
def sampleEstop (active : Bool) (s : State) : State :=
  if s.trip.estopRaw = active then s
  else s.onTrip fun t => { t with estopRaw := active, estopTimer := some estopTime }

/-- The ESTOP filter timer expires; an ESTOP event to active submits ESTOP (R180, R181). -/
def estopExpiry (s : State) : State :=
  if s.trip.estopTimer.isSome then
    let s1 := s.onTrip fun t => { t with estopTimer := none, estopFiltered := t.estopRaw }
    submitIf (s.trip.estopRaw && !s.trip.estopFiltered) .estop s1
  else s

end Sys2Proof.Machine
end

