-- ==== Sys2Proof/Machine/Port.lean ====
section
/-! DEFINITION. The local port's transactions (R193, R194, R196 to R198, R202 to R204) and the output pins of R152. A command is
one edge at the port's pins; other events may fall between any two (log entry 8). -/

namespace Sys2Proof.Machine

/-! ### Orders (R194) -/

/-- The order FIFO's depth (R194). -/
def orderDepth : Nat := 8

/-- An ORDER transaction ends: its frame is examined, and the order joins the FIFO (R194). -/
def receiveOrder (bytes : List Byte) (partBits : Nat) (s : State) : State :=
  if partBits ≠ 0 then latch .portFraming s
  else
    match parseOrder bytes with
    | none => latch .portFraming s
    | some o =>
      if orderDepth ≤ s.port.orders.length then latch .orderOverrun s
      else s.onPort fun p => { p with orders := p.orders ++ [o] }

/-! ### The removal of a report (R197) -/

/-- The LOST marker. -/
def lostMarker (p : LocalPort) : Report where
  kind := .lost
  time := p.lostFirstTime
  subject := 0
  old := p.lostFirstKind
  new := p.lostLastKind
  extra1 := byteOf (p.lostCount / 256)
  extra2 := byteOf p.lostCount

/-- Removes the report at the head; while the lost count is above 0 a LOST marker joins the tail and the count returns to 0. -/
def removeReport (p : LocalPort) : LocalPort :=
  if p.lostCount = 0 then { p with reports := p.reports.tail }
  else { p with reports := p.reports.tail ++ [lostMarker p], lostCount := 0 }

/-! ### What the reads shift out -/

/-- The 14 status bytes (R202). -/
def statusBytes (s : State) : List Byte :=
  [byteOf (flagNat s.running),
    byteOf (s.number + 16 * roleCode s.role),
    byteOf s.phaseCode,
    byteOfBits [s.trip.flag, s.port.startInhibit, s.trip.more, s.port.resetEnable, s.attn, s.unmaskedCondition],
    byteOf s.trip.causes.length,
    byteOf s.tripCause,
    byteOf s.port.orders.length,
    byteOf s.port.reports.length,
    byteOf s.latchedCount,
    s.digest.getD 0,
    hiByte s.time, loByte s.time,
    s.link.sequence,
    byteOf (healthCodeOf s.link.lineA.health + 4 * healthCodeOf s.link.lineB.health)]

/-- Condition byte `k` of the three, the highest conditions first (R198). -/
def conditionByte (c : BitVec 24) (k : Nat) : Byte :=
  match k with
  | 0 => c.extractLsb' 16 8
  | 1 => c.extractLsb' 8 8
  | 2 => c.extractLsb' 0 8
  | _ => 0

/-- The conditions that stay when byte `k` of what was sent has been fully shifted: those sent as 1 in it are cleared (R198). -/
def keptConditions (sent : BitVec 24) (k : Nat) (c : BitVec 24) : BitVec 24 :=
  match k with
  | 0 => c &&& ~~~(sent &&& 0xFF0000#24)
  | 1 => c &&& ~~~(sent &&& 0x00FF00#24)
  | 2 => c &&& ~~~(sent &&& 0x0000FF#24)
  | _ => c

/-- The image of one peer table slot (R203). -/
def slotImage (s : State) (j : Fin 12) : List Byte := peerImage j (s.rosterRole j) (s.peer j)

/-- The first station of READ_PEERS: 0 for a start byte of 12 or more (R203). -/
def firstStation (start : Byte) : Fin 12 := if h : start.toNat < 12 then ⟨start.toNat, h⟩ else 0

/-- The station whose image follows, from 11 wrapping to 0 (R203). -/
def nextStation (j : Fin 12) : Fin 12 := ⟨(j.val + 1) % 12, by omega⟩

/-- The four bytes of a 32-bit value, high byte first. -/
def valueBytes (v : Nat) : List Byte := [byteOf (v / 16777216), byteOf (v / 65536), byteOf (v / 256), byteOf v]

/-- The value READ_ITEM gives for an item byte (R204). -/
def itemValue (s : State) (item : Nat) : Nat :=
  if 1 ≤ item ∧ item ≤ 39 then s.config.item item
  else if h : 64 ≤ item ∧ item < 76 then ((s.rosterRole ⟨item - 64, by omega⟩).map roleCode).getD 15
  else 0xFFFFFFFF

/-! ### The edges of a transaction (R193) -/

/-- Updates the serial port. -/
def State.onSerial (f : SerialPort → SerialPort) (s : State) : State := s.onPort fun p => { p with serial := f p.serial }

/-- The transaction that a code byte begins, with what R196, R198 and R202 form at its end. -/
def transactionOf (code : Byte) (s : State) : Transaction :=
  match code.toNat with
  | 1 => .order []
  | 2 => .report s.port.reports.head? 0
  | 3 => .status (statusBytes s)
  | 4 => .conditions s.port.conditions 0
  | 5 => .peersStart
  | 6 => .itemNumber
  | _ => .invalid

/-- A transaction behind a whole byte, with this byte taken from MOSI (R193, R194, R203, R204). DESIGN CHOICE (log entry 34): the
value of READ_ITEM is formed here. -/
def afterByte (b : Byte) (t : Transaction) (s : State) : Transaction :=
  match t with
  | .code => transactionOf b s
  | .invalid => .invalid
  | .abandoned => .abandoned
  | .order bytes => .order (bytes ++ [b])
  | .report head k => .report head (k + 1)
  | .status left => .status left.tail
  | .conditions sent k => .conditions sent (k + 1)
  | .peersStart => .peers (firstStation b) []
  | .peers j left => if left.tail = [] then .peers (nextStation j) [] else .peers j left.tail
  | .itemNumber => .item (valueBytes (itemValue s b.toNat))
  | .item left => .item left.tail

/-- The conditions behind the eighth clock of a byte (R198). -/
def conditionsAfter (t : Transaction) (c : BitVec 24) : BitVec 24 :=
  match t with
  | .conditions sent k => keptConditions sent k c
  | _ => c

/-- The eighth clock of a byte, with this byte taken from MOSI. -/
def takeByte (b : Byte) (t : Transaction) (s : State) : State :=
  s.onPort fun p =>
    { p with
      serial := { p.serial with transaction := some (afterByte b t s) }
      conditions := conditionsAfter t p.conditions }

/-- A transaction as its next byte starts: an image of READ_PEERS is formed at its first (R203). -/
def atByteStart (t : Transaction) (s : State) : Transaction :=
  match t with
  | .peers j [] => .peers j (slotImage s j)
  | _ => t

/-- The byte that MISO carries next, zeros behind the data that the table of R193 gives and wherever no transaction of the table
is in progress; `none` where the spec states no level of MISO, under the bytes of an order frame and the item byte (log entry
29). -/
def byteToCarry : Transaction → Option Byte
  | .code => some 0
  | .invalid => some 0
  | .abandoned => some 0
  | .order _ => none
  | .report head k => some (((head.map reportBytes).getD []).getD k 0)
  | .status left => some (left.headD 0)
  | .conditions sent k => some (conditionByte sent k)
  | .peersStart => some 0
  | .peers _ left => some (left.headD 0)
  | .itemNumber => none
  | .item left => some (left.headD 0)

/-- A byte starts on MISO: this one, or a free one (log entry 29). -/
def loadByte (t : Transaction) (s : State) : State :=
  s.onSerial fun p =>
    match byteToCarry t with
    | some b => { p with transaction := some t, miso := b }
    | none => { p with transaction := some t, miso := Config.freeByte p.freeBytes, freeBytes := p.freeBytes + 1 }

/-- CS falls while it is high: a code byte begins, with SCK at rest and MISO at 0. -/
def openTransaction (s : State) : State :=
  if s.port.serial.transaction = none then
    s.onSerial fun p => { p with transaction := some .code, sck := false, bits := 0, mosi := 0, miso := 0 }
  else s

/-- SCK rises: the level of MOSI is taken, the most significant bit of a byte first, and the eighth ends the byte. -/
def clockIn (mosi : Bool) (t : Transaction) (s : State) : State :=
  if s.port.serial.sck then s
  else
    let b := s.port.serial.mosi <<< 1 ||| (if mosi then 1 else 0)
    let s1 := s.onSerial fun p => { p with sck := true, bits := p.bits + 1, mosi := b }
    if s.port.serial.bits = 7 then takeByte b t s1 else s1

/-- SCK falls: MISO goes on to its next bit, or to the first of the next byte. -/
def clockOut (t : Transaction) (s : State) : State :=
  if s.port.serial.sck then
    let s1 := s.onSerial fun p => { p with sck := false, miso := p.miso <<< 1 }
    if s.port.serial.bits = 0 then loadByte (atByteStart t s1) s1 else s1
  else s

/-- CS rises, `partBits` clocks after the last whole byte: an order frame is examined, a report whose 8 bytes were all clocked
is removed, and PORT_FRAMING is latched for an invalid code byte or for 1 to 7 clocks in all (R193, R194, R196). -/
def atRise (partBits : Nat) (t : Transaction) (s : State) : State :=
  match t with
  | .code => if partBits = 0 then s else latch .portFraming s
  | .invalid => latch .portFraming s
  | .abandoned => s
  | .order bytes => receiveOrder bytes partBits s
  | .report head k => if head.isSome = true ∧ 8 ≤ k then s.onPort removeReport else s
  | .status _ => s
  | .conditions _ _ => s
  | .peersStart => s
  | .peers _ _ => s
  | .itemNumber => s
  | .item _ => s

/-- CS rises, and no transaction is in progress. -/
def closeTransaction (t : Transaction) (s : State) : State :=
  (atRise s.port.serial.bits.val t s).onSerial fun p => { p with transaction := none }

/-- The transaction goes on with the commands of the row of this code; 0 is INVALID_TRANSACTION. One with no whole code byte yet,
or abandoned, goes on with every row (log entry 7). -/
def Transaction.hasCode (t : Transaction) (code : Nat) : Bool :=
  match t with
  | .code => true
  | .invalid => code == 0
  | .abandoned => true
  | .order _ => code == 1
  | .report _ _ => code == 2
  | .status _ => code == 3
  | .conditions _ _ => code == 4
  | .peersStart => code == 5
  | .peers _ _ => code == 5
  | .itemNumber => code == 6
  | .item _ => code == 6

/-- Goes on with the transaction in progress where it goes on with this row. -/
def within (code : Nat) (f : Transaction → State → State) (s : State) : State :=
  match s.port.serial.transaction with
  | none => s
  | some t => if t.hasCode code then f t s else s

/-- One edge of a transaction, in the row of this code, with this level of MOSI. -/
def portEdge (code : Nat) (edge : PortEdge) (mosi : Bool) (s : State) : State :=
  match edge with
  | .csFall => openTransaction s
  | .sckRise => within code (clockIn mosi) s
  | .sckFall => within code clockOut s
  | .csRise => within code closeTransaction s

/-- The bit of a code byte that the next rise of SCK takes, the most significant first (R193). -/
def codeBit (code : Byte) (s : State) : Bool := code.getLsbD (7 - s.port.serial.bits.val)

/-! ### Output pins (R152) -/

/-- A motor output MO0 to MO7 is driven high (R152). -/
def State.motorOutput (s : State) (k : Fin 8) : Bool :=
  match s.role with
  | .corner =>
    match k.val with
    | 0 => s.motion.output.up
    | 1 => s.motion.output.down
    | 2 => s.motion.brake.out
    | 3 => s.motion.bolt.driveOut
    | 4 => s.motion.bolt.withdrawOut
    | _ => false
  | .approach =>
    let a := s.arm ⟨k.val / 2, by omega⟩
    if k.val % 2 = 0 then a.up else a.down
  | .channel => false
  | .desk => false

/-- The speed reference duty on SPD, in ‰ (R60, R152). -/
def State.speedReference (s : State) : Nat := if s.role = .corner then s.motion.output.duty else 0

/-- The level of MISO, `none` for high-impedance, which it is while CS is high (R193). -/
def State.misoLevel (s : State) : Option Bool :=
  if s.port.serial.transaction.isSome then some (s.port.serial.miso.getLsbD 7) else none

/-- The level a station's transmitter puts on its line for bit `n` of the frame it sends: `false` is the active level, and
a line that no frame is sent on is released (R23, R25). -/
def State.lineBit (s : State) (l : LinkLine) (n : Nat) : Bool :=
  match (s.line l).sending with
  | some bytes => (frameBits bytes).getD n true
  | none => true

end Sys2Proof.Machine
end

