-- ==== Sys2Proof/Machine/Orders.lean ====
section
/-! DEFINITION. The order handler: what every order decides and does, and its ORDER_RESULT (R90, R131, R132, R164, R171, R173,
R176, R189, R195, R200, R201, R204 to R210). -/

namespace Sys2Proof.Machine

/-! ### Answers (R195) -/

/-- Reasons of an ORDER_RESULT in the order of their codes. -/
inductive Reason where
  | none | wrongState | wrongRole | notNow | badArgument | causePresent | notEnabled | rosterInvalid
  deriving DecidableEq, Repr

/-- Reason codes. -/
def reasonCode : Reason → Nat
  | .none => 0
  | .wrongState => 1
  | .wrongRole => 2
  | .notNow => 3
  | .badArgument => 4
  | .causePresent => 5
  | .notEnabled => 6
  | .rosterInvalid => 7

/-- Results of an ORDER_RESULT in the order of their codes. -/
inductive OrderOutcome where
  | accepted | clamped | refused
  deriving DecidableEq, Repr

/-- Result codes. -/
def outcomeCode : OrderOutcome → Nat
  | .accepted => 0
  | .clamped => 1
  | .refused => 2

/-- The answer to an order: result, reason, and the first EXTRA byte. -/
structure Answer where
  outcome : OrderOutcome
  reason : Reason
  extra : Nat
  deriving DecidableEq, Repr

/-- ACCEPTED. -/
def accepted : Answer := { outcome := .accepted, reason := .none, extra := 0 }

/-- REFUSED with a reason. -/
def refused (r : Reason) : Answer := { outcome := .refused, reason := r, extra := 0 }

/-- An answer with this first EXTRA byte. -/
def Answer.with (a : Answer) (extra : Nat) : Answer := { a with extra := extra }

/-- An order leaves the reset-enable flag as it is only where it is ENABLE_RESET or RESET (R209). -/
def keepsResetEnable (o : Order) : Bool := o == .enableReset || o == .reset

/-- The order at the head of the FIFO is removed, numbered and counted (R195, R209). -/
def removeOrder (o : Order) (s : State) : State :=
  s.onPort fun p =>
    { p with
      orders := p.orders.tail
      orderNumber := p.orderNumber + 1
      resetEnable := p.resetEnable && keepsResetEnable o }

/-- The answer is made known: a refusal latches ORDER_REFUSED, and the ORDER_RESULT follows (R195). -/
def answerOrder (o : Order) (number : Byte) (a : Answer) (s : State) : State :=
  report .orderResult (orderCode o) (outcomeCode a.outcome) (reasonCode a.reason) a.extra number.toNat
    (if a.outcome = .refused then latch .orderRefused s else s)

/-- The order handler takes an order from the head of the FIFO, decides it, and answers after every other report of the event
(R195). An order that does not stand at the head is not taken. -/
def takeOrder (o : Order) (decide : State → State × Answer) (s : State) : State :=
  if s.port.orders.head? = some o then
    let s1 := removeOrder o s
    let r := decide (s1.setFed false)
    answerOrder o s.port.orderNumber r.2 (publish s1 r.1)
  else s

/-! ### Configuration (R204, R205) -/

/-- SET_ITEM. -/
def orderSetItem (item : Byte) (value : BitVec 32) (s : State) : State × Answer :=
  if s.running then (s, (refused .wrongState).with item.toNat)
  else
    match itemRange s.config item.toNat with
    | none => (s, (refused .badArgument).with item.toNat)
    | some range =>
      let stored := itemStored range item.toNat value.toNat
      ({ s with config := writeItem s.config item.toNat stored },
        { outcome := if stored = value.toNat then .accepted else .clamped, reason := .none, extra := item.toNat })

/-- SET_ROSTER. -/
def orderSetRoster (codes : BitVec 48) (s : State) : State × Answer :=
  if s.running then (s, refused .wrongState)
  else if stations.all fun j => rosterCodeOk (rosterCode codes j) then ({ s with roster := rosterOf codes }, accepted)
  else (s, refused .badArgument)

/-! ### RUN (R7, R15, R39, R206) -/

/-- The number of stations the roster gives a role. -/
def State.roleCount (s : State) (r : Role) : Nat := (stations.filter fun j => s.rosterRole j == some r).length

/-- The roster's entry for the own number. -/
def State.ownRosterRole (s : State) : Option Role :=
  if h : s.straps.number.val < 12 then s.rosterRole ⟨s.straps.number.val, h⟩ else none

/-- The first of RUN's checks that fails. -/
def State.failedCheck (s : State) : Option Nat :=
  if ¬s.number < 12 then some 1
  else if s.ownRosterRole = none then some 2
  else if s.ownRosterRole ≠ some s.role then some 3
  else if s.roleCount .corner ≠ 4 then some 4
  else if ¬(1 ≤ s.roleCount .approach ∧ s.roleCount .approach ≤ 4) then some 5
  else if ¬(1 ≤ s.roleCount .channel ∧ s.roleCount .channel ≤ 2) then some 6
  else if ¬(1 ≤ s.roleCount .desk ∧ s.roleCount .desk ≤ 2) then some 7
  else none

/-- The roster's part of the digest (R15). -/
def rosterSum (s : State) : Nat :=
  (stations.map fun j => ((s.rosterRole j).map fun r => 16 * j.val + roleCode r).getD 0).sum

/-- The own digest (R15). -/
def ownDigest (s : State) : Byte :=
  byteOf (rosterSum s + s.openHeight + s.clearanceHeight + s.refreshInterval + s.config.item 1)

/-- An entry as RUN creates it (R8). -/
def newEntry : Entry where
  freshness := .absent
  heard := none
  seenA := false
  seenB := false
  staleTimer := none
  lostTimer := none
  seenTimerA := none
  seenTimerB := none

/-- The peer table slot that RUN gives a station number (R7). -/
def runSlot (s : State) (j : Fin 12) : Option Entry :=
  if (s.rosterRole j).isSome = true ∧ j.val ≠ s.number then some newEntry else none

/-- The peer table that RUN creates (R7). -/
def runPeers (s : State) : Vector (Option Entry) 12 :=
  #v[runSlot s 0, runSlot s 1, runSlot s 2, runSlot s 3, runSlot s 4, runSlot s 5, runSlot s 6, runSlot s 7, runSlot s 8,
    runSlot s 9, runSlot s 10, runSlot s 11]

/-- A line at the accepted RUN order (R39). -/
def runLine (l : LinkLine) (s : State) : State :=
  s.onLine l fun u => { u with health := some .waiting, healthTimer := some s.staleTime }

/-- The accepted RUN order, before the Record Builder takes the content: the inhibit is set and the digest computed before the
role block derives its first phase (R206). -/
def startBlocks (s : State) : State :=
  let s1 := ({ s with running := true, digest := some (ownDigest s), peers := runPeers s }).onPort fun p =>
    { p with startInhibit := true }
  runRole (setNotProved (runLine .b (runLine .a s1)))

/-- The accepted RUN order, handed to every block; the content is taken as it stands, CHANGED is cleared on both lines and
both slots are filled (R30, R32, R206). -/
def startRun (s : State) : State :=
  let s1 := startBlocks s
  let s2 := (s1.onLine .a fun u => { u with changed := false }).onLine .b fun u => { u with changed := false }
  fillBoth s2

/-- RUN. -/
def orderRun (s : State) : State × Answer :=
  if s.running then (s, refused .wrongState)
  else
    match s.failedCheck with
    | some n => (s, (refused .rosterInvalid).with n)
    | none => (startRun s, accepted)

/-! ### Resets (R209 to R211) -/

/-- ENABLE_RESET. -/
def orderEnableReset (s : State) : State × Answer := (s.onPort fun p => { p with resetEnable := true }, accepted)

/-- What an order reset keeps of the Motion Unit: the encoder, P and the POSITION it gives (R42, R44 to R46). -/
def keepPosition (old : MotionUnit) (m : MotionUnit) : MotionUnit := { m with pos := old.pos, position := old.position }

/-- What a reset finds and does not set, beside the line levels. -/
def foundBy (idleA idleB : Bool) (s : State) : Found where
  pending := s.pending
  serial := s.port.serial
  idleA := idleA
  idleB := idleB

/-- An order reset: configuration, roster and encoder stay, and the lines are as idle as they were (R211). -/
def orderReset (straps : Straps) (s : State) : State :=
  (State.afterReset straps (byteOf (roleCode straps.role)) 1 s.config s.roster s.motion.encoder
    (foundBy s.link.lineA.idle s.link.lineB.idle s)).onMotion (keepPosition s.motion)

/-- A power-on reset (R211). -/
def powerOnReset (straps : Straps) (s : State) : State :=
  State.afterPowerOn straps (byteOf (roleCode straps.role)) (foundBy false false s)

/-- RESET taken from the head of the FIFO (R210). -/
def takeReset (straps : Straps) (s : State) : State :=
  if s.port.orders.head? = some .reset then
    if s.port.resetEnable then orderReset straps s
    else takeOrder .reset (fun t => (t, refused .notEnabled)) s
  else s

/-! ### Mask, threshold and inhibit (R200, R201, R207, R208) -/

/-- SET_MASK. -/
def orderSetMask (mask : BitVec 24) (s : State) : State × Answer := (s.onPort fun p => { p with mask := mask }, accepted)

/-- SET_THRESHOLD. -/
def orderSetThreshold (threshold : Byte) (s : State) : State × Answer :=
  (s.onPort fun p =>
    { p with threshold := if 1 ≤ threshold.toNat ∧ threshold.toNat ≤ 32 then threshold.toNat else p.threshold }, accepted)

/-- Sets or clears the start inhibit, and tells the role block (R207, R208). -/
def setInhibit (on : Bool) (s : State) : State :=
  if s.port.startInhibit = on then s else roleReact (s.onPort fun p => { p with startInhibit := on })

/-- CLEAR_INHIBIT. -/
def orderClearInhibit (s : State) : State × Answer :=
  if s.running = false then (s, refused .wrongState)
  else if s.trip.flag then (s, refused .notNow)
  else (setInhibit false s, accepted)

/-- SET_INHIBIT. -/
def orderSetInhibit (s : State) : State × Answer :=
  if s.running = false then (s, refused .wrongState) else (setInhibit true s, accepted)

/-! ### Orders of the role blocks -/

/-- CLEAR_TRIP (R189). -/
def orderClearTrip (s : State) : State × Answer :=
  if s.running = false then (s, refused .wrongState)
  else
    match s.decideClear with
    | .wrongState => (s, refused .wrongState)
    | .causePresent c => (s, (refused .causePresent).with (causeCode c))
    | .accepted => (acceptClear 255 s, accepted)

/-- HOME (R90). -/
def orderHome (s : State) : State × Answer :=
  if s.role ≠ .corner then (s, refused .wrongRole)
  else if !(s.cornerIs .unreferenced || s.cornerIs .held) then (s, refused .wrongState)
  else if s.maint = false then (s, refused .notEnabled)
  else if s.demandView = .raise ∨ s.demandView = .lower ∨ s.motion.bolt.state ≠ .withdrawn then (s, refused .notNow)
  else (cornerReact (toCorner .homing .none s), accepted)

/-- An arm argument names a fitted arm (R131, R132). -/
def fittedArm (s : State) (arm : Byte) : Option (Fin 4) :=
  if h : arm.toNat < 4 then if s.isFitted ⟨arm.toNat, h⟩ then some ⟨arm.toNat, h⟩ else none else none

/-- ARM_ACCEPT (R131). -/
def orderArmAccept (arm : Byte) (s : State) : State × Answer :=
  let refuse := fun (r : Reason) => (s, (refused r).with arm.toNat)
  if s.role ≠ .approach then refuse .wrongRole
  else
    match s.running, s.closure.phase, fittedArm s arm with
    | false, _, _ => refuse .wrongState
    | true, none, _ => refuse .wrongState
    | true, some _, none => refuse .badArgument
    | true, some p, some i =>
      if s.armFaulted i = false then refuse .wrongState
      else if acceptPhase p = false then refuse .notNow
      else (acceptArm i s, accepted.with arm.toNat)

/-- ARM_RESET (R132). -/
def orderArmReset (arm : Byte) (s : State) : State × Answer :=
  let refuse := fun (r : Reason) => (s, (refused r).with arm.toNat)
  if s.role ≠ .approach then refuse .wrongRole
  else if s.running = false then refuse .wrongState
  else
    match fittedArm s arm with
    | none => refuse .badArgument
    | some i =>
      if !(s.armFaulted i || s.armIs i .manual) then refuse .wrongState
      else if s.armPattern i = .invalid ∨ s.approachIs .raisingArms = true then refuse .notNow
      else (resetArm i s, accepted.with arm.toNat)

/-- NAV_ACCEPT (R164). -/
def orderNavAccept (s : State) : State × Answer :=
  if s.role ≠ .channel then (s, refused .wrongRole)
  else if !(s.channelIs .closing || s.channelIs .closedToVessels) then (s, refused .wrongState)
  else if !(s.lampFailed 0 && s.lampFailed 1) then (s, refused .notNow)
  else (takeNavAccept s, accepted)

/-- The demand of DEMAND's argument (R171). -/
def demandOf (value : Byte) : Option Demand :=
  match value.toNat with
  | 0 => some .none
  | 1 => some .raise
  | 2 => some .lower
  | 3 => some .halt
  | _ => none

/-- DEMAND (R171). -/
def orderDemand (value : Byte) (s : State) : State × Answer :=
  if s.role ≠ .desk then (s, refused .wrongRole)
  else if s.running = false then (s, refused .wrongState)
  else
    match demandOf value with
    | none => (s, refused .badArgument)
    | some d =>
      if s.deskIs .tripped then (s, refused .wrongState)
      else if s.deskIs .inactive then (s, refused .notEnabled)
      else (setDemand d s, accepted)

/-- SET_GOAL (R173). -/
def orderSetGoal (height : BitVec 16) (s : State) : State × Answer :=
  if s.role ≠ .desk then (s, refused .wrongRole)
  else if s.running = false then (s, refused .wrongState)
  else
    (setGoal height.toNat s,
      if goalStored s height.toNat = height.toNat then accepted
      else { outcome := .clamped, reason := .none, extra := 0 })

/-- CLEAR_REQUEST (R176). -/
def orderClearRequest (s : State) : State × Answer :=
  if s.role ≠ .desk then (s, refused .wrongRole)
  else if s.running = false then (s, refused .wrongState)
  else (clearPress s, accepted)

end Sys2Proof.Machine
end

