-- ==== Sys2Proof/Machine/PortCommands.lean ====
section
/-! DEFINITION. The commands at the local port's pins: POWER_ON_RESET and the transactions of R193. -/

namespace Sys2Proof.Machine

/-- The outcome of an event taken whole: its next state, with the change of content it makes (R30). -/
def event (f : State → State) (s : State) : Host.Outcome State Fault Refusal := .next (publish s (f (s.setFed false)))

/-- POWER_ON_RESET (R211). -/
def execPowerOnReset (straps : Straps) (s : State) : Host.Outcome State Fault Refusal := .next (powerOnReset straps s)

/-- ORDER (R193, R194). -/
def execOrder (edge : PortEdge) (mosi : Bool) (s : State) : Host.Outcome State Fault Refusal :=
  .next (portEdge 1 edge mosi s)

/-- INVALID_TRANSACTION (R193). -/
def execInvalidTransaction (edge : PortEdge) (mosi : Bool) (s : State) : Host.Outcome State Fault Refusal :=
  .next (portEdge 0 edge mosi s)

/-- READ_REPORT (R193, R196, R197): MOSI is ignored behind the code byte. -/
def execReadReport (edge : PortEdge) (s : State) : Host.Outcome State Fault Refusal :=
  .next (portEdge 2 edge (codeBit 2 s) s)

/-- READ_STATUS (R193, R202): MOSI is ignored behind the code byte. -/
def execReadStatus (edge : PortEdge) (s : State) : Host.Outcome State Fault Refusal :=
  .next (portEdge 3 edge (codeBit 3 s) s)

/-- READ_CONDITIONS (R193, R198): MOSI is ignored behind the code byte. -/
def execReadConditions (edge : PortEdge) (s : State) : Host.Outcome State Fault Refusal :=
  .next (portEdge 4 edge (codeBit 4 s) s)

/-- READ_PEERS (R193, R203). -/
def execReadPeers (edge : PortEdge) (mosi : Bool) (s : State) : Host.Outcome State Fault Refusal :=
  .next (portEdge 5 edge mosi s)

/-- READ_ITEM (R193, R204). -/
def execReadItem (edge : PortEdge) (mosi : Bool) (s : State) : Host.Outcome State Fault Refusal :=
  .next (portEdge 6 edge mosi s)

end Sys2Proof.Machine
end

