-- ==== Sys2Proof/Machine/OrderCommands.lean ====
section
/-! DEFINITION. The orders as the order handler takes them from the head of the order FIFO (R195). -/

namespace Sys2Proof.Machine

/-- SET_ITEM (R204). -/
def execSetItem (item : Byte) (value : BitVec 32) (s : State) : Host.Outcome State Fault Refusal :=
  .next (takeOrder (.setItem item value) (orderSetItem item value) s)

/-- SET_ROSTER (R205). -/
def execSetRoster (codes : BitVec 48) (s : State) : Host.Outcome State Fault Refusal :=
  .next (takeOrder (.setRoster codes) (orderSetRoster codes) s)

/-- RUN (R206). -/
def execRun (s : State) : Host.Outcome State Fault Refusal := .next (takeOrder .run orderRun s)

/-- ENABLE_RESET (R209). -/
def execEnableReset (s : State) : Host.Outcome State Fault Refusal := .next (takeOrder .enableReset orderEnableReset s)

/-- RESET (R210). -/
def execReset (straps : Straps) (s : State) : Host.Outcome State Fault Refusal := .next (takeReset straps s)

/-- SET_MASK (R200). -/
def execSetMask (mask : BitVec 24) (s : State) : Host.Outcome State Fault Refusal :=
  .next (takeOrder (.setMask mask) (orderSetMask mask) s)

/-- SET_THRESHOLD (R201). -/
def execSetThreshold (threshold : Byte) (s : State) : Host.Outcome State Fault Refusal :=
  .next (takeOrder (.setThreshold threshold) (orderSetThreshold threshold) s)

/-- CLEAR_INHIBIT (R208). -/
def execClearInhibit (s : State) : Host.Outcome State Fault Refusal :=
  .next (takeOrder .clearInhibit orderClearInhibit s)

/-- SET_INHIBIT (R207). -/
def execSetInhibit (s : State) : Host.Outcome State Fault Refusal := .next (takeOrder .setInhibit orderSetInhibit s)

/-- CLEAR_TRIP (R189). -/
def execClearTrip (s : State) : Host.Outcome State Fault Refusal := .next (takeOrder .clearTrip orderClearTrip s)

/-- HOME (R90). -/
def execHome (s : State) : Host.Outcome State Fault Refusal := .next (takeOrder .home orderHome s)

/-- ARM_ACCEPT (R131). -/
def execArmAccept (arm : Byte) (s : State) : Host.Outcome State Fault Refusal :=
  .next (takeOrder (.armAccept arm) (orderArmAccept arm) s)

/-- ARM_RESET (R132). -/
def execArmReset (arm : Byte) (s : State) : Host.Outcome State Fault Refusal :=
  .next (takeOrder (.armReset arm) (orderArmReset arm) s)

/-- NAV_ACCEPT (R164). -/
def execNavAccept (s : State) : Host.Outcome State Fault Refusal := .next (takeOrder .navAccept orderNavAccept s)

/-- DEMAND (R171). -/
def execDemand (value : Byte) (s : State) : Host.Outcome State Fault Refusal :=
  .next (takeOrder (.demand value) (orderDemand value) s)

/-- SET_GOAL (R173). -/
def execSetGoal (height : BitVec 16) (s : State) : Host.Outcome State Fault Refusal :=
  .next (takeOrder (.setGoal height) (orderSetGoal height) s)

/-- CLEAR_REQUEST (R176). -/
def execClearRequest (s : State) : Host.Outcome State Fault Refusal :=
  .next (takeOrder .clearRequest orderClearRequest s)

end Sys2Proof.Machine
end

