-- ==== Sys2Proof/Machine/LinkCommands.lean ====
section
/-! DEFINITION. The events of the span link, the peer table and station time. -/

namespace Sys2Proof.Machine

/-- FRAME_RECEIVED (R11, R26). -/
def execFrameReceived (line : LinkLine) (levels : List Bool) (s : State) : Host.Outcome State Fault Refusal :=
  event (receiveFrame line levels) s

/-- STALE_TIMER_EXPIRY (R9). -/
def execStaleTimerExpiry (station : Fin 12) (s : State) : Host.Outcome State Fault Refusal :=
  event (staleExpiry station) s

/-- LOST_TIMER_EXPIRY (R9). -/
def execLostTimerExpiry (station : Fin 12) (s : State) : Host.Outcome State Fault Refusal :=
  event (lostExpiry station) s

/-- SEEN_TIMER_EXPIRY (R10). -/
def execSeenTimerExpiry (station : Fin 12) (line : LinkLine) (s : State) : Host.Outcome State Fault Refusal :=
  event (seenExpiry station line) s

/-- DUPLICATE_TIMER_EXPIRY (R12). -/
def execDuplicateTimerExpiry (s : State) : Host.Outcome State Fault Refusal := event duplicateExpiry s

/-- STATION_TIME_TICK (R10, R211). -/
def execStationTimeTick (s : State) : Host.Outcome State Fault Refusal := event timeTick s

/-- SPACING_TIMER_EXPIRY (R33). -/
def execSpacingTimerExpiry (line : LinkLine) (s : State) : Host.Outcome State Fault Refusal :=
  event (spacingExpiry line) s

/-- REFRESH_TIMER_EXPIRY (R33). -/
def execRefreshTimerExpiry (line : LinkLine) (s : State) : Host.Outcome State Fault Refusal :=
  event (refreshExpiry line) s

/-- IDLE_GAP_MET (R35). -/
def execIdleGapMet (line : LinkLine) (s : State) : Host.Outcome State Fault Refusal := event (idleGap line) s

/-- DEFERRAL (R35). -/
def execDeferral (line : LinkLine) (s : State) : Host.Outcome State Fault Refusal := event (deferLine line) s

/-- ATTEMPT_START (R34). -/
def execAttemptStart (line : LinkLine) (s : State) : Host.Outcome State Fault Refusal := event (delayExpiry line) s

/-- COLLISION (R36, R37). -/
def execCollision (point : CollisionPoint) (s : State) : Host.Outcome State Fault Refusal :=
  event (collide point.line (point.bit == 0)) s

/-- TRANSMISSION_COMPLETE (R34). -/
def execTransmissionComplete (line : LinkLine) (s : State) : Host.Outcome State Fault Refusal :=
  event (completeTransmission line) s

/-- HEALTH_TIMER_EXPIRY (R39). -/
def execHealthTimerExpiry (line : LinkLine) (s : State) : Host.Outcome State Fault Refusal := event (lineSilent line) s

end Sys2Proof.Machine
end

