-- ==== Sys2Proof/Machine/FieldCommands.lean ====
section
/-! DEFINITION. The events of the field inputs, the lamps and the sounders. -/

namespace Sys2Proof.Machine

/-- A change of a proving state reaches the role block of an approach or a channel (R100, R147, R154). -/
def lampReact (s : State) : State :=
  if s.running then
    match s.role with
    | .approach => approachReact s
    | .channel => channelReact s
    | .corner => s
    | .desk => s
  else s

/-- INPUT_RAW_CHANGE (R134). -/
def execInputRawChange (input : Fin 25) (active : Bool) (s : State) : Host.Outcome State Fault Refusal :=
  event (sampleInput input active) s

/-- FILTER_TIMER_EXPIRY (R135). -/
def execFilterTimerExpiry (input : Fin 25) (s : State) : Host.Outcome State Fault Refusal :=
  event (filterExpiry input) s

/-- ESTOP_RAW_CHANGE (R180). -/
def execEstopRawChange (active : Bool) (s : State) : Host.Outcome State Fault Refusal := event (sampleEstop active) s

/-- ESTOP_EVENT (R180, R181). -/
def execEstopEvent (s : State) : Host.Outcome State Fault Refusal := event estopExpiry s

/-- FLASH_HALF_EXPIRY (R139). -/
def execFlashHalfExpiry (s : State) : Host.Outcome State Fault Refusal := event (fun t => lampReact (flashExpiry t)) s

/-- LAMP_SENSE_EVENT (R142). -/
def execLampSenseEvent (lamp : Fin 16) (sensed : Bool) (s : State) : Host.Outcome State Fault Refusal :=
  event (fun t => lampReact (senseEvent lamp sensed t)) s

/-- PROVING_TIMER_EXPIRY (R143). -/
def execProvingTimerExpiry (lamp : Fin 16) (s : State) : Host.Outcome State Fault Refusal :=
  event (fun t => lampReact (provingExpiry lamp t)) s

/-- WATCH_TIMER_EXPIRY (R144). -/
def execWatchTimerExpiry (lamp : Fin 16) (s : State) : Host.Outcome State Fault Refusal :=
  event (fun t => lampReact (watchExpiry lamp t)) s

/-- DARK_TIMER_EXPIRY (R145). -/
def execDarkTimerExpiry (lamp : Fin 16) (s : State) : Host.Outcome State Fault Refusal :=
  event (fun t => lampReact (darkExpiry lamp t)) s

/-- STEP_TIMER_EXPIRY (R149). -/
def execStepTimerExpiry (sounder : Fin 2) (s : State) : Host.Outcome State Fault Refusal := event (stepExpiry sounder) s

end Sys2Proof.Machine
end

