-- ==== Sys2Proof/Machine/RoleCommands.lean ====
section
/-! DEFINITION. The events of the Motion Unit, the Closure Unit, the arm controllers and the Channel Unit. -/

namespace Sys2Proof.Machine

/-- An expiry of the control period: its work, then the slots it fills at a corner that moves or stands with its brake
released (R32, R48). DESIGN CHOICE (log entry 38): the phase and the brake output that trigger 4 of R32 tests are those after
the work of the expiry. -/
def controlPeriod (s : State) : State :=
  if s.running = true ∧ s.role = .corner ∧ s.motion.controlTimer.isSome = true then
    let s1 := publish s (controlWork (s.setFed false))
    if sendsEachPeriod s1 then fillBoth s1 else s1
  else s

/-- ENCODER_TRANSITION (R42, R43). -/
def execEncoderTransition (a b : Bool) (s : State) : Host.Outcome State Fault Refusal := event (encoderSample a b) s

/-- CONTROL_PERIOD (R48). -/
def execControlPeriod (s : State) : Host.Outcome State Fault Refusal := .next (controlPeriod s)

/-- DEAD_TIME_EXPIRY (R61). -/
def execDeadTimeExpiry (s : State) : Host.Outcome State Fault Refusal := event deadExpiry s

/-- STALL_TIMER_EXPIRY (R64). -/
def execStallTimerExpiry (s : State) : Host.Outcome State Fault Refusal := event stallExpiry s

/-- BOLT_TRAVEL_TIMEOUT (R71). -/
def execBoltTravelTimeout (s : State) : Host.Outcome State Fault Refusal := event boltTimeout s

/-- BRAKE_TIMER_EXPIRY (R80). -/
def execBrakeTimerExpiry (s : State) : Host.Outcome State Fault Refusal := event brakeExpiry s

/-- SET_CHECK_EXPIRY (R80). -/
def execSetCheckExpiry (s : State) : Host.Outcome State Fault Refusal := event setCheckExpiry s

/-- HOLD_TIMER_EXPIRY (R82). -/
def execHoldTimerExpiry (s : State) : Host.Outcome State Fault Refusal := event holdExpiry s

/-- AMBER_TIMER_EXPIRY (R103). -/
def execAmberTimerExpiry (s : State) : Host.Outcome State Fault Refusal := event amberExpiry s

/-- RED_CLEARANCE_EXPIRY (R104). -/
def execRedClearanceExpiry (s : State) : Host.Outcome State Fault Refusal := event redExpiry s

/-- DECK_CLEAR_EXPIRY (R106). -/
def execDeckClearExpiry (s : State) : Host.Outcome State Fault Refusal := event deckClearExpiry s

/-- DECK_LIMIT_EXPIRY (R107). -/
def execDeckLimitExpiry (s : State) : Host.Outcome State Fault Refusal := event deckLimitExpiry s

/-- GAP_TIMER_EXPIRY (R117). -/
def execGapTimerExpiry (arm : Fin 4) (s : State) : Host.Outcome State Fault Refusal := event (gapExpiry arm) s

/-- ARM_TRAVEL_TIMEOUT (R126). -/
def execArmTravelTimeout (arm : Fin 4) (s : State) : Host.Outcome State Fault Refusal :=
  event (fun t => approachReact (armTravelExpiry arm t)) s

/-- RETRY_TIMER_EXPIRY (R125). -/
def execRetryTimerExpiry (arm : Fin 4) (s : State) : Host.Outcome State Fault Refusal :=
  event (fun t => approachReact (retryExpiry arm t)) s

/-- LANE_TIMER_EXPIRY (R129). -/
def execLaneTimerExpiry (arm : Fin 4) (s : State) : Host.Outcome State Fault Refusal := event (laneExpiry arm) s

/-- CLEARING_TIMER_EXPIRY (R162). -/
def execClearingTimerExpiry (s : State) : Host.Outcome State Fault Refusal := event clearingExpiry s

end Sys2Proof.Machine
end

