-- ==== Sys2Proof/Machine/Dispatch.lean ====
section
/-! DEFINITION. The meaning of every command: one arm for each constructor of Instr. -/

namespace Sys2Proof.Machine

def exec (i : Instr) (s : State) : Host.Outcome State Fault Refusal :=
  match i with
  | .powerOnReset straps => Sys2Proof.Machine.execPowerOnReset straps s
  | .order edge mosi => Sys2Proof.Machine.execOrder edge mosi s
  | .invalidTransaction edge mosi => Sys2Proof.Machine.execInvalidTransaction edge mosi s
  | .readReport edge => Sys2Proof.Machine.execReadReport edge s
  | .readStatus edge => Sys2Proof.Machine.execReadStatus edge s
  | .readConditions edge => Sys2Proof.Machine.execReadConditions edge s
  | .readPeers edge mosi => Sys2Proof.Machine.execReadPeers edge mosi s
  | .readItem edge mosi => Sys2Proof.Machine.execReadItem edge mosi s
  | .setItem item value => Sys2Proof.Machine.execSetItem item value s
  | .setRoster codes => Sys2Proof.Machine.execSetRoster codes s
  | .run => Sys2Proof.Machine.execRun s
  | .enableReset => Sys2Proof.Machine.execEnableReset s
  | .reset straps => Sys2Proof.Machine.execReset straps s
  | .setMask mask => Sys2Proof.Machine.execSetMask mask s
  | .setThreshold threshold => Sys2Proof.Machine.execSetThreshold threshold s
  | .clearInhibit => Sys2Proof.Machine.execClearInhibit s
  | .setInhibit => Sys2Proof.Machine.execSetInhibit s
  | .clearTrip => Sys2Proof.Machine.execClearTrip s
  | .home => Sys2Proof.Machine.execHome s
  | .armAccept arm => Sys2Proof.Machine.execArmAccept arm s
  | .armReset arm => Sys2Proof.Machine.execArmReset arm s
  | .navAccept => Sys2Proof.Machine.execNavAccept s
  | .demand value => Sys2Proof.Machine.execDemand value s
  | .setGoal height => Sys2Proof.Machine.execSetGoal height s
  | .clearRequest => Sys2Proof.Machine.execClearRequest s
  | .frameReceived line levels => Sys2Proof.Machine.execFrameReceived line levels s
  | .staleTimerExpiry station => Sys2Proof.Machine.execStaleTimerExpiry station s
  | .lostTimerExpiry station => Sys2Proof.Machine.execLostTimerExpiry station s
  | .seenTimerExpiry station line => Sys2Proof.Machine.execSeenTimerExpiry station line s
  | .duplicateTimerExpiry => Sys2Proof.Machine.execDuplicateTimerExpiry s
  | .stationTimeTick => Sys2Proof.Machine.execStationTimeTick s
  | .spacingTimerExpiry line => Sys2Proof.Machine.execSpacingTimerExpiry line s
  | .refreshTimerExpiry line => Sys2Proof.Machine.execRefreshTimerExpiry line s
  | .idleGapMet line => Sys2Proof.Machine.execIdleGapMet line s
  | .deferral line => Sys2Proof.Machine.execDeferral line s
  | .attemptStart line => Sys2Proof.Machine.execAttemptStart line s
  | .collision point => Sys2Proof.Machine.execCollision point s
  | .transmissionComplete line => Sys2Proof.Machine.execTransmissionComplete line s
  | .healthTimerExpiry line => Sys2Proof.Machine.execHealthTimerExpiry line s
  | .inputRawChange input active => Sys2Proof.Machine.execInputRawChange input active s
  | .filterTimerExpiry input => Sys2Proof.Machine.execFilterTimerExpiry input s
  | .estopRawChange active => Sys2Proof.Machine.execEstopRawChange active s
  | .estopEvent => Sys2Proof.Machine.execEstopEvent s
  | .encoderTransition a b => Sys2Proof.Machine.execEncoderTransition a b s
  | .controlPeriod => Sys2Proof.Machine.execControlPeriod s
  | .deadTimeExpiry => Sys2Proof.Machine.execDeadTimeExpiry s
  | .stallTimerExpiry => Sys2Proof.Machine.execStallTimerExpiry s
  | .boltTravelTimeout => Sys2Proof.Machine.execBoltTravelTimeout s
  | .brakeTimerExpiry => Sys2Proof.Machine.execBrakeTimerExpiry s
  | .setCheckExpiry => Sys2Proof.Machine.execSetCheckExpiry s
  | .holdTimerExpiry => Sys2Proof.Machine.execHoldTimerExpiry s
  | .amberTimerExpiry => Sys2Proof.Machine.execAmberTimerExpiry s
  | .redClearanceExpiry => Sys2Proof.Machine.execRedClearanceExpiry s
  | .deckClearExpiry => Sys2Proof.Machine.execDeckClearExpiry s
  | .deckLimitExpiry => Sys2Proof.Machine.execDeckLimitExpiry s
  | .gapTimerExpiry arm => Sys2Proof.Machine.execGapTimerExpiry arm s
  | .armTravelTimeout arm => Sys2Proof.Machine.execArmTravelTimeout arm s
  | .retryTimerExpiry arm => Sys2Proof.Machine.execRetryTimerExpiry arm s
  | .laneTimerExpiry arm => Sys2Proof.Machine.execLaneTimerExpiry arm s
  | .clearingTimerExpiry => Sys2Proof.Machine.execClearingTimerExpiry s
  | .flashHalfExpiry => Sys2Proof.Machine.execFlashHalfExpiry s
  | .lampSenseEvent lamp sensed => Sys2Proof.Machine.execLampSenseEvent lamp sensed s
  | .provingTimerExpiry lamp => Sys2Proof.Machine.execProvingTimerExpiry lamp s
  | .watchTimerExpiry lamp => Sys2Proof.Machine.execWatchTimerExpiry lamp s
  | .darkTimerExpiry lamp => Sys2Proof.Machine.execDarkTimerExpiry lamp s
  | .stepTimerExpiry sounder => Sys2Proof.Machine.execStepTimerExpiry sounder s

end Sys2Proof.Machine
end

