-- ==== Sys2Proof/Safety.lean ====
section
/-! DEFINITION. What counts as a safe state and a safe run, and the words in which statements say what a command does and
what it leaves unchanged. -/

namespace Sys2Proof.Machine

/-! ### Frames -/

/-- The parts of the state as the frame of a command names them. The local port is divided: `orderQueue` is the order FIFO
with the order number and the reset-enable flag, `attention` the mask and the threshold, `reports` the report FIFO with what
R197 keeps of lost reports and the conditions, `serial` the transaction in progress with the pins and shift registers of the
serial port. `feed` is the model's own mark of a change fed within an event. -/
inductive Block where
  | queue | running | straps | config | roster | digest | time | orderQueue | attention | inhibit | serial | reports | inputs
  | trip | peers | duplicate | link | signal | motion | closure | channel | desk | feed
  deriving DecidableEq, Repr

/-- A part is the same in two states. -/
def same (s t : State) : Block → Prop
  | .queue => t.pending = s.pending
  | .running => t.running = s.running
  | .straps => t.straps = s.straps
  | .config => t.config = s.config
  | .roster => t.roster = s.roster
  | .digest => t.digest = s.digest
  | .time => t.time = s.time
  | .orderQueue =>
    t.port.orders = s.port.orders ∧ t.port.orderNumber = s.port.orderNumber ∧ t.port.resetEnable = s.port.resetEnable
  | .attention => t.port.mask = s.port.mask ∧ t.port.threshold = s.port.threshold
  | .inhibit => t.port.startInhibit = s.port.startInhibit
  | .serial => t.port.serial = s.port.serial
  | .reports =>
    t.port.reports = s.port.reports ∧ t.port.lostCount = s.port.lostCount ∧
      t.port.lostFirstKind = s.port.lostFirstKind ∧ t.port.lostFirstTime = s.port.lostFirstTime ∧
      t.port.lostLastKind = s.port.lostLastKind ∧ t.port.conditions = s.port.conditions
  | .inputs => t.inputs = s.inputs
  | .trip => t.trip = s.trip
  | .peers => t.peers = s.peers
  | .duplicate => t.duplicateTimer = s.duplicateTimer
  | .link => t.link = s.link
  | .signal => t.signal = s.signal
  | .motion => t.motion = s.motion
  | .closure => t.closure = s.closure
  | .channel => t.channel = s.channel
  | .desk => t.desk = s.desk
  | .feed => t.fed = s.fed

/-- Every part but those named is the same in both states. -/
def UnchangedBut (named : List Block) (s t : State) : Prop := ∀ b, b ∉ named → same s t b

/-- What a role block and the Trip Unit write in one event, with the mark that they feed a change of PHASE. -/
def roleBlocks : List Block := [.reports, .trip, .signal, .motion, .closure, .channel, .desk, .feed]

/-! ### Orders and reports -/

/-- The order that a command takes from the head of the order FIFO. -/
def orderTaken : Instr → Option Order
  | .setItem item value => some (.setItem item value)
  | .setRoster codes => some (.setRoster codes)
  | .run => some .run
  | .enableReset => some .enableReset
  | .reset _ => some .reset
  | .setMask mask => some (.setMask mask)
  | .setThreshold threshold => some (.setThreshold threshold)
  | .clearInhibit => some .clearInhibit
  | .setInhibit => some .setInhibit
  | .clearTrip => some .clearTrip
  | .home => some .home
  | .armAccept arm => some (.armAccept arm)
  | .armReset arm => some (.armReset arm)
  | .navAccept => some .navAccept
  | .demand value => some (.demand value)
  | .setGoal height => some (.setGoal height)
  | .clearRequest => some .clearRequest
  | _ => none

/-- The length of the order frame that an order code fixes (the table of R194). -/
def orderLength (code : Byte) : Option Nat :=
  match code.toNat with
  | 0x01 => some 6
  | 0x02 => some 7
  | 0x06 => some 4
  | 0x07 => some 2
  | 0x0C => some 2
  | 0x0D => some 2
  | 0x0F => some 2
  | 0x10 => some 3
  | n => if 1 ≤ n ∧ n ≤ 0x11 then some 1 else none

/-- A report is the last one submitted: it stands at the tail, or was lost with 32 reports standing (R197). -/
def lastReport (t : State) (r : Report) : Prop :=
  t.port.reports.getLast? = some r ∨
    (32 ≤ t.port.reports.length ∧ t.port.lostLastKind = BitVec.ofNat 8 (kindCode r.kind) ∧ t.latched .reportLost = true)

/-- From `s` to `t` a report was submitted (R196): it stands among the reports that have joined the FIFO, or 32 stand there. -/
def Submitted (s t : State) (r : Report) : Prop :=
  ∃ new, t.port.reports = s.port.reports ++ new ∧ (r ∈ new ∨ 32 ≤ t.port.reports.length)

/-- The ORDER_RESULT of an order taken in state `s` (R195). -/
def orderResult (s : State) (o : Order) (outcome : OrderOutcome) (reason : Reason) (extra : Nat) : Report where
  kind := .orderResult
  time := s.time
  subject := byteOf (orderCode o)
  old := byteOf (outcomeCode outcome)
  new := byteOf (reasonCode reason)
  extra1 := byteOf extra
  extra2 := s.port.orderNumber

/-- The order was taken and answered (R195): it has left the FIFO, the order number has risen, the ORDER_RESULT is the last
report, and a refusal has latched ORDER_REFUSED. -/
def Answered (s t : State) (o : Order) (outcome : OrderOutcome) (reason : Reason) (extra : Nat) : Prop :=
  t.port.orders = s.port.orders.tail ∧ t.port.orderNumber = s.port.orderNumber + 1 ∧
    lastReport t (orderResult s o outcome reason extra) ∧ (outcome = .refused → t.latched .orderRefused = true)

/-- The order was refused: answered with this reason, and nothing else of the station has changed (R195). -/
def Refused (s t : State) (o : Order) (reason : Reason) (extra : Nat) : Prop :=
  Answered s t o .refused reason extra ∧ UnchangedBut [.orderQueue, .reports] s t

/-! ### Filtered inputs -/

/-- The filter timer of an input runs in RUN with the last raw level, `level`, other than the filtered state: its expiry is a
filtered change to that level (R135, R136). -/
def FilteredChange (i : Fin 25) (level : Bool) (s : State) : Prop :=
  s.running = true ∧ (s.inputLine i).raw = level ∧ (s.inputLine i).filtered = !level ∧
    (s.inputLine i).filterTimer.isSome = true

/-- From `s` to `t` one input has taken `level` as its filtered state, and no other input has changed (R135). -/
def TakesLevel (i : Fin 25) (level : Bool) (s t : State) : Prop :=
  t.inputs = s.inputs.set i { raw := level, filtered := level, filterTimer := none, bounce := 0 }

/-! ### The link -/

/-- The access delay of a line in bit times (R35). -/
def delayBits (s : State) (l : LinkLine) : Nat := s.number * 8 + (s.line l).collisions * 16

/-- From `s` to `t` the transmitter of a line has begun to gain it: it waits for the idle gap, or counts its delay on a line
already idle for 12 bit times, or sends at once where that delay is 0 (R34, R35). -/
def GainsLine (l : LinkLine) (s t : State) : Prop :=
  if (s.line l).idle = false then (t.line l).tx = .gap
  else if delayBits s l = 0 then (t.line l).tx = .sending
  else (t.line l).tx = .delay ∧ (t.line l).delayTimer = some (delayBits s l)

/-- The role whose payload this is. -/
def Payload.role : Payload → Role
  | .corner _ _ _ _ _ _ _ _ => .corner
  | .approach _ _ _ _ _ _ _ _ _ _ _ => .approach
  | .channel _ _ _ _ _ _ _ => .channel
  | .desk _ _ _ _ _ _ => .desk

/-! ### The serial port -/

/-- The next rise of SCK is the eighth clock of a byte, in this transaction (R193). That a clock counts at its rise, and that the
fall behind it starts the next byte, is log entry 8. -/
def AtEighthClock (t : Transaction) (s : State) : Prop :=
  s.port.serial.transaction = some t ∧ s.port.serial.sck = false ∧ s.port.serial.bits = 7

/-- The next fall of SCK starts a byte on MISO, in this transaction (R193). -/
def AtByteStart (t : Transaction) (s : State) : Prop :=
  s.port.serial.transaction = some t ∧ s.port.serial.sck = true ∧ s.port.serial.bits = 0

/-- The bits taken from MOSI, the most significant first, with this level behind them (R193). -/
def bitsWith (s : State) (level : Bool) : Byte := s.port.serial.mosi <<< 1 ||| (if level then 1 else 0)

/-- The command is executed and leaves the state but for the serial port, which becomes this. -/
def LeavesSerial (c : Instr) (s : State) (p : SerialPort) : Prop :=
  exec c s = .next { s with port := { s.port with serial := p } }

/-- The command is executed and ends a byte on MOSI, with this level as its last bit; the transaction then is this one. -/
def EndsByte (c : Instr) (s : State) (level : Bool) (t : Transaction) : Prop :=
  LeavesSerial c s { s.port.serial with transaction := some t, sck := true, bits := 0, mosi := bitsWith s level }

/-- The command is executed and starts this byte on MISO; the transaction then is this one. -/
def StartsByte (c : Instr) (s : State) (t : Transaction) (b : Byte) : Prop :=
  LeavesSerial c s { s.port.serial with transaction := some t, sck := false, miso := b }

/-- The command is executed and ends the transaction; the rest of the local port then is this. -/
def EndsTransaction (c : Instr) (s : State) (p : LocalPort) : Prop :=
  exec c s = .next { s with port := { p with serial := { s.port.serial with transaction := none } } }

/-! ### Invariants -/

/-- No two outputs that drive one machine in opposite directions are asserted together (R61, R70, R117). -/
def OutputsExclusive (s : State) : Prop :=
  ¬(s.motion.output.up = true ∧ s.motion.output.down = true) ∧
    ¬(s.motion.bolt.driveOut = true ∧ s.motion.bolt.withdrawOut = true) ∧
    (s.motion.bolt.state = .driving → s.motion.bolt.withdrawOut = false) ∧
    ∀ i, ¬((s.arm i).up = true ∧ (s.arm i).down = true)

/-- The port's FIFOs, counts and settings keep to their ranges (R194, R196, R197, R201). -/
def PortInRange (s : State) : Prop :=
  s.port.orders.length ≤ 8 ∧ s.port.reports.length ≤ 32 ∧ s.port.lostCount ≤ 65535 ∧ 1 ≤ s.port.threshold ∧
    s.port.threshold ≤ 32

/-- The trip record holds at most four causes, none twice; the trip flag is set exactly while it holds any, and MORE only
while it holds four (R179, R182). -/
def TripRecordLegal (s : State) : Prop :=
  s.trip.causes.length ≤ 4 ∧ s.trip.causes.Nodup ∧ (s.trip.flag = true ↔ s.trip.causes ≠ []) ∧
    (s.trip.more = true → s.trip.causes.length = 4)

/-- The peer table (R7 to R10): no entry in CONFIG, for the own number or for a number not in the roster; content from the
first accepted frame onward; the stale timer in FRESH alone; an AGE of at most 65,535. -/
def PeerTableLegal (s : State) : Prop :=
  ∀ j e, s.peer j = some e →
    s.running = true ∧ (s.rosterRole j).isSome = true ∧ j.val ≠ s.number ∧ (e.freshness = .absent ↔ e.heard = none) ∧
      (e.staleTimer.isSome = true ↔ e.freshness = .fresh) ∧ (∀ h, e.heard = some h → h.age ≤ 65535)

/-- A line in CONFIG (R23, R33, R34, R39): released, with nothing waiting and no timer of the Link Interface running. -/
def LineQuiet (u : LineUnit) : Prop :=
  u.tx = .idle ∧ u.slot = .empty ∧ u.sending = none ∧ u.changed = false ∧ u.spacingTimer = none ∧ u.refreshTimer = none ∧
    u.delayTimer = none ∧ u.health = none ∧ u.healthTimer = none

/-- An arm in CONFIG (R117, R119): no state, outputs off, no timer running. -/
def ArmQuiet (a : Arm) : Prop :=
  a.state = none ∧ a.up = false ∧ a.down = false ∧ a.travelTimer = none ∧ a.retryTimer = none ∧ a.laneTimer = none ∧
    a.gapTimer = none

/-- In CONFIG no role acts: no phase, no entry, no digest, no trip, both lines released, and every motor output off with the
timers of the role blocks stopped (R2, R7, R15, R23, R62, R70, R80, R96, R117, R153, R168, R179). -/
def QuietInConfig (s : State) : Prop :=
  s.running = false →
    s.motion.phase = none ∧ s.closure.phase = none ∧ s.channel.phase = none ∧ s.desk.phase = none ∧
    (∀ j, s.peer j = none) ∧ s.digest = none ∧ s.duplicateTimer = none ∧ s.trip.flag = false ∧
    LineQuiet s.link.lineA ∧ LineQuiet s.link.lineB ∧
    s.motion.output.up = false ∧ s.motion.output.down = false ∧ s.motion.output.vOut = 0 ∧ s.motion.brake.out = false ∧
    s.motion.bolt.driveOut = false ∧ s.motion.bolt.withdrawOut = false ∧ s.motion.bolt.travelTimer = none ∧
    s.motion.brake.brakeTimer = none ∧ s.motion.brake.setCheckTimer = none ∧ s.motion.holdTimer = none ∧
    s.motion.controlTimer = none ∧ s.motion.stall.timer = none ∧
    s.closure.amberTimer = none ∧ s.closure.redTimer = none ∧ s.closure.deckClearTimer = none ∧
    s.closure.deckLimitTimer = none ∧ (∀ i, ArmQuiet (s.arm i)) ∧ s.channel.clearingTimer = none

/-- A line's transmitter sends exactly while a frame is on the line, waits or sends only with a full slot, and its collision
count stays below the jam limit (R34, R37). -/
def LineLegal (u : LineUnit) : Prop :=
  (u.tx = .sending ↔ u.sending.isSome = true) ∧ (u.slot = .empty ↔ u.tx = .idle) ∧ u.collisions < 8

/-- In RUN the trip flag is set exactly while the role's phase is TRIPPED, where no stage or clearing timer runs, and an
approach holds at a stage of AMBER to CLOSED alone; in CONFIG the flag is clear (R1, R112, R114, R166, R179). -/
def TripFlagIsPhase (s : State) : Prop :=
  if s.running = false then s.trip.flag = false
  else
    match s.role with
    | .corner => s.motion.phase.isSome = true ∧ (s.trip.flag = true ↔ s.motion.phase = some .tripped)
    | .approach =>
      s.closure.phase.isSome = true ∧ (s.trip.flag = true ↔ s.closure.phase = some .tripped) ∧
        (s.trip.flag = true →
          s.closure.amberTimer = none ∧ s.closure.redTimer = none ∧ s.closure.deckClearTimer = none) ∧
        (∀ p, s.closure.heldStage = some p →
          p = .amber ∨ p = .redClearance ∨ p = .entryLowering ∨ p = .deckClearing ∨ p = .exitLowering ∨ p = .closed)
    | .channel =>
      s.channel.phase.isSome = true ∧ (s.trip.flag = true ↔ s.channel.phase = some .tripped) ∧
        (s.trip.flag = true → s.channel.clearingTimer = none)
    | .desk => s.desk.phase.isSome = true ∧ (s.trip.flag = true ↔ s.desk.phase = some .tripped)

/-- An arm's UP output is asserted only in RAISING and its DOWN output only in LOWERING and never under presence, both never
while the approach is tripped; at a station that is no approach in RUN the arm controllers are quiet and no stage timer runs
(R96, R116, R117, R119, R128). -/
def ArmsSafe (s : State) : Prop :=
  ((s.running = true ∧ s.role = .approach) ∨
      (s.closure.phase = none ∧ s.closure.amberTimer = none ∧ s.closure.redTimer = none ∧ s.closure.deckClearTimer = none ∧
        ∀ i, ArmQuiet (s.arm i))) ∧
    ∀ i, ((s.arm i).up = true → (s.arm i).state = some .raising ∧ s.trip.flag = false) ∧
      ((s.arm i).down = true → (s.arm i).state = some .lowering ∧ s.presence i = false ∧ s.trip.flag = false)

/-- In a seated phase, in TRIPPED and in UNREFERENCED a corner has V_OUT 0, both direction outputs off and its brake set (R62,
R80, R91, R95). -/
def CornerStandsSafe (s : State) : Prop :=
  s.cornerIn forcesOff = true →
    s.motion.output.vOut = 0 ∧ s.motion.output.up = false ∧ s.motion.output.down = false ∧ s.motion.brake.out = false

/-- An arm that is not fitted, and every arm at a station that is no approach in RUN, has no command, and none of its timers runs
but the gap timer (R116, R119). At an approach in RUN an arm is NOT_FITTED exactly where the configuration has it so (R119), and
a hold is pending in a closing stage alone (R96, R111). -/
def ClosureLegal (s : State) : Prop :=
  (∀ i, ¬(s.running = true ∧ s.straps.role = .approach ∧ s.isFitted i = true) →
    (s.arm i).command = .none ∧ (s.arm i).travelTimer = none ∧ (s.arm i).retryTimer = none ∧ (s.arm i).laneTimer = none) ∧
  (s.running = true → s.straps.role = .approach →
    (∀ i, (s.arm i).state = some .notFitted ↔ s.isFitted i = false) ∧
      (s.closure.holdPending = true → s.closure.phase ∈
        [some .amber, some .redClearance, some .entryLowering, some .deckClearing, some .exitLowering]))

/-- At a station that is no channel in RUN the Channel Unit has no phase and its clearing timer does not run (R153, R162). -/
def ChannelAtRest (s : State) : Prop :=
  (s.running = true ∧ s.straps.role = .channel) ∨ (s.channel.phase = none ∧ s.channel.clearingTimer = none)

/-- Every configuration item stands in its range of R204. -/
def ConfigInRange (c : ConfigStore) : Prop := ∀ n range, itemRange c n = some range → range.1 ≤ c.item n ∧ c.item n ≤ range.2

/-- A corner that is unlocked, moving or raised has its bolt WITHDRAWN (R71, R73 to R75, R77, R81); a corner phase stands only
at a CORNER in RUN (R67). -/
def BoltClearOfMotion (s : State) : Prop :=
  (s.motion.phase ≠ none → s.running = true ∧ s.role = .corner) ∧
    (s.motion.phase ∈ [some .unlocked, some .releasing, some .raising, some .raised, some .lowering, some .halting] →
      s.motion.bolt.state = .withdrawn)

/-- Some entry qualifies, being FRESH with DIGEST_OK, and holds content of which this is true (R16). -/
def SomeQualifying (s : State) (test : Content → Prop) : Prop :=
  ∃ j e h, s.peer j = some e ∧ e.freshness = .fresh ∧ e.heard = some h ∧ h.digestOk = true ∧ test h.content

/-- Each of a desk's nine indicators is STEADY while its test holds and OFF else (R177). -/
def IndicatorsShow (s : State) : Prop :=
  let lit := fun (i : Fin 16) (test : Prop) => (test → (s.lamp i).mode = .steady) ∧ (¬test → (s.lamp i).mode = .off)
  s.running = true → s.straps.role = .desk →
    lit 0 (s.approachesClosed = true) ∧ lit 1 (s.spanSeatedLocked = true) ∧ lit 2 (s.spanClear = true) ∧
    lit 3 (SomeQualifying s fun c =>
      ∃ vessel alert closed stop lamps cause, c.payload = .channel 2 vessel alert closed stop lamps cause) ∧
    lit 4 (s.trip.flag = true ∨ SomeQualifying s fun c => c.tripped = true) ∧
    lit 5 (s.link.lineA.health = some .ok ∧ s.link.lineB.health = some .ok) ∧
    lit 6 (s.publishedDemand = .raise) ∧ lit 7 (s.publishedDemand = .lower) ∧ lit 8 (s.publishedDemand = .halt)

/-! ### Runs -/

/-- A step completes: it answers a next state, neither a fault nor a refusal. -/
def Completes (s : State) : Prop := ∃ t, step s = .next t

/-- The states that steps reach from a state. -/
inductive Reaches (s : State) : State → Prop where
  | refl : Reaches s s
  | next {t u : State} : Reaches s t → step t = .next u → Reaches s u

/-- A predicate that every step keeps. -/
def Kept (Inv : State → Prop) : Prop := ∀ s t, Inv s → step s = .next t → Inv t

end Sys2Proof.Machine
end

