-- ==== Sys2Proof/Certificates/Slice0/Obligations.lean ====
section
/-! DEFINITION. The statements for the provers. `Answered`, `Refused`, `UnchangedBut` and the invariants are defined in
Safety.lean; a condition is written by its bit of R198. -/

open Sys2Proof Sys2Proof.Machine

/-! ### The machine -/

/-- A step is `exec` of the command at the front of the queue on the queue's rest. That the part idles on an empty queue is
the model's own choice (log entry 1). -/
def Obligations.StepTakesTheFrontCommand : Prop :=
  (∀ (c : Instr) (rest : List Instr) (s : State), s.pending = c :: rest → step s = exec c { s with pending := rest }) ∧
    ∀ s : State, s.pending = [] → step s = .next s

/-- What a power-on reset leaves in every block, at every strap setting: the port (R193, R195 to R199, R207, R209, R211), the
roster and table (R7, R12, R15, R204, R205), the inputs and the trip unit (R134, R179, R180), the link (R23, R30, R31), lamps
and sounders (R138, R139, R141, R148), the Motion Unit (R46, R49, R61, R64, R67, R70, R80) and the other role blocks (R96, R119,
R153, R168). `State.reset` is the state it leaves with every strap at 0; this last clause rests on the model's choices of log
entries 2 (straps), 8 (the serial port's shift registers), 10 and 33 (values without a stated reset), 12 (the lines' idle
history) and 29 (the count of free bytes). -/
def Obligations.PowerOnResetLeaves : Prop :=
  ∀ (straps : Straps) (s : State), ∃ t, exec (.powerOnReset straps) s = .next t ∧
    t.pending = s.pending ∧ t.straps = straps ∧ t.running = false ∧ t.time = 0 ∧ t.config = ConfigStore.defaults ∧
    (∀ j, t.rosterRole j = none) ∧ (∀ j, t.peer j = none) ∧ t.digest = none ∧ t.duplicateTimer = none ∧
    t.trip.flag = false ∧ t.trip.causes = [] ∧ t.trip.more = false ∧ t.trip.estopRaw = true ∧
    t.trip.estopFiltered = true ∧ t.trip.estopTimer = some 2 ∧
    t.port.orders = [] ∧ t.port.lostCount = 0 ∧ t.port.orderNumber = 0 ∧
    t.port.conditions = (if 12 ≤ straps.number.val then 0x800000#24 else 0) ∧ t.port.mask = 0 ∧ t.port.threshold = 1 ∧
    t.port.startInhibit = true ∧ t.port.resetEnable = false ∧
    t.port.reports = [{
      kind := .restart, time := 0, subject := 0, old := BitVec.ofNat 8 straps.number.val,
      new := BitVec.ofNat 8 (roleCode straps.role), extra1 := if 12 ≤ straps.number.val then 1 else 0, extra2 := 0 }] ∧
    (∀ i, t.inputLine i = { raw := false, filtered := false, filterTimer := some 30, bounce := 0 }) ∧
    (∀ l, LineQuiet (t.line l) ∧ (t.line l).collisions = 0) ∧ t.link.sequence = 0 ∧ t.link.reference = none ∧
    (∀ i : Fin 16, (t.lamp i).proving = .unproven ∧ (t.lamp i).sensed = false ∧ (t.lamp i).mode =
      match straps.role, i.val with
      | .approach, 0 => .steady
      | .approach, 1 => .steady
      | .approach, 4 => .flashA
      | .approach, 5 => .flashB
      | .channel, 0 => .steady
      | .channel, 1 => .steady
      | _, _ => .off) ∧
    t.signal.half = .a ∧ t.signal.halfTimer = some 500 ∧
    (∀ k, t.sounder k = { steady := false, running := none, stepTimer := none, waiting := none }) ∧
    t.motion.phase = none ∧ t.motion.intent = .none ∧ t.motion.goal = 0 ∧ t.motion.workingGoal = none ∧
    t.motion.leftBehind = false ∧ t.motion.holdTimer = none ∧ t.motion.controlTimer = none ∧
    t.motion.homingStart = none ∧ t.motion.position = -32768 ∧ t.motion.encoder.count = 0 ∧
    t.motion.encoder.referenced = false ∧
    t.motion.profile = { vPrev := 0, braking := false, goal := none, dir := none } ∧
    t.motion.output = {
      vOut := 0, duty := 0, up := false, down := false, deadTimer := some 500, upBlocked := true, downBlocked := true } ∧
    t.motion.bolt = { state := .withdrawn, driveOut := false, withdrawOut := false, travelTimer := none } ∧
    t.motion.brake = { out := false, settled := false, brakeTimer := none, setCheckTimer := none } ∧
    t.motion.stall = { timer := none, start := none } ∧
    t.closure.phase = none ∧ t.closure.heldStage = none ∧ t.closure.holdPending = false ∧ t.closure.served = false ∧
    t.closure.amberTimer = none ∧ t.closure.redTimer = none ∧ t.closure.deckClearTimer = none ∧
    t.closure.deckLimitTimer = none ∧
    (∀ i, ArmQuiet (t.arm i) ∧ (t.arm i).command = .none ∧ (t.arm i).retry = 0 ∧ (t.arm i).reversing = false ∧
      (t.arm i).delayServed = false) ∧
    t.channel = { phase := none, clearingTimer := none, vesselAlert := false, manualStop := false, greenFallback := false } ∧
    t.aspect = 3 ∧ t.desk = { phase := none, heldDemand := .none, requestedGoal := 0, clearCount := 0 } ∧
    (straps = { number := 0, role := .corner } → t = { State.reset with
      pending := s.pending
      port := { State.reset.port with serial := { State.reset.port.serial with
        transaction := t.port.serial.transaction, sck := s.port.serial.sck, freeBytes := s.port.serial.freeBytes } } })

/-- RESET with the reset-enable flag set is an order reset, which keeps configuration, roster, count and referenced flag;
with the flag clear it is refused NOT_ENABLED (R46, R204, R205, R209 to R211). -/
def Obligations.ResetOrderObeysItsEnable : Prop :=
  ∀ (straps : Straps) (s : State), s.port.orders.head? = some .reset →
    (s.port.resetEnable = true → ∃ t, exec (.reset straps) s = .next t ∧
      t.pending = s.pending ∧ t.straps = straps ∧ t.running = false ∧ t.time = 0 ∧ t.config = s.config ∧
      t.roster = s.roster ∧ (∀ j, t.peer j = none) ∧ t.digest = none ∧ t.trip.flag = false ∧ t.trip.causes = [] ∧
      t.motion.encoder.count = s.motion.encoder.count ∧ t.motion.encoder.referenced = s.motion.encoder.referenced ∧
      t.motion.phase = none ∧ t.closure.phase = none ∧ t.channel.phase = none ∧ t.desk.phase = none ∧
      t.port.orders = [] ∧ t.port.orderNumber = 0 ∧ t.port.mask = 0 ∧ t.port.threshold = 1 ∧
      t.port.startInhibit = true ∧ t.port.resetEnable = false ∧
      t.port.conditions = (if 12 ≤ straps.number.val then 0x800000#24 else 0) ∧
      t.port.reports = [{
        kind := .restart, time := 0, subject := 1, old := BitVec.ofNat 8 straps.number.val,
        new := BitVec.ofNat 8 (roleCode straps.role), extra1 := if 12 ≤ straps.number.val then 1 else 0,
        extra2 := 0 }]) ∧
    (s.port.resetEnable = false → ∃ t, exec (.reset straps) s = .next t ∧ Refused s t .reset .notEnabled 0)

/-- The state after reset meets every invariant stated below. -/
def Obligations.ResetMeetsEveryInvariant : Prop :=
  OutputsExclusive State.reset ∧ ArmsSafe State.reset ∧ CornerStandsSafe State.reset ∧ TripFlagIsPhase State.reset ∧
    QuietInConfig State.reset ∧ PeerTableLegal State.reset ∧ LineLegal State.reset.link.lineA ∧
    LineLegal State.reset.link.lineB ∧ PortInRange State.reset ∧ TripRecordLegal State.reset ∧
    ConfigInRange State.reset.config ∧ BoltClearOfMotion State.reset ∧ IndicatorsShow State.reset ∧
    ClosureLegal State.reset ∧ ChannelAtRest State.reset

/-! ### Invariants that every step keeps -/

/-- UP and DOWN of the drive, drive and withdraw of the bolt, and UP and DOWN of every arm are never asserted together (R61,
R70, R117). -/
def Obligations.OutputsStayExclusive : Prop := Kept OutputsExclusive

/-- An arm's UP output is asserted only in RAISING and its DOWN output only in LOWERING and never under presence, both never
while tripped (R117, R128). -/
def Obligations.ArmsStaySafe : Prop := Kept ArmsSafe

/-- In a seated phase, in TRIPPED and in UNREFERENCED a corner has V_OUT 0, its direction outputs off and its brake set (R62,
R80, R91, R95). From UNLOCKED to the end of a movement, and in RAISED, its bolt is WITHDRAWN: it is unlocked with the bolt
WITHDRAWN (R77), every later way into a movement asks for it (R74, R75, R81), and a bolt that faults trips (R71, R95). The trip
flag stands with the phase throughout (`TripFlagStaysWithPhase`). -/
def Obligations.CornerStaysSafeAtRest : Prop :=
  Kept CornerStandsSafe ∧ Kept fun s => TripFlagIsPhase s ∧ BoltClearOfMotion s

/-- The trip flag is set exactly while the role's phase is TRIPPED (R1, R179). -/
def Obligations.TripFlagStaysWithPhase : Prop := Kept TripFlagIsPhase

/-- In CONFIG no role acts and every motor output is off (R7, R23, R96, R117, R153, R168, R179). -/
def Obligations.ConfigStaysQuiet : Prop := Kept QuietInConfig

/-- The peer table keeps its form (R7 to R10). -/
def Obligations.PeerTableStaysLegal : Prop := Kept PeerTableLegal

/-- Both transmitters keep their form: a frame on the line exactly in SENDING, a full slot exactly outside IDLE, and a
collision count below 8 (R34, R37); the FIFOs, the lost count, the threshold and the trip record keep to their ranges (R179,
R182, R194, R196, R197, R201); and every configuration item keeps to its range of R204. -/
def Obligations.LinesAndQueuesStayLegal : Prop :=
  (Kept fun s => LineLegal s.link.lineA ∧ LineLegal s.link.lineB) ∧ (Kept fun s => PortInRange s ∧ TripRecordLegal s) ∧
    Kept fun s => ConfigInRange s.config

/-- RUN is left only by a reset, and neither the configuration, the roster, the straps nor the digest changes in RUN (R15,
R204, R206, R211). -/
def Obligations.OnlyAResetLeavesRun : Prop :=
  ∀ s t : State, s.running = true → step s = .next t →
    (t.running = true ∧ t.config = s.config ∧ t.roster = s.roster ∧ t.straps = s.straps ∧ t.digest = s.digest) ∨
      ∃ straps rest, s.pending = .powerOnReset straps :: rest ∨ s.pending = .reset straps :: rest

/-! ### The record on the wire -/

/-- The record on the wire. A record sent by station 0 to 11 and received from an idle line reads as what was sent: number,
role, SEQUENCE, DIGEST and every field of the content (R1 to R5, R11, R25 to R29). A receiver keeps the first 16 characters of
what is sent back to back and counts the rest, takes a stop bit at the active level as a framing error, and takes a change to
the active level that is gone half a bit later as noise (R26). The line stays idle for the 2 bit times that end a receiver's
ignoring (R38) exactly where eight idle samples or more come before a frame. The sampling of a bit time in four, and that this
idle time stands for the end-of-frame test where no frame is on the line, are the model's (log entry 13). -/
def Obligations.RecordReadsAsSent : Prop :=
  (∀ (number : Nat) (role : Role) (sequence digest : Byte) (c : Content), number < 12 → c.payload.role = role →
    ∃ r, received (frameLevels (recordFrame number role sequence digest c)) = some r ∧
      readFrame r = some { source := number, role := role, sequence := sequence, digest := digest, content := c }) ∧
  (∀ bytes : List Byte, bytes ≠ [] → received (frameLevels bytes) =
    some { chars := bytes.take 16, count := bytes.length, framingError := false }) ∧
  (∀ (bytes : List Byte) (b : Byte), received (levelsOf (frameBits bytes ++ charBits b false ++ [true, true])) =
    some { chars := (bytes ++ [b]).take 16, count := bytes.length + 1, framingError := true }) ∧
  (∀ r : Received, r.count ≠ 16 ∨ r.framingError = true → readFrame r = none) ∧
  (∀ (idle : Nat) (bytes : List Byte), bytes ≠ [] →
    received (List.replicate idle true ++ frameLevels bytes) = received (frameLevels bytes) ∧
      idleFirst (List.replicate idle true ++ frameLevels bytes) = decide (8 ≤ idle)) ∧
  ∀ (idle active : Nat) (levels : List Bool), 1 ≤ active → active ≤ 2 →
    received (List.replicate idle true ++ List.replicate active false ++ [true, true] ++ levels) = received levels

/-! ### The local port -/

/-- The serial port (R193). With CS high MISO is high-impedance and neither clocks nor a rise do anything; a fall of CS begins a
code byte, under which MISO carries 0. MOSI is taken at each rise of SCK and MISO moves on at each fall, the most significant bit
first; the code byte's eighth clock begins the transaction of that code. A rise of CS with no clock does nothing, one after 1 to
7 clocks and one after a code byte of 0 or 7 to 255 latch PORT_FRAMING, and MISO carries 0 to that rise. A reset of either kind
abandons the transaction in progress: MISO carries 0 to the rise of CS, which latches nothing. That a clock is counted at its rise
is log entry 8; that an edge which the pins cannot make, or one given in another row, does nothing is log entry 7. -/
def Obligations.TransactionsAreFramed : Prop :=
  ∀ s : State,
    let p := s.port.serial
    let sends := fun (code : Byte) (_ : Bool) => code.getLsbD (7 - p.bits.val)
    let rows : List (Nat × (PortEdge → Bool → Instr) × (Bool → Bool)) :=
      [(0, .invalidTransaction, id), (1, .order, id), (2, fun edge _ => .readReport edge, sends 2),
        (3, fun edge _ => .readStatus edge, sends 3), (4, fun edge _ => .readConditions edge, sends 4), (5, .readPeers, id),
        (6, .readItem, id)]
    let stays := fun (c : Instr) => exec c s = .next s
    let faults := fun (c : Instr) =>
      EndsTransaction c s { s.port with conditions := s.port.conditions ||| 0x000002#24 }
    (p.transaction = none → s.misoLevel = none ∧ ∀ row ∈ rows, ∀ mosi,
      LeavesSerial (row.2.1 .csFall mosi) s
        { p with transaction := some .code, sck := false, bits := 0, mosi := 0, miso := 0 } ∧
      ∀ edge, edge ≠ .csFall → stays (row.2.1 edge mosi)) ∧
    (∀ u, p.transaction = some u → s.misoLevel = some (p.miso.getLsbD 7) ∧ ∀ row ∈ rows, ∀ mosi,
      let command := fun edge => row.2.1 edge mosi
      let level := row.2.2 mosi
      stays (command .csFall) ∧ (u.hasCode row.1 = false → ∀ edge, stays (command edge)) ∧
      (u.hasCode row.1 = true →
        (p.sck = true → stays (command .sckRise)) ∧ (p.sck = false → stays (command .sckFall)) ∧
        (p.sck = false → p.bits ≠ 7 →
          LeavesSerial (command .sckRise) s { p with sck := true, bits := p.bits + 1, mosi := bitsWith s level }) ∧
        (p.sck = true → p.bits ≠ 0 →
          LeavesSerial (command .sckFall) s { p with sck := false, miso := p.miso <<< 1 })) ∧
      (u = .code →
        (p.bits = 0 → EndsTransaction (command .csRise) s s.port) ∧ (p.bits ≠ 0 → faults (command .csRise)) ∧
        (AtEighthClock .code s →
          let code := (bitsWith s level).toNat
          (code = 1 → EndsByte (command .sckRise) s level (.order [])) ∧
          (code = 2 → EndsByte (command .sckRise) s level (.report s.port.reports.head? 0)) ∧
          (code = 3 → EndsByte (command .sckRise) s level (.status (statusBytes s))) ∧
          (code = 4 → EndsByte (command .sckRise) s level (.conditions s.port.conditions 0)) ∧
          (code = 5 → EndsByte (command .sckRise) s level .peersStart) ∧
          (code = 6 → EndsByte (command .sckRise) s level .itemNumber) ∧
          (code = 0 ∨ 7 ≤ code → EndsByte (command .sckRise) s level .invalid))) ∧
      (u = .invalid → row.1 = 0 → faults (command .csRise)) ∧ (u = .abandoned → EndsTransaction (command .csRise) s s.port) ∧
      ((u = .invalid ∧ row.1 = 0) ∨ u = .abandoned →
        (AtEighthClock u s → EndsByte (command .sckRise) s level u) ∧
        (AtByteStart u s → StartsByte (command .sckFall) s u 0))) ∧
    let cutOff := fun t : State =>
      t.port.serial = { p with
        transaction := p.transaction.map fun _ => .abandoned, bits := 0, mosi := 0, miso := 0 }
    (∀ straps, ∃ t, exec (.powerOnReset straps) s = .next t ∧ cutOff t) ∧
    ∀ straps, s.port.orders.head? = some .reset → s.port.resetEnable = true → ∃ t, exec (.reset straps) s = .next t ∧ cutOff t

/-- ORDER (R194). Each byte after the code byte is taken into the frame at its eighth clock. At the rise of CS a frame with a part
byte, with no byte, with an unknown code or of another length latches PORT_FRAMING alone; a well-formed frame that finds 8 orders
waiting latches ORDER_OVERRUN alone; and with room each order frame of the table joins the tail of the FIFO. What MISO carries
under the bytes of the frame is stated nowhere and is a free value (log entry 29). -/
def Obligations.OrderFramesAreExamined : Prop :=
  ∀ (s : State) (bytes : List Byte), s.port.serial.transaction = some (.order bytes) →
    let ends := fun p : LocalPort => ∀ mosi, EndsTransaction (.order .csRise mosi) s p
    let whole := s.port.serial.bits = 0
    let joins := fun o : Order => ends { s.port with orders := s.port.orders ++ [o] }
    (∀ mosi, AtEighthClock (.order bytes) s →
      EndsByte (.order .sckRise mosi) s mosi (.order (bytes ++ [bitsWith s mosi]))) ∧
    (∀ mosi, AtByteStart (.order bytes) s → ∃ b, LeavesSerial (.order .sckFall mosi) s
      { s.port.serial with sck := false, miso := b, freeBytes := s.port.serial.freeBytes + 1 }) ∧
    (¬whole ∨ bytes.head?.bind orderLength ≠ some bytes.length →
      ends { s.port with conditions := s.port.conditions ||| 0x000002#24 }) ∧
    (whole → bytes.head?.bind orderLength = some bytes.length → 8 ≤ s.port.orders.length →
      ends { s.port with conditions := s.port.conditions ||| 0x000001#24 }) ∧
    (whole → s.port.orders.length < 8 →
      (∀ item v3 v2 v1 v0 : Byte, bytes = [0x01#8, item, v3, v2, v1, v0] →
        joins (.setItem item (v3 ++ v2 ++ v1 ++ v0))) ∧
      (∀ r0 r1 r2 r3 r4 r5 : Byte, bytes = [0x02#8, r0, r1, r2, r3, r4, r5] →
        joins (.setRoster (r0 ++ r1 ++ r2 ++ r3 ++ r4 ++ r5))) ∧
      (bytes = [0x03#8] → joins .run) ∧ (bytes = [0x04#8] → joins .enableReset) ∧ (bytes = [0x05#8] → joins .reset) ∧
      (∀ m2 m1 m0 : Byte, bytes = [0x06#8, m2, m1, m0] → joins (.setMask (m2 ++ m1 ++ m0))) ∧
      (∀ threshold : Byte, bytes = [0x07#8, threshold] → joins (.setThreshold threshold)) ∧
      (bytes = [0x08#8] → joins .clearInhibit) ∧ (bytes = [0x09#8] → joins .setInhibit) ∧
      (bytes = [0x0A#8] → joins .clearTrip) ∧ (bytes = [0x0B#8] → joins .home) ∧
      (∀ arm : Byte, bytes = [0x0C#8, arm] → joins (.armAccept arm)) ∧
      (∀ arm : Byte, bytes = [0x0D#8, arm] → joins (.armReset arm)) ∧
      (bytes = [0x0E#8] → joins .navAccept) ∧
      (∀ value : Byte, bytes = [0x0F#8, value] → joins (.demand value)) ∧
      (∀ h1 h0 : Byte, bytes = [0x10#8, h1, h0] → joins (.setGoal (h1 ++ h0))) ∧
      (bytes = [0x11#8] → joins .clearRequest))

/-- Reports. A submitted report joins the tail while fewer than 32 stand; otherwise it is lost, counted and remembered by kind
and time, and REPORT_LOST is latched. READ_REPORT shifts out the 8 bytes of the report that stood at the head at the end of the
code byte, or zeros, and removes it at the rise of CS once all 8 were clocked; a removal while the lost count is above 0 puts
the LOST marker at the tail (R196, R197). -/
def Obligations.ReportsAreKeptAndRead : Prop :=
  ∀ s : State,
    (∀ r : Report,
      (s.port.reports.length < 32 →
        submit r s = { s with port := { s.port with reports := s.port.reports ++ [r] } }) ∧
      (32 ≤ s.port.reports.length → submit r s = { s with port := { s.port with
        conditions := s.port.conditions ||| 0x000004#24
        lostCount := min 65535 (s.port.lostCount + 1)
        lostFirstKind := if s.port.lostCount = 0 then BitVec.ofNat 8 (kindCode r.kind) else s.port.lostFirstKind
        lostFirstTime := if s.port.lostCount = 0 then r.time else s.port.lostFirstTime
        lostLastKind := BitVec.ofNat 8 (kindCode r.kind) } })) ∧
    let ends := EndsTransaction (.readReport .csRise) s
    (AtEighthClock .code s → bitsWith s false = 2 →
      EndsByte (.readReport .sckRise) s false (.report s.port.reports.head? 0)) ∧
    (∀ head k, AtEighthClock (.report head k) s → ∃ level, EndsByte (.readReport .sckRise) s level (.report head (k + 1))) ∧
    (∀ k, AtByteStart (.report none k) s → StartsByte (.readReport .sckFall) s (.report none k) 0) ∧
    (∀ k, s.port.serial.transaction = some (.report none k) → ends s.port) ∧
    ∀ (r : Report) (k : Nat),
      let bytes := [BitVec.ofNat 8 (kindCode r.kind), BitVec.ofNat 8 (r.time.toNat / 256), BitVec.ofNat 8 r.time.toNat,
        r.subject, r.old, r.new, r.extra1, r.extra2]
      (AtByteStart (.report (some r) k) s →
        StartsByte (.readReport .sckFall) s (.report (some r) k) ((bytes[k]?).getD 0)) ∧
      (s.port.serial.transaction = some (.report (some r) k) →
        (k < 8 → ends s.port) ∧
        (8 ≤ k → s.port.lostCount = 0 → ends { s.port with reports := s.port.reports.tail }) ∧
        (8 ≤ k → s.port.lostCount ≠ 0 → ends { s.port with
          reports := s.port.reports.tail ++ [{
            kind := .lost, time := s.port.lostFirstTime, subject := 0, old := s.port.lostFirstKind,
            new := s.port.lostLastKind, extra1 := BitVec.ofNat 8 (s.port.lostCount / 256),
            extra2 := BitVec.ofNat 8 s.port.lostCount }]
          lostCount := 0 }))

/-- ATTN is asserted exactly while the FIFO holds the threshold number of reports or some latched condition is not masked, and
so from every reset (R199). That a strapped number of 12 or more, at which R211 has ATTN asserted until the next reset, makes no
exception is log entry 40. -/
def Obligations.AttnFollowsReportsAndConditions : Prop :=
  (∀ s : State, s.attn = true ↔
    s.port.threshold ≤ s.port.reports.length ∨
      ∃ n < 24, s.port.conditions.getLsbD n = true ∧ s.port.mask.getLsbD n = false) ∧
  (∀ (straps : Straps) (s t : State), exec (.powerOnReset straps) s = .next t →
    t.port.threshold = 1 ∧ t.port.mask = 0 ∧ t.attn = true) ∧
  ∀ (straps : Straps) (s t : State), s.port.orders.head? = some .reset → s.port.resetEnable = true →
    exec (.reset straps) s = .next t → t.port.threshold = 1 ∧ t.port.mask = 0 ∧ t.attn = true

/-- READ_STATUS shifts out the 14 status bytes of R202, formed at the end of the code byte; READ_ITEM takes an item byte and
shifts out the stored item, or the roster code of a station for items 64 to 75, or FFFFFFFFh (R204); both give zeros behind
their data and change no state but the transaction (R193). What MISO carries under the item byte is a free value (log entry 29),
and the item's value is formed at the end of that byte (log entry 34). -/
def Obligations.StatusAndItemsAreRead : Prop :=
  ∀ s : State,
    let bit := fun b : Bool => if b then 1 else 0
    let health := fun h : Option Health => (h.map healthCode).getD 3
    (AtEighthClock .code s → bitsWith s true = 3 → EndsByte (.readStatus .sckRise) s true (.status [
      if s.running then 1 else 0,
      BitVec.ofNat 8 (s.straps.number.val + 16 * roleCode s.straps.role),
      BitVec.ofNat 8 s.phaseCode,
      BitVec.ofNat 8 (bit s.trip.flag + 2 * bit s.port.startInhibit + 4 * bit s.trip.more + 8 * bit s.port.resetEnable +
        16 * bit s.attn + 32 * bit s.unmaskedCondition),
      BitVec.ofNat 8 s.trip.causes.length,
      BitVec.ofNat 8 ((s.trip.causes.head?.map causeCode).getD 0),
      BitVec.ofNat 8 s.port.orders.length,
      BitVec.ofNat 8 s.port.reports.length,
      BitVec.ofNat 8 s.latchedCount,
      s.digest.getD 0,
      BitVec.ofNat 8 (s.time.toNat / 256), BitVec.ofNat 8 s.time.toNat,
      s.link.sequence,
      BitVec.ofNat 8 (health s.link.lineA.health + 4 * health s.link.lineB.health)])) ∧
    (∀ left : List Byte,
      (AtByteStart (.status left) s → StartsByte (.readStatus .sckFall) s (.status left) (left.head?.getD 0)) ∧
      (AtEighthClock (.status left) s → ∃ level, EndsByte (.readStatus .sckRise) s level (.status left.tail)) ∧
      (s.port.serial.transaction = some (.status left) → EndsTransaction (.readStatus .csRise) s s.port) ∧
      ∀ mosi,
        (AtByteStart (.item left) s → StartsByte (.readItem .sckFall mosi) s (.item left) (left.head?.getD 0)) ∧
        (AtEighthClock (.item left) s → EndsByte (.readItem .sckRise mosi) s mosi (.item left.tail)) ∧
        (s.port.serial.transaction = some (.item left) → EndsTransaction (.readItem .csRise mosi) s s.port)) ∧
    ∀ mosi,
      (AtEighthClock .code s → bitsWith s mosi = 6 → EndsByte (.readItem .sckRise mosi) s mosi .itemNumber) ∧
      (AtByteStart .itemNumber s → ∃ b, LeavesSerial (.readItem .sckFall mosi) s
        { s.port.serial with sck := false, miso := b, freeBytes := s.port.serial.freeBytes + 1 }) ∧
      (s.port.serial.transaction = some .itemNumber → EndsTransaction (.readItem .csRise mosi) s s.port) ∧
      (AtEighthClock .itemNumber s →
        let item := (bitsWith s mosi).toNat
        let shows := fun v : Nat => EndsByte (.readItem .sckRise mosi) s mosi (.item [
          BitVec.ofNat 8 (v / 16777216), BitVec.ofNat 8 (v / 65536), BitVec.ofNat 8 (v / 256), BitVec.ofNat 8 v])
        (1 ≤ item → item ≤ 39 → shows (s.config.item item)) ∧
        (∀ j : Fin 12, item = 64 + j.val → shows ((s.rosterRole j).elim 15 roleCode)) ∧
        (item = 0 ∨ (39 < item ∧ item < 64) ∨ 75 < item → shows 0xFFFFFFFF))

/-- READ_CONDITIONS shifts out the conditions as they stood at the end of the code byte, highest first; the eighth clock of each
of the three bytes clears the conditions that were sent as 1 in it, and no others (R198). -/
def Obligations.ConditionsAreReadAndCleared : Prop :=
  ∀ s : State,
    (AtEighthClock .code s → bitsWith s false = 4 →
      EndsByte (.readConditions .sckRise) s false (.conditions s.port.conditions 0)) ∧
    ∀ (sent : BitVec 24) (k : Nat),
      (AtByteStart (.conditions sent k) s → StartsByte (.readConditions .sckFall) s (.conditions sent k)
        (if k < 3 then BitVec.ofNat 8 (sent.toNat / 2 ^ (16 - 8 * k)) else 0)) ∧
      (AtEighthClock (.conditions sent k) s → ∃ t, exec (.readConditions .sckRise) s = .next t ∧
        t.port.serial.transaction = some (.conditions sent (k + 1)) ∧
        (∀ n < 24, t.port.conditions.getLsbD n =
          (s.port.conditions.getLsbD n && !(decide (k < 3 ∧ n / 8 = 2 - k) && sent.getLsbD n))) ∧
        t.port.reports = s.port.reports ∧ t.port.lostCount = s.port.lostCount ∧
        UnchangedBut [.serial, .reports] s t) ∧
      (s.port.serial.transaction = some (.conditions sent k) → EndsTransaction (.readConditions .csRise) s s.port)

/-- READ_PEERS takes the start byte under 0 and then shifts out 16-byte images from the start station on, wrapping from 11 to 0;
each image is formed at the start of its first byte and laid out as R203 gives. -/
def Obligations.PeerImagesAreShiftedOut : Prop :=
  ∀ s : State,
    let next := fun j : Fin 12 => Fin.ofNat 12 (j.val + 1)
    (∀ mosi,
      (AtEighthClock .code s → bitsWith s mosi = 5 → EndsByte (.readPeers .sckRise mosi) s mosi .peersStart) ∧
      (AtByteStart .peersStart s → StartsByte (.readPeers .sckFall mosi) s .peersStart 0) ∧
      (AtEighthClock .peersStart s →
        let start := (bitsWith s mosi).toNat
        EndsByte (.readPeers .sckRise mosi) s mosi (.peers (Fin.ofNat 12 (if start < 12 then start else 0)) [])) ∧
      (∀ j, AtByteStart (.peers j []) s → ∃ b rest, slotImage s j = b :: rest ∧
        StartsByte (.readPeers .sckFall mosi) s (.peers j (slotImage s j)) b) ∧
      (∀ j b rest, AtByteStart (.peers j (b :: rest)) s →
        StartsByte (.readPeers .sckFall mosi) s (.peers j (b :: rest)) b) ∧
      (∀ j b rest, AtEighthClock (.peers j (b :: rest)) s → EndsByte (.readPeers .sckRise mosi) s mosi
        (if rest = [] then .peers (next j) [] else .peers j rest)) ∧
      ∀ u, s.port.serial.transaction = some u → (u = .peersStart ∨ ∃ j image, u = .peers j image) →
        EndsTransaction (.readPeers .csRise mosi) s s.port) ∧
    ∀ j : Fin 12,
      let roster := ((s.rosterRole j).map fun r => 16 * roleCode r + 64).getD 0
      let bit := fun b : Bool => if b then 1 else 0
      (s.peer j = none → slotImage s j = BitVec.ofNat 8 (j.val + roster) :: List.replicate 15 0#8) ∧
      ∀ e, s.peer j = some e →
        let status := freshnessCode e.freshness + 8 * bit e.seenA + 16 * bit e.seenB
        (e.heard = none → slotImage s j =
          BitVec.ofNat 8 (j.val + roster + 128) :: BitVec.ofNat 8 status :: List.replicate 14 0#8) ∧
        ∀ h, e.heard = some h → slotImage s j = [
          BitVec.ofNat 8 (j.val + roster + 128),
          BitVec.ofNat 8 (status + 4 * bit h.digestOk + 32 + 64 * bit h.content.tripped + 128 * bit h.content.startInhibit),
          h.lastSequence, h.lastDigest, BitVec.ofNat 8 (h.age % 65536 / 256), BitVec.ofNat 8 h.age,
          h.content.phase, flagsByte h.content] ++ payloadBytes h.content.payload

/-! ### Orders -/

/-- Every order taken from the head of the FIFO, but an accepted RESET, leaves the FIFO, is numbered, and is answered by one
ORDER_RESULT, which follows every other report of the event; no other ORDER_RESULT is submitted. Afterwards the reset-enable
flag is set only by ENABLE_RESET (R195, R209). -/
def Obligations.OrdersAreAnsweredOnce : Prop :=
  ∀ (c : Instr) (o : Order) (s : State), orderTaken c = some o → s.port.orders.head? = some o →
    ¬(o = .reset ∧ s.port.resetEnable = true) →
    ∃ t outcome reason extra new, exec c s = .next t ∧ Answered s t o outcome reason extra ∧
      t.port.reports = s.port.reports ++ new ∧ (∀ r ∈ new.dropLast, r.kind ≠ .orderResult) ∧
      (∀ r ∈ new, r.kind = .orderResult → r = orderResult s o outcome reason extra) ∧
      (t.port.resetEnable = true ↔ o = .enableReset)

/-- SET_ITEM in CONFIG stores the stepped and clamped value and answers whether it had to change it; writing the open height
lowers items 5 and 24 to it; in RUN, and for a number that is no item, it is refused (R204). -/
def Obligations.SetItemStoresClamped : Prop :=
  ∀ (item : Byte) (value : BitVec 32) (s : State), s.port.orders.head? = some (.setItem item value) →
    let n := item.toNat
    (s.running = true → ∃ t, exec (.setItem item value) s = .next t ∧
      Refused s t (.setItem item value) .wrongState n) ∧
    (s.running = false → n = 0 ∨ 39 < n → ∃ t, exec (.setItem item value) s = .next t ∧
      Refused s t (.setItem item value) .badArgument n) ∧
    (s.running = false → ∀ low high, itemRange s.config n = some (low, high) →
      let stepped := if n = 2 ∨ n = 32 ∨ n = 33 then value.toNat / 10 * 10 else value.toNat
      let stored := if n = 39 then value.toNat % 0x2000000 else max low (min high stepped)
      ∃ t, exec (.setItem item value) s = .next t ∧
        Answered s t (.setItem item value) (if stored = value.toNat then .accepted else .clamped) .none n ∧
        (∀ m, 1 ≤ m → m ≤ 39 → t.config.item m =
          if m = n then stored
          else if n = 4 ∧ (m = 5 ∨ m = 24) then min (s.config.item m) stored
          else s.config.item m) ∧
        UnchangedBut [.orderQueue, .reports, .config] s t)

/-- SET_ROSTER in CONFIG replaces the roster by its twelve codes, the high half of the first byte for station 0; a code of 4 to
14 and RUN refuse it. A power-on reset empties the roster and an order reset keeps it (R205). -/
def Obligations.SetRosterReplacesTheRoster : Prop :=
  ∀ s : State,
    (∀ codes : BitVec 48, s.port.orders.head? = some (.setRoster codes) →
      let code := fun j : Fin 12 => codes.toNat / 16 ^ (11 - j.val) % 16
      (s.running = true → ∃ t, exec (.setRoster codes) s = .next t ∧ Refused s t (.setRoster codes) .wrongState 0) ∧
      (s.running = false → (∃ j, 4 ≤ code j ∧ code j ≤ 14) → ∃ t, exec (.setRoster codes) s = .next t ∧
        Refused s t (.setRoster codes) .badArgument 0) ∧
      (s.running = false → (∀ j, code j < 4 ∨ code j = 15) → ∃ t, exec (.setRoster codes) s = .next t ∧
        Answered s t (.setRoster codes) .accepted .none 0 ∧
        (∀ j, t.rosterRole j = if code j < 4 then some (roleOfCode (code j)) else none) ∧
        UnchangedBut [.orderQueue, .reports, .roster] s t)) ∧
    (∀ straps, ∃ t, exec (.powerOnReset straps) s = .next t ∧ ∀ j, t.rosterRole j = none) ∧
    ∀ straps, s.port.orders.head? = some .reset → s.port.resetEnable = true →
      ∃ t, exec (.reset straps) s = .next t ∧ t.roster = s.roster

/-- RUN is refused WRONG_STATE in RUN; in CONFIG the first of the seven checks that fails refuses it with its number, and
nothing else changes (R206). -/
def Obligations.RunMakesItsChecksInOrder : Prop :=
  ∀ s : State, s.port.orders.head? = some .run →
    let refuses := fun (reason : Reason) (extra : Nat) => ∃ t, exec .run s = .next t ∧ Refused s t .run reason extra
    let own := ∃ j : Fin 12, j.val = s.straps.number.val ∧ s.rosterRole j = some s.straps.role
    (s.running = true → refuses .wrongState 0) ∧
    (s.running = false →
      (12 ≤ s.straps.number.val → refuses .rosterInvalid 1) ∧
      (∀ j : Fin 12, j.val = s.straps.number.val → s.rosterRole j = none → refuses .rosterInvalid 2) ∧
      (∀ (j : Fin 12) (r : Role), j.val = s.straps.number.val → s.rosterRole j = some r → r ≠ s.straps.role →
        refuses .rosterInvalid 3) ∧
      (own → s.roleCount .corner ≠ 4 → refuses .rosterInvalid 4) ∧
      (own → s.roleCount .corner = 4 → (s.roleCount .approach = 0 ∨ 4 < s.roleCount .approach) →
        refuses .rosterInvalid 5) ∧
      (own → s.roleCount .corner = 4 → (1 ≤ s.roleCount .approach ∧ s.roleCount .approach ≤ 4) →
        (s.roleCount .channel = 0 ∨ 2 < s.roleCount .channel) → refuses .rosterInvalid 6) ∧
      (own → s.roleCount .corner = 4 → (1 ≤ s.roleCount .approach ∧ s.roleCount .approach ≤ 4) →
        (1 ≤ s.roleCount .channel ∧ s.roleCount .channel ≤ 2) →
        (s.roleCount .desk = 0 ∨ 2 < s.roleCount .desk) → refuses .rosterInvalid 7))

/-- An accepted RUN takes the station to RUN: the inhibit set, the digest of R15, an ABSENT entry for every other rostered
station, both lines WAITING with a full slot and CHANGED clear, and a first phase; nothing is changed beside the blocks that
act (R7, R8, R15, R30, R32, R39, R206). -/
def Obligations.RunStartsTheStation : Prop :=
  ∀ s : State, s.port.orders.head? = some .run → s.running = false → s.failedCheck = none →
    ∃ t, exec .run s = .next t ∧ Answered s t .run .accepted .none 0 ∧ t.running = true ∧ t.port.startInhibit = true ∧
      t.digest = some (BitVec.ofNat 8 (
        (stations.map fun j => ((s.rosterRole j).map fun r => 16 * j.val + roleCode r).getD 0).sum +
          s.config.item 4 + s.config.item 5 + s.config.item 2 + s.config.item 1)) ∧
      (∀ j, t.peer j =
        if (s.rosterRole j).isSome = true ∧ j.val ≠ s.straps.number.val then
          some {
            freshness := .absent, heard := none, seenA := false, seenB := false, staleTimer := none, lostTimer := none,
            seenTimerA := none, seenTimerB := none }
        else none) ∧
      (∀ l, (t.line l).health = some .waiting ∧ (t.line l).healthTimer = some (3 * s.config.item 2) ∧
        (t.line l).slot ≠ .empty ∧ (t.line l).changed = false) ∧
      t.phaseCode ≠ 255 ∧
      UnchangedBut ([.orderQueue, .running, .digest, .inhibit, .peers, .link] ++ roleBlocks) s t

/-- The first phase of each role at an accepted RUN, and TRIPPED where the RUN order submits a cause (R66, R69, R70, R80, R113,
R119, R158, R168, R181). A corner on its seat passes on to LOCKING in the same event, unless its bolt is driven. -/
def Obligations.RunTakesTheFirstPhase : Prop :=
  ∀ s : State, s.port.orders.head? = some .run → s.running = false → s.failedCheck = none → s.trip.flag = false →
    s.trip.causes = [] →
    ∃ t, exec .run s = .next t ∧
      (s.straps.role = .approach →
        t.closure.phase = some (if s.trip.estopFiltered then .tripped else .holding) ∧
        t.closure.heldStage = (if s.trip.estopFiltered then none else some .redClearance) ∧
        ∀ i, (t.arm i).retry = 0 ∧ (t.arm i).state = some (
          if s.config.item (35 + i.val) = 0 ∨ s.config.item (35 + i.val) = 1 then
            match s.armPattern i with
            | .atFirst => .raised
            | .atSecond => .lowered
            | .travelling => .fault .disturbed
            | .invalid => .fault .limitPattern
          else .notFitted)) ∧
      (s.straps.role = .channel →
        t.channel.phase = some (if s.trip.estopFiltered then .tripped else .closing)) ∧
      (s.straps.role = .desk →
        t.desk.phase = some (if s.trip.estopFiltered then .tripped else if s.filtered 4 then .active else .inactive)) ∧
      (s.straps.role = .corner →
        (if s.trip.estopFiltered = true ∨ s.filtered 4 = true ∨ s.filtered 3 = true ∨ s.boltPattern = .invalid then
          t.motion.phase = some .tripped ∧ t.trip.flag = true
        else
          t.motion.phase = some (
            if s.filtered 0 then (if s.boltPattern = .atSecond then .seatedLocked else .locking)
            else if s.motion.encoder.referenced then .held else .unreferenced) ∧ t.trip.flag = false))

/-- ENABLE_RESET, SET_MASK and SET_THRESHOLD are accepted in CONFIG and in RUN at every role; a threshold of 0 or above 32 is
ignored and still ACCEPTED (R200, R201, R209). SET_INHIBIT and CLEAR_INHIBIT set and clear the start inhibit in RUN,
CLEAR_INHIBIT not while the trip flag is set; where the inhibit stands as asked nothing else changes (R207, R208). A clearing lets
the role block take what waited for it before the ORDER_RESULT: an approach goes from OPEN to AMBER under RAISE as a new closure
(R102, R130), from CLOSED and HOLDING to RAISING_ARMS under LOWER with the span seated and locked, and on to OPEN where no arm has
to rise (R109, R110, R112), and from HOLDING to its held stage, and through one that is complete, under RAISE (R112); a channel
goes from CLOSED_TO_VESSELS to OPENING, and on with SPAN_CLEAR, under RAISE (R159, R160). Without these demands, and at a setting
of the inhibit, an approach in OPEN, CLOSED or HOLDING and a channel in CLOSED_TO_VESSELS stay. The clauses on an approach stand
for states in which its arms are NOT_FITTED, at rest and without a command, as configured and a hold is pending in a closing
stage alone; every step keeps this, beside what `ArmsStaySafe` states (R96, R111, R119). -/
def Obligations.PortAndInhibitOrdersTakeEffect : Prop :=
  (Kept fun s => ArmsSafe s ∧ ClosureLegal s) ∧ ∀ s : State,
    (s.port.orders.head? = some .enableReset → ∃ t, exec .enableReset s = .next t ∧
      Answered s t .enableReset .accepted .none 0 ∧ t.port.resetEnable = true ∧
      UnchangedBut [.orderQueue, .reports] s t) ∧
    (∀ mask, s.port.orders.head? = some (.setMask mask) → ∃ t, exec (.setMask mask) s = .next t ∧
      Answered s t (.setMask mask) .accepted .none 0 ∧ t.port.mask = mask ∧ t.port.threshold = s.port.threshold ∧
      UnchangedBut [.orderQueue, .reports, .attention] s t) ∧
    (∀ threshold : Byte, s.port.orders.head? = some (.setThreshold threshold) →
      ∃ t, exec (.setThreshold threshold) s = .next t ∧ Answered s t (.setThreshold threshold) .accepted .none 0 ∧
        t.port.threshold =
          (if threshold.toNat = 0 ∨ 32 < threshold.toNat then s.port.threshold else threshold.toNat) ∧
        t.port.mask = s.port.mask ∧ UnchangedBut [.orderQueue, .reports, .attention] s t) ∧
    (s.port.orders.head? = some .setInhibit →
      (s.running = false → ∃ t, exec .setInhibit s = .next t ∧ Refused s t .setInhibit .wrongState 0) ∧
      (s.running = true → ∃ t, exec .setInhibit s = .next t ∧ Answered s t .setInhibit .accepted .none 0 ∧
        t.port.startInhibit = true ∧ UnchangedBut ([.orderQueue, .inhibit, .link] ++ roleBlocks) s t ∧
        (s.straps.role = .approach → ClosureLegal s → s.closure.phase ∈ [some .opened, some .closed, some .holding] →
          t.closure = s.closure) ∧
        (s.straps.role = .channel → s.channel.phase = some .closedToVessels → t.channel = s.channel) ∧
        (s.port.startInhibit = true → UnchangedBut [.orderQueue, .reports] s t))) ∧
    (s.port.orders.head? = some .clearInhibit →
      (s.running = false → ∃ t, exec .clearInhibit s = .next t ∧ Refused s t .clearInhibit .wrongState 0) ∧
      (s.running = true → s.trip.flag = true →
        ∃ t, exec .clearInhibit s = .next t ∧ Refused s t .clearInhibit .notNow 0) ∧
      (s.running = true → s.trip.flag = false → ∃ t, exec .clearInhibit s = .next t ∧
        Answered s t .clearInhibit .accepted .none 0 ∧ t.port.startInhibit = false ∧
        UnchangedBut ([.orderQueue, .inhibit, .link] ++ roleBlocks) s t ∧
        (s.port.startInhibit = false → UnchangedBut [.orderQueue, .reports] s t) ∧
        (s.port.startInhibit = true → s.straps.role = .approach → ClosureLegal s →
          let c := s.closure
          let reopens := s.demandView = .lower ∧ s.spanSeatedLocked = true
          (c.phase = some .opened →
            (s.demandView = .raise → t.closure.phase = some .amber ∧
              t.closure.amberTimer = some (1000 * s.config.item 25) ∧ (∀ i, (t.arm i).retry = 0) ∧
              (t.lamp 2).mode = .steady ∧ (t.lamp 3).mode = .off ∧ (t.sounder 0).steady = true) ∧
            (s.demandView ≠ .raise → t.closure = c)) ∧
          (c.phase = some .closed ∨ c.phase = some .holding → reopens →
            t.closure.phase = some (if t.armsReopened then .opened else .raisingArms) ∧ t.closure.heldStage = none ∧
            (t.armsReopened = false → (t.sounder 0).steady = true ∧ (t.lamp 0).mode = .steady ∧
              ∀ i, s.isFitted i = true → (s.arm i).state ≠ some .manual → (t.arm i).command = .raise) ∧
            (t.armsReopened = true → (t.lamp 3).mode = .steady ∧ ∀ i, (t.arm i).command = .none)) ∧
          (c.phase = some .closed → ¬reopens → t.closure = c) ∧
          (c.phase = some .holding → c.holdPending = false → s.demandView = .raise → t.closure.heldStage = none ∧
            (c.heldStage = some .amber →
              t.closure.phase = some .amber ∧ t.closure.amberTimer = some (1000 * s.config.item 25)) ∧
            (c.heldStage = some .redClearance → t.closure.phase = some .redClearance ∧
              t.closure.redTimer = some (1000 * s.config.item 26) ∧ t.closure.served = false) ∧
            (c.heldStage = some .entryLowering →
              t.closure.phase = some (if t.entryArmsDown then .deckClearing else .entryLowering) ∧
              (t.entryArmsDown = false → ∀ i, s.isFitted i = true → s.config.item (35 + i.val) = 0 →
                (t.arm i).command = .lower)) ∧
            (c.heldStage = some .deckClearing → t.closure.phase = some .deckClearing ∧
              t.closure.deckLimitTimer = some (4000 * s.config.item 27)) ∧
            (c.heldStage = some .exitLowering →
              t.closure.phase = some (if t.allArmsDown then .closed else .exitLowering)) ∧
            (c.heldStage = some .closed → t.closure.phase = some .closed ∧ t.closureIntact = s.allArmsDown)) ∧
          (c.phase = some .holding → s.demandView ≠ .raise → ¬reopens → t.closure = c)) ∧
        (s.port.startInhibit = true → s.straps.role = .channel → s.channel.phase = some .closedToVessels →
          (s.demandView = .raise → t.channel.manualStop = false ∧
            t.channel.phase = some (if s.spanClear then .openToVessels else .opening)) ∧
          (s.demandView ≠ .raise → t.channel = s.channel))))

/-- What persists of a recorded cause, by its state alone (R186, R187), and the order in which a clear request tests: the
recorded causes first, then with MORE set every cause of the role in code order (R188). CLEAR_TRIP is refused in CONFIG,
untripped, or with the first persisting cause named; otherwise the trip ends and the role enters the phase of R190. The
hypothesis on DEMAND keeps the phase entered from passing on to a movement. -/
def Obligations.ClearTripIsDecided : Prop :=
  ∀ s : State,
    (∀ c : Cause, s.persists c = true ↔
      match c with
      | .estop => s.trip.estopFiltered = true
      | .driveFault => s.filtered 4 = true
      | .brake => s.filtered 3 = true ∧ s.motion.brake.out = false
      | .bolt => s.filtered 1 = true ∧ s.filtered 2 = true
      | .skew =>
        let counted := fun p : Int => p = s.motion.position ∨ ∃ j e h position speed goal intent bolt brake seat cause,
          s.rosterRole j = some .corner ∧ j.val ≠ s.straps.number.val ∧ s.peer j = some e ∧
          (e.freshness = .fresh ∨ e.freshness = .stale) ∧ e.heard = some h ∧ h.digestOk = true ∧
          h.content.payload = .corner position speed goal intent bolt brake seat cause ∧ position ≠ 0x8000#16 ∧
          p = position.toInt
        ∃ high low : Int, counted high ∧ counted low ∧
          ((if s.filtered 24 then max (s.config.item 17) (s.config.item 16) else s.config.item 16 : Nat) : Int) < high - low
      | .overtravel =>
        s.motion.encoder.referenced = true ∧ s.filtered 24 = false ∧
          ((s.config.item 4 : Int) + s.config.item 8 < s.motion.pos ∨ s.motion.pos < -(s.config.item 8 : Int))
      | .peerLost => ∃ j, s.rosterRole j = some .corner ∧ j.val ≠ s.straps.number.val ∧
          ∀ e, s.peer j = some e → e.freshness ≠ .fresh
      | .peerSilent => ∃ j, s.rosterRole j = some .corner ∧ j.val ≠ s.straps.number.val ∧
          ∀ e, s.peer j = some e → e.freshness ≠ .fresh
      | .duplicate => s.duplicateTimer.isSome = true
      | .encoder => False
      | .stall => False
      | .overspeed => False
      | .seatMismatch => False
      | .sympathy => False) ∧
    (∀ c : Cause,
      let tested := s.trip.causes ++
        if s.trip.more = false then []
        else if s.straps.role = .corner then
          [.estop, .driveFault, .skew, .stall, .overspeed, .overtravel, .encoder, .brake, .bolt, .seatMismatch, .peerLost,
            .peerSilent, .sympathy, .duplicate]
        else [.estop, .duplicate]
      s.firstPersisting = some c ↔
        ∃ before after, tested = before ++ c :: after ∧ s.persists c = true ∧ ∀ b ∈ before, s.persists b = false) ∧
    (s.port.orders.head? = some .clearTrip →
      (s.running = false ∨ s.trip.flag = false →
        ∃ t, exec .clearTrip s = .next t ∧ Refused s t .clearTrip .wrongState 0) ∧
      (∀ c, s.running = true → s.trip.flag = true → s.firstPersisting = some c →
        ∃ t, exec .clearTrip s = .next t ∧ Refused s t .clearTrip .causePresent (causeCode c)) ∧
      (s.running = true → s.trip.flag = true → s.firstPersisting = none →
        s.straps.role = .desk ∨ s.demandView = .none ∨ s.demandView = .halt →
        ∃ t, exec .clearTrip s = .next t ∧ Answered s t .clearTrip .accepted .none 0 ∧
          t.trip.flag = false ∧ t.trip.causes = [] ∧ t.trip.more = false ∧
          (s.straps.role = .corner →
            if s.onSeat then t.motion.phase = some .locking ∨ t.motion.phase = some .seatedLocked
            else t.motion.phase = some (if s.motion.encoder.referenced then .held else .unreferenced)) ∧
          (s.straps.role = .approach → t.closure.phase = some .holding ∧
            t.closure.heldStage =
              some (if s.allArmsDown then .closed else if s.entryArmsDown then .deckClearing else .redClearance)) ∧
          (s.straps.role = .channel → t.channel.phase = some .closing) ∧
          (s.straps.role = .desk → t.desk.phase = some (if s.filtered 4 then .active else .inactive)) ∧
          UnchangedBut ([.orderQueue, .link] ++ roleBlocks) s t))

/-- HOME: refused in its order of reasons; accepted, an unseated corner is HOMING with its brake released and POSITION
−32,768, and a seated one completes at once and locks (R46, R47, R90). -/
def Obligations.HomeStartsHoming : Prop :=
  ∀ s : State, s.port.orders.head? = some .home → s.straps.role = .corner →
    let refuses := fun reason : Reason => ∃ t, exec .home s = .next t ∧ Refused s t .home reason 0
    let standing := s.motion.phase = some .unreferenced ∨ s.motion.phase = some .held
    (¬standing → refuses .wrongState) ∧
    (standing → s.maint = false → refuses .notEnabled) ∧
    (standing → s.maint = true →
      s.demandView = .raise ∨ s.demandView = .lower ∨ s.motion.bolt.state ≠ .withdrawn → refuses .notNow) ∧
    (standing → s.maint = true → s.demandView ≠ .raise → s.demandView ≠ .lower → s.motion.bolt.state = .withdrawn →
      ∃ t, exec .home s = .next t ∧ Answered s t .home .accepted .none 0 ∧
        (if s.seat then
          t.motion.phase = some .locking ∧ t.motion.encoder.count = 0 ∧ t.motion.encoder.referenced = true ∧
            t.motion.position = 0 ∧ t.motion.brake.out = false
        else
          t.motion.phase = some .homing ∧ t.motion.encoder.count = s.motion.encoder.count ∧
            t.motion.encoder.referenced = false ∧ t.motion.position = -32768 ∧ t.motion.intent = .down ∧
            t.motion.goal = 0 ∧ t.motion.brake.out = true ∧ t.motion.holdTimer = none) ∧
        UnchangedBut [.orderQueue, .link, .reports, .motion] s t)

/-- ARM_ACCEPT and ARM_RESET: refused in their order of reasons. ARM_ACCEPT makes the arm MANUAL with both outputs off (R131).
ARM_RESET gives the arm the state of its pattern and a count of 0, accepted in TRIPPED and, here with no command standing, in
HOLDING under the inhibit; with LOWER standing in ENTRY_LOWERING a raised arm begins lowering where its lane is clear (R132).
That the ARM report of this lowering carries event 1, after the event 3 of the derived state, is the model's choice (R133, log
entry 32). -/
def Obligations.ArmOrdersTakeEffect : Prop :=
  ∀ (arm : Byte) (s : State), s.straps.role = .approach →
    let change := fun (old new event : Nat) => ({
      kind := .arm, time := s.time, subject := arm, old := BitVec.ofNat 8 old, new := BitVec.ofNat 8 new
      extra1 := BitVec.ofNat 8 event, extra2 := 0 } : Report)
    (s.port.orders.head? = some (.armAccept arm) →
      let refuses := fun reason : Reason =>
        ∃ t, exec (.armAccept arm) s = .next t ∧ Refused s t (.armAccept arm) reason arm.toNat
      (s.running = false → refuses .wrongState) ∧
      ∀ p, s.running = true → s.closure.phase = some p →
        (3 < arm.toNat ∨ (∃ i : Fin 4, i.val = arm.toNat ∧ s.isFitted i = false) → refuses .badArgument) ∧
        ∀ i : Fin 4, i.val = arm.toNat → s.isFitted i = true →
          ((∀ c, (s.arm i).state ≠ some (.fault c)) → refuses .wrongState) ∧
          ∀ c, (s.arm i).state = some (.fault c) →
            (p = .opened ∨ p = .amber ∨ p = .raisingArms ∨ p = .tripped → refuses .notNow) ∧
            (p ≠ .opened → p ≠ .amber → p ≠ .raisingArms → p ≠ .tripped →
              ∃ t, exec (.armAccept arm) s = .next t ∧ Answered s t (.armAccept arm) .accepted .none arm.toNat ∧
                (t.arm i).state = some .manual ∧ (t.arm i).up = false ∧ (t.arm i).down = false ∧
                UnchangedBut [.orderQueue, .link, .reports, .signal, .closure] s t)) ∧
    (s.port.orders.head? = some (.armReset arm) →
      let refuses := fun reason : Reason =>
        ∃ t, exec (.armReset arm) s = .next t ∧ Refused s t (.armReset arm) reason arm.toNat
      (s.running = false → refuses .wrongState) ∧
      (s.running = true →
        (3 < arm.toNat ∨ (∃ i : Fin 4, i.val = arm.toNat ∧ s.isFitted i = false) → refuses .badArgument) ∧
        ∀ i : Fin 4, i.val = arm.toNat → s.isFitted i = true →
          (((∀ c, (s.arm i).state ≠ some (.fault c)) ∧ (s.arm i).state ≠ some .manual) → refuses .wrongState) ∧
          ((∃ c, (s.arm i).state = some (.fault c)) ∨ (s.arm i).state = some .manual →
            (s.armPattern i = .invalid ∨ s.closure.phase = some .raisingArms → refuses .notNow) ∧
            (s.armPattern i ≠ .invalid → (s.arm i).command = .none →
              s.closure.phase = some .tripped ∨ (s.closure.phase = some .holding ∧ s.port.startInhibit = true) →
              ∃ t, exec (.armReset arm) s = .next t ∧ Answered s t (.armReset arm) .accepted .none arm.toNat ∧
                (t.arm i).retry = 0 ∧
                (t.arm i).state = some (
                  match s.armPattern i, (s.arm i).state with
                  | .atFirst, _ => .raised
                  | .atSecond, _ => .lowered
                  | _, some (.fault c) => .fault c
                  | _, _ => .fault .disturbed) ∧
                (∀ k, k ≠ i → t.arm k = s.arm k) ∧ t.closure.phase = s.closure.phase ∧
                UnchangedBut [.orderQueue, .link, .reports, .closure] s t) ∧
            (s.armPattern i = .atFirst → (s.arm i).command = .lower → s.presence i = false →
              s.config.item (35 + i.val) = 0 → s.closure.phase = some .entryLowering → s.closure.holdPending = false →
              s.demandView = .raise → s.trip.flag = false → (s.arm i).gapTimer = none → (s.arm i).up = false →
              ∃ t, exec (.armReset arm) s = .next t ∧ Answered s t (.armReset arm) .accepted .none arm.toNat ∧
                (t.arm i).retry = 0 ∧ (t.arm i).state = some .lowering ∧ (t.arm i).down = true ∧
                (t.arm i).travelTimer = some (1000 * s.config.item 28) ∧
                Submitted s t (change (((s.arm i).state.map armCode).getD 0) 1 3) ∧ Submitted s t (change 1 2 1) ∧
                UnchangedBut [.orderQueue, .link, .reports, .closure] s t))))

/-- NAV_ACCEPT: refused in its order of reasons; accepted, the manual-stop flag is set and a channel in CLOSING closes at once
(R164). That an order which finds the flag set changes nothing else, in CLOSING too, is the model's reading (log entry 9). -/
def Obligations.NavAcceptClosesTheChannel : Prop :=
  ∀ s : State, s.port.orders.head? = some .navAccept → s.straps.role = .channel →
    let refuses := fun reason : Reason => ∃ t, exec .navAccept s = .next t ∧ Refused s t .navAccept reason 0
    let closingPhase := s.channel.phase = some .closing ∨ s.channel.phase = some .closedToVessels
    let failed := (s.lamp 0).proving = .failed ∧ (s.lamp 1).proving = .failed
    (¬closingPhase → refuses .wrongState) ∧ (closingPhase → ¬failed → refuses .notNow) ∧
    (closingPhase → failed → s.channel.manualStop = true → ∃ t, exec .navAccept s = .next t ∧
      Answered s t .navAccept .accepted .none 0 ∧ UnchangedBut [.orderQueue, .reports] s t) ∧
    (closingPhase → failed → s.channel.manualStop = false →
      s.port.startInhibit = true ∨ s.demandView ≠ .raise →
      ∃ t, exec .navAccept s = .next t ∧ Answered s t .navAccept .accepted .none 0 ∧
        t.channel.phase = some .closedToVessels ∧ t.channel.manualStop = true ∧ t.channelClosed = true ∧
        (s.channel.phase = some .closing →
          t.channel.clearingTimer = none ∧ t.channel.vesselAlert = s.vesselPresent) ∧
        UnchangedBut [.orderQueue, .link, .reports, .signal, .channel] s t)

/-- DEMAND, SET_GOAL and CLEAR_REQUEST at a desk: their refusals, the held demand, the clamped goal, and the clear counter with
the desk's own clear attempt (R171, R173, R175, R176). Where the published DEMAND or the trip flag may change, the nine indicators
then show their tests (R177). -/
def Obligations.DeskOrdersTakeEffect : Prop :=
  ∀ s : State, s.straps.role = .desk →
    (∀ value : Byte, s.port.orders.head? = some (.demand value) →
      let refuses := fun reason : Reason =>
        ∃ t, exec (.demand value) s = .next t ∧ Refused s t (.demand value) reason 0
      (s.running = false → refuses .wrongState) ∧
      (s.running = true →
        (3 < value.toNat → refuses .badArgument) ∧
        (value.toNat ≤ 3 → s.desk.phase = some .tripped → refuses .wrongState) ∧
        (value.toNat ≤ 3 → s.desk.phase = some .inactive → refuses .notEnabled) ∧
        (value.toNat ≤ 3 → s.desk.phase = some .active → ∃ t, exec (.demand value) s = .next t ∧
          Answered s t (.demand value) .accepted .none 0 ∧ demandCode t.desk.heldDemand = value.toNat ∧
          t.desk.phase = s.desk.phase ∧ t.desk.requestedGoal = s.desk.requestedGoal ∧
          t.desk.clearCount = s.desk.clearCount ∧ IndicatorsShow t ∧
          UnchangedBut [.orderQueue, .link, .reports, .signal, .desk] s t))) ∧
    (∀ height : BitVec 16, s.port.orders.head? = some (.setGoal height) →
      let h := height.toNat
      let goal := if h = 0 then 0 else max s.clearanceHeight (min s.openHeight h)
      (s.running = false → ∃ t, exec (.setGoal height) s = .next t ∧
        Refused s t (.setGoal height) .wrongState 0) ∧
      (s.running = true → ∃ t, exec (.setGoal height) s = .next t ∧
        Answered s t (.setGoal height) (if goal = h then .accepted else .clamped) .none 0 ∧
        t.desk = { s.desk with requestedGoal := goal } ∧ UnchangedBut [.orderQueue, .link, .reports, .desk] s t)) ∧
    (s.port.orders.head? = some .clearRequest →
      (s.running = false → ∃ t, exec .clearRequest s = .next t ∧ Refused s t .clearRequest .wrongState 0) ∧
      (s.running = true → ∃ t, exec .clearRequest s = .next t ∧
        Answered s t .clearRequest .accepted .none 0 ∧ t.desk.clearCount = (s.desk.clearCount + 1) % 16 ∧
        (s.trip.flag = true → s.firstPersisting = none →
          t.trip.flag = false ∧ t.desk.phase = some (if s.filtered 4 then .active else .inactive) ∧ IndicatorsShow t) ∧
        (s.trip.flag = false ∨ s.firstPersisting ≠ none → t.trip = s.trip ∧ t.desk.phase = s.desk.phase) ∧
        UnchangedBut [.orderQueue, .link, .reports, .trip, .signal, .desk] s t))

/-- An order of another role is refused WRONG_ROLE, in CONFIG as in RUN, and changes nothing else (R90, R131, R132, R164, R171,
R173, R176). -/
def Obligations.RoleOrdersRefusedElsewhere : Prop :=
  ∀ s : State,
    let refuses := fun (c : Instr) (o : Order) (extra : Nat) =>
      s.port.orders.head? = some o → ∃ t, exec c s = .next t ∧ Refused s t o .wrongRole extra
    (s.straps.role ≠ .corner → refuses .home .home 0) ∧
    (s.straps.role ≠ .approach → ∀ arm : Byte,
      refuses (.armAccept arm) (.armAccept arm) arm.toNat ∧ refuses (.armReset arm) (.armReset arm) arm.toNat) ∧
    (s.straps.role ≠ .channel → refuses .navAccept .navAccept 0) ∧
    (s.straps.role ≠ .desk → (∀ value, refuses (.demand value) (.demand value) 0) ∧
      (∀ height, refuses (.setGoal height) (.setGoal height) 0) ∧ refuses .clearRequest .clearRequest 0)

/-! ### The peer table and the span link -/

/-- A well-formed frame of a rostered station in its rostered role is accepted into that station's entry, as new or as a copy,
and restarts the line's health timer; no other entry changes (R8 to R11, R13, R14, R39). A PEER report is submitted exactly
where FRESHNESS or DIGEST_OK has changed (R22); a desk's new CLEAR_COUNT in an entry that was FRESH or STALE is a clear attempt,
which ends a trip of which nothing persists (R21); a moving corner that stores another corner's TRIPPED flag trips (R92). The
other line is left, but for a change of content (R37). A receiver that ignored the line takes the frame where the own attempt has
ended and the line stood idle for 2 bit times before it (R38, log entry 13). -/
def Obligations.FrameIsAcceptedIntoItsEntry : Prop :=
  ∀ (line : LinkLine) (levels : List Bool) (r : Received) (f : Frame) (j : Fin 12) (e : Entry) (s : State),
    s.running = true → (s.line line).ignoring = false ∨ ((s.line line).tx ≠ .sending ∧ idleFirst levels = true) →
    received levels = some r → readFrame r = some f → f.source = j.val → j.val ≠ s.straps.number.val →
    s.rosterRole j = some f.role → s.peer j = some e →
    let known := e.freshness = .fresh ∨ e.freshness = .stale
    let copy := fun h : Heard => known ∧ h.lastSequence = f.sequence
    let agrees := decide (s.digest = some f.digest)
    let stale := 3 * s.config.item 2
    ∃ t new, exec (.frameReceived line levels) s = .next t ∧
      (∃ content, (∀ h, e.heard = some h → copy h → content = h.content) ∧
        ((∀ h, e.heard = some h → ¬copy h) → content = f.content) ∧
        t.peer j = some {
          freshness := .fresh
          heard := some {
            content := content, lastSequence := f.sequence, lastDigest := f.digest, digestOk := agrees, age := 0 }
          seenA := e.seenA || decide (line = .a)
          seenB := e.seenB || decide (line = .b)
          staleTimer := some stale
          lostTimer := some (10 * s.config.item 2)
          seenTimerA := if line = .a then some stale else e.seenTimerA
          seenTimerB := if line = .b then some stale else e.seenTimerB }) ∧
      (∀ k, k ≠ j → t.peer k = s.peer k) ∧
      (t.line line).health = some .ok ∧ (t.line line).healthTimer = some stale ∧
      (agrees = false → (∀ h, e.heard = some h → h.digestOk = true) → t.latched .digestMismatch = true) ∧
      t.port.reports = s.port.reports ++ new ∧
      (e.freshness ≠ .fresh ∨ (∀ h, e.heard = some h → h.digestOk ≠ agrees) →
        32 ≤ t.port.reports.length ∨ {
          kind := .peer, time := s.time, subject := BitVec.ofNat 8 j.val
          old := BitVec.ofNat 8 (freshnessCode e.freshness), new := 1
          extra1 := BitVec.ofNat 8 (roleCode f.role + (if agrees then 4 else 0) +
            (if e.seenA = true ∨ line = .a then 8 else 0) + (if e.seenB = true ∨ line = .b then 16 else 0))
          extra2 := f.digest } ∈ new) ∧
      (∀ h, e.freshness = .fresh → e.heard = some h → h.digestOk = agrees → ∀ x ∈ new, x.kind ≠ .peer) ∧
      (∀ h demand goal count key ceiling cause demand' goal' count' key' ceiling' cause', e.heard = some h → known →
        ¬copy h → f.role = .desk → h.content.payload = .desk demand goal count key ceiling cause →
        f.content.payload = .desk demand' goal' count' key' ceiling' cause' → count ≠ count' → s.trip.flag = true →
        (s.firstPersisting = none →
          (32 ≤ t.port.reports.length ∨ ∃ x ∈ new, x.kind = .tripCleared ∧ x.subject = BitVec.ofNat 8 j.val) ∧
          (s.straps.role ≠ .corner → t.trip.flag = false ∧ t.trip.causes = [])) ∧
        (s.firstPersisting ≠ none → s.straps.role ≠ .corner → t.trip = s.trip)) ∧
      (s.isMoving = true → f.role = .corner → f.content.tripped = true →
        (∀ h, e.heard = some h → ¬copy h ∧ h.content ≠ f.content) → t.trip.flag = true) ∧
      (s.ownContent = t.ownContent → t.port.reports.length < 32 → (∀ x ∈ new, x.kind ∉ [.phase, .arm, .lamp]) →
        ∀ l, l ≠ line → t.line l = s.line l) ∧
      UnchangedBut ([.peers, .link] ++ roleBlocks) s t

/-- Frames that reach no entry: discarded in CONFIG and while the receiver ignores the line, dropped when not well formed, and
dropped with DUPLICATE_STATION, STRANGER or ROLE_MISMATCH (R7, R11, R12). The end of an ignored frame ends the ignoring, unless
the own transmitter still sends (R38); that 2 bit times of idle line before a frame end it too is log entry 13. -/
def Obligations.OtherFramesAreDropped : Prop :=
  ∀ (line : LinkLine) (levels : List Bool) (r : Received) (s : State), received levels = some r →
    (s.running = false ∨ readFrame r = none ∨
        ((s.line line).ignoring = true ∧ ((s.line line).tx = .sending ∨ idleFirst levels = false)) →
      ∃ t, exec (.frameReceived line levels) s = .next t ∧
        t.line line = { s.line line with
          idle := false, ignoring := (s.line line).ignoring && decide ((s.line line).tx = .sending) } ∧
        (∀ l, l ≠ line → t.line l = s.line l) ∧ UnchangedBut [.link] s t) ∧
    ∀ f, s.running = true → (s.line line).ignoring = false ∨ ((s.line line).tx ≠ .sending ∧ idleFirst levels = true) →
      readFrame r = some f →
      (f.source = s.straps.number.val → ∃ t, exec (.frameReceived line levels) s = .next t ∧
        t.latched .duplicateStation = true ∧ t.duplicateTimer = some (3 * s.config.item 2) ∧ t.trip.flag = true ∧
        (s.trip.flag = false → t.trip.causes = [.duplicate]) ∧
        UnchangedBut ([.duplicate, .link] ++ roleBlocks) s t) ∧
      ∀ j : Fin 12, f.source = j.val → j.val ≠ s.straps.number.val →
        (s.rosterRole j = none → ∃ t, exec (.frameReceived line levels) s = .next t ∧ t.latched .stranger = true ∧
          UnchangedBut [.link, .reports, .signal] s t) ∧
        (∀ x, s.rosterRole j = some x → x ≠ f.role → ∃ t, exec (.frameReceived line levels) s = .next t ∧
          t.latched .roleMismatch = true ∧ UnchangedBut [.link, .reports, .signal] s t)

/-- The stale timer takes a FRESH entry to STALE and trips a moving corner whose partner it was; the lost timer takes a STALE
entry to LOST; each change of FRESHNESS gives a PEER report; a seen timer clears its seen flag (R9, R10, R22, R93). The duplicate
timer's expiry clears DUPLICATE_SEEN. A 10 ms step advances station time and every AGE, and trips a moving corner whose moving
partner reaches an AGE of 30 (R10, R12, R94, R211). -/
def Obligations.EntriesAgeAndExpire : Prop :=
  (∀ (j : Fin 12) (e : Entry) (s : State), s.peer j = some e →
    let change := fun (old new : Nat) => ({
      kind := .peer, time := s.time, subject := BitVec.ofNat 8 j.val, old := BitVec.ofNat 8 old, new := BitVec.ofNat 8 new
      extra1 := BitVec.ofNat 8 (((s.rosterRole j).map roleCode).getD 0 +
        (if (e.heard.map (·.digestOk)).getD false then 4 else 0) + (if e.seenA then 8 else 0) + (if e.seenB then 16 else 0))
      extra2 := (e.heard.map (·.lastDigest)).getD 0 } : Report)
    (e.freshness = .fresh → e.staleTimer.isSome = true → ∃ t, exec (.staleTimerExpiry j) s = .next t ∧
      t.peer j = some { e with freshness := .stale, staleTimer := none } ∧ (∀ k, k ≠ j → t.peer k = s.peer k) ∧
      t.latched .peerStale = true ∧ Submitted s t (change 1 2) ∧
      (s.running = true → s.isMoving = true → s.rosterRole j = some .corner → t.trip.flag = true) ∧
      UnchangedBut ([.peers, .link] ++ roleBlocks) s t) ∧
    (e.freshness = .stale → e.lostTimer.isSome = true → ∃ t, exec (.lostTimerExpiry j) s = .next t ∧
      t.peer j = some { e with freshness := .lost, lostTimer := none } ∧ (∀ k, k ≠ j → t.peer k = s.peer k) ∧
      t.latched .peerLost = true ∧ Submitted s t (change 2 3) ∧ UnchangedBut ([.peers, .link] ++ roleBlocks) s t) ∧
    (e.seenTimerA.isSome = true → exec (.seenTimerExpiry j .a) s =
      .next { s with peers := s.peers.set j (some { e with seenA := false, seenTimerA := none }) }) ∧
    (e.seenTimerB.isSome = true → exec (.seenTimerExpiry j .b) s =
      .next { s with peers := s.peers.set j (some { e with seenB := false, seenTimerB := none }) })) ∧
  ∀ s : State,
    (∃ t, exec .duplicateTimerExpiry s = .next t ∧ t.duplicateTimer = none ∧ UnchangedBut [.duplicate, .link] s t) ∧
    ∃ t, exec .stationTimeTick s = .next t ∧ t.time = s.time + 1 ∧
      (∀ j, t.peer j = (s.peer j).map fun e =>
        { e with heard := e.heard.map fun h => { h with age := min 65535 (h.age + 1) } }) ∧
      (s.running = true → s.isMoving = true →
        (∃ j e h, s.peer j = some e ∧ e.heard = some h ∧ s.rosterRole j = some .corner ∧ j.val ≠ s.straps.number.val ∧
          h.content.phase.toNat ∈ [7, 8, 10, 11] ∧ 29 ≤ h.age) → t.trip.flag = true) ∧
      UnchangedBut ([.time, .peers, .link] ++ roleBlocks) s t

/-- The spacing timer lets a waiting transmitter go on and a CHANGED flag fill the slot; the refresh timer fills the slot (R32
to R34); the other line stays as it is (R37). -/
def Obligations.SlotTimersExpire : Prop :=
  ∀ (l : LinkLine) (s : State),
    let u := s.line l
    let aside := fun t : State => (∀ m, m ≠ l → t.line m = s.line m) ∧ UnchangedBut [.link] s t
    (u.spacingTimer.isSome = true →
      (u.tx = .spacing → ∃ t, exec (.spacingTimerExpiry l) s = .next t ∧ GainsLine l s t ∧ aside t) ∧
      (u.tx = .idle → u.slot = .empty → u.changed = true → ∃ t, exec (.spacingTimerExpiry l) s = .next t ∧
        (t.line l).slot ≠ .empty ∧ GainsLine l s t ∧ aside t) ∧
      (u.tx ≠ .spacing → u.changed = false ∨ u.slot ≠ .empty → ∃ t, exec (.spacingTimerExpiry l) s = .next t ∧
        t.line l = { u with spacingTimer := none } ∧ aside t)) ∧
    (u.refreshTimer.isSome = true →
      (u.tx = .idle → u.slot = .empty → u.spacingTimer = none → ∃ t, exec (.refreshTimerExpiry l) s = .next t ∧
        (t.line l).slot ≠ .empty ∧ GainsLine l s t ∧ aside t) ∧
      (u.tx = .idle → u.slot = .empty → u.spacingTimer.isSome = true →
        ∃ t, exec (.refreshTimerExpiry l) s = .next t ∧
          t.line l = { u with refreshTimer := none, slot := .full false, tx := .spacing } ∧ aside t) ∧
      (u.slot ≠ .empty → ∃ t, exec (.refreshTimerExpiry l) s = .next t ∧
        t.line l = { u with refreshTimer := none } ∧ aside t))

/-- Twelve bit times of idle line take a transmitter in GAP to its access delay of number × 8 + collisions × 16 bit times, or to
SENDING where that is 0; activity in DELAY takes it back to GAP (R34, R35); the other line stays as it is. An idle gap has passed
the end-of-frame test, so it ends the receiver's ignoring (R38; that it may stand for that test is log entry 13). -/
def Obligations.IdleGapsAndDeferrals : Prop :=
  ∀ (l : LinkLine) (s : State),
    let u := s.line l
    let aside := fun t : State => (∀ m, m ≠ l → t.line m = s.line m) ∧ UnchangedBut [.link] s t
    (u.tx = .gap → ∃ t, exec (.idleGapMet l) s = .next t ∧
      (delayBits s l = 0 → (t.line l).tx = .sending) ∧
      (delayBits s l ≠ 0 → t.line l =
        { u with tx := .delay, delayTimer := some (delayBits s l), idle := true, ignoring := false }) ∧
      aside t) ∧
    (u.tx ≠ .gap → u.tx ≠ .sending → ∃ t, exec (.idleGapMet l) s = .next t ∧
      t.line l = { u with idle := true, ignoring := false } ∧ aside t) ∧
    (u.tx = .delay → ∃ t, exec (.deferral l) s = .next t ∧
      t.line l = { u with tx := .gap, delayTimer := none, idle := false } ∧ aside t) ∧
    (u.tx ≠ .delay → ∃ t, exec (.deferral l) s = .next t ∧ t.line l = { u with idle := false } ∧ aside t)

/-- An attempt numbers the content by R31 and sends the own record under that number; its first attempt after a filling is a
transmission start, which starts the spacing and refresh timers; the own receiver ignores the line from here (R27, R31, R33,
R34, R38). A collision releases the line and counts, and returns the transmitter to GAP, or, on the first bit, which is a start
bit that the line did not follow, straight to DELAY, as the line has stayed idle (R35, R37). The eighth in a row is a jam, which
empties the slot, latches LINK_JAM and reports it; a frame read back whole empties the slot and the count, and a standing CHANGED
flag fills the slot anew (R32, R36, R37, R41). The receiver goes on ignoring the line throughout (R38), and the other line stays
as it is. -/
def Obligations.AttemptsSendTheNumberedRecord : Prop :=
  ∀ (l : LinkLine) (s : State),
    let u := s.line l
    let aside := fun (t : State) (named : List Block) =>
      (∀ m, m ≠ l → t.line m = s.line m) ∧ UnchangedBut (.link :: named) s t
    let number := match s.link.reference with
      | none => 0#8
      | some r => if r = s.ownContent then s.link.sequence else s.link.sequence + 1
    let first := decide (u.slot = .full false)
    (u.tx = .delay → u.delayTimer.isSome = true →
      ∃ t, exec (.attemptStart l) s = .next t ∧ t.link.sequence = number ∧ t.link.reference = some s.ownContent ∧
        t.line l = { u with
          changed := false
          slot := .full true
          spacingTimer := if first then some 20 else u.spacingTimer
          refreshTimer := if first then some (s.config.item 2) else u.refreshTimer
          tx := .sending
          delayTimer := none
          sending := some (recordFrame s.straps.number.val s.straps.role number (s.digest.getD 0) s.ownContent)
          idle := false
          ignoring := true } ∧ aside t []) ∧
    (u.tx = .sending →
      (u.collisions < 7 → ∀ bit, bit ≠ 0 → ∃ t, exec (.collision { line := l, bit := bit }) s = .next t ∧
        t.line l = { u with tx := .gap, sending := none, collisions := u.collisions + 1, idle := false } ∧ aside t []) ∧
      (u.collisions < 7 → ∃ t, exec (.collision { line := l, bit := 0 }) s = .next t ∧
        t.line l = { u with
          tx := .delay, sending := none, collisions := u.collisions + 1, idle := true
          delayTimer := some (s.straps.number.val * 8 + (u.collisions + 1) * 16) } ∧ aside t []) ∧
      (u.collisions = 7 → u.changed = false ∨ u.spacingTimer.isSome = true → ∀ bit,
        ∃ t, exec (.collision { line := l, bit := bit }) s = .next t ∧
          t.line l = { u with
            tx := .idle, sending := none, collisions := 0, slot := .empty, idle := decide (bit = 0) } ∧
          t.latched (match l with | .a => .linkJamA | .b => .linkJamB) = true ∧
          lastReport t {
            kind := .link, time := s.time, subject := match l with | .a => 0 | .b => 1
            old := BitVec.ofNat 8 ((u.health.map healthCode).getD 3)
            new := BitVec.ofNat 8 ((u.health.map healthCode).getD 3), extra1 := 2, extra2 := 8 } ∧
          aside t [.reports]) ∧
      (u.collisions = 7 → u.changed = true → u.spacingTimer = none → ∀ bit,
        ∃ t, exec (.collision { line := l, bit := bit }) s = .next t ∧
          (t.line l).slot ≠ .empty ∧ t.latched (match l with | .a => .linkJamA | .b => .linkJamB) = true ∧
          aside t [.reports]) ∧
      (u.changed = false ∨ u.spacingTimer.isSome = true → ∃ t, exec (.transmissionComplete l) s = .next t ∧
        t.line l = { u with tx := .idle, sending := none, collisions := 0, slot := .empty } ∧ aside t []) ∧
      (u.changed = true → u.spacingTimer = none → ∃ t, exec (.transmissionComplete l) s = .next t ∧
        (t.line l).slot ≠ .empty ∧ aside t []))

/-- A line whose health timer expires is SILENT: its condition is latched and a LINK report submitted (R39, R41). The other line
stays as it is, but for the change of content that follows where the line was OK (R37, R40). -/
def Obligations.SilentLinesAreFound : Prop :=
  ∀ (l : LinkLine) (s : State), (s.line l).healthTimer.isSome = true → (s.line l).health ≠ some .silent →
    ∃ t, exec (.healthTimerExpiry l) s = .next t ∧ (t.line l).health = some .silent ∧
      (t.line l).healthTimer = none ∧ t.latched (match l with | .a => .lineASilent | .b => .lineBSilent) = true ∧
      Submitted s t {
        kind := .link, time := s.time, subject := match l with | .a => 0 | .b => 1
        old := BitVec.ofNat 8 (((s.line l).health.map healthCode).getD 3), new := 2, extra1 := 1, extra2 := 255 } ∧
      (s.running = false ∨ (s.line l).health ≠ some .ok → ∀ m, m ≠ l → t.line m = s.line m) ∧
      UnchangedBut [.link, .reports, .signal] s t

/-- A change of content in RUN sets CHANGED on both lines, and nothing else sets it. After any command that left the content
other than it was, and after any that changed PHASE, an arm's state at an approach, or the number of lamps that are FAILED or
STUCK_ON at an approach or a channel, as its PHASE, ARM and LAMP reports show, also where the content has returned, each line
stands with CHANGED set and its slot full, or with its spacing timer running, or already sends the new content; and where CHANGED
is set and was clear, the content differs or such a report was submitted or lost (R30, R32 triggers 2 and 5, R100, R115, R147). So
it is where the red clearance timer's end takes an approach to HOLDING and a standing RAISE takes it back in one event (R104,
R111, R112), and where one flash half fails a warning lamp and proves another that was FAILED, so that LAMP_SUMMARY returns (R100,
R143). That the changes of one command are taken together at its end is the model's reading (log entry 15). Each control period
of a corner that is moving, or stands in RAISED or HELD with its brake released, fills both slots (R32 trigger 4); that its phase
after the work of the expiry counts is log entry 38. -/
def Obligations.ContentChangesAreSent : Prop :=
  let sent := fun (t : State) (l : LinkLine) =>
    ((t.line l).changed = true ∧ ((t.line l).slot ≠ .empty ∨ (t.line l).spacingTimer.isSome = true)) ∨
      ((t.line l).tx = .sending ∧ (t.line l).changed = false ∧ t.link.reference = some t.ownContent)
  let faulty := fun code : Byte => decide (code = 2 ∨ code = 3)
  let changes := fun (s : State) (r : Report) =>
    r.kind = .phase ∨ (s.straps.role = .approach ∧ r.kind = .arm ∧ r.old ≠ r.new) ∨
      ((s.straps.role = .approach ∨ s.straps.role = .channel) ∧ r.kind = .lamp ∧ r.subject.toNat < 16 ∧
        faulty r.old ≠ faulty r.new)
  (∀ (c : Instr) (s t : State), exec c s = .next t → s.running = true → t.running = true → ∀ l,
    (s.ownContent ≠ t.ownContent → sent t l) ∧
    (∀ new, t.port.reports = s.port.reports ++ new → (∃ r ∈ new, changes s r) → sent t l) ∧
    (s.ownContent = t.ownContent → (s.line l).changed = false → (t.line l).changed = true →
      ∃ new, t.port.reports = s.port.reports ++ new ∧
        ((∃ r ∈ new, r.kind ∈ [.phase, .arm, .lamp]) ∨ 32 ≤ t.port.reports.length))) ∧
  (∀ s : State, s.running = true → s.straps.role = .approach → s.closure.phase = some .tripped →
    s.signal.halfTimer.isSome = true → s.signal.half = .a → (s.lamp 4).mode = .flashA → (s.lamp 5).mode = .flashB →
    (s.lamp 4).window.isSome = true → (s.lamp 4).proving = .proven → (s.lamp 5).sensed = true →
    (s.lamp 5).proving = .failed → (∀ k, k ≠ 4 → k ≠ 5 → (s.lamp k).mode = .off ∨ (s.lamp k).mode = .steady) →
    ∃ t, exec .flashHalfExpiry s = .next t ∧ (t.lamp 4).proving = .failed ∧ (t.lamp 5).proving = .proven ∧
      t.ownContent = s.ownContent ∧ (∀ l, sent t l) ∧ UnchangedBut [.link, .reports, .signal] s t) ∧
  (∀ s : State, s.running = true → s.straps.role = .approach → s.closure.phase = some .redClearance →
    s.closure.redTimer.isSome = true → s.stopSignalOk = false → s.closure.holdPending = true → s.demandView = .raise →
    s.port.startInhibit = false → ∃ t, exec .redClearanceExpiry s = .next t ∧
      t.closure.phase = some .redClearance ∧ t.closure.holdPending = false ∧ t.closure.heldStage = none ∧
      t.latched .stopSignalFailed = true ∧ (∀ l, sent t l) ∧ UnchangedBut [.link, .reports, .signal, .closure] s t) ∧
  ∀ s : State, s.running = true → s.straps.role = .corner → s.motion.controlTimer.isSome = true →
    ∃ t, exec .controlPeriod s = .next t ∧
      (t.motion.phase ∈ [some .releasing, some .raising, some .lowering, some .halting] ∨
          (t.motion.phase ∈ [some .raised, some .held] ∧ t.motion.brake.out = true) →
        ∀ l, (t.line l).slot ≠ .empty) ∧
      UnchangedBut (.link :: roleBlocks) s t

/-! ### Field inputs and the emergency stop -/

/-- A raw change restarts the filter timer and counts a bounce; its expiry makes the last raw level the filtered state, ends the
count, and in RUN submits an INPUT report of a selected input. In CONFIG, where nothing has changed, and for the inputs FI17 to
FI23, which no role reads, it does nothing else (R134 to R137, R151). What the role blocks make of a change is stated in
`CornerInputsAct`, `ApproachInputsAct`, `ChannelClosesBehindVessels` and `DeskInputsAct`; that the INPUT report comes before
their reports is the model's choice (log entry 24). -/
def Obligations.InputsAreFiltered : Prop :=
  ∀ (i : Fin 25) (s : State),
    let x := s.inputLine i
    (exec (.inputRawChange i (!x.raw)) s = .next { s with inputs := s.inputs.set i {
      raw := !x.raw, filtered := x.filtered, filterTimer := some (s.config.item 34),
      bounce := min 255 (x.bounce + 1) } }) ∧
    exec (.inputRawChange i x.raw) s = .next s ∧
    (x.filterTimer.isSome = true →
      let inputs := s.inputs.set i { raw := x.raw, filtered := x.raw, filterTimer := none, bounce := 0 }
      (x.raw = x.filtered ∨ s.running = false →
        exec (.filterTimerExpiry i) s = .next { s with inputs := inputs }) ∧
      (s.running = true → x.raw ≠ x.filtered → ∃ t new, exec (.filterTimerExpiry i) s = .next t ∧ t.inputs = inputs ∧
        UnchangedBut ([.inputs, .link] ++ roleBlocks) s t ∧ t.port.reports = s.port.reports ++ new ∧
        ((s.config.item 39).testBit i.val = true →
          (s.port.reports.length < 32 → new.head? = some {
            kind := .input, time := s.time, subject := BitVec.ofNat 8 i.val
            old := if x.filtered then 1 else 0, new := if x.raw then 1 else 0
            extra1 := BitVec.ofNat 8 x.bounce, extra2 := BitVec.ofNat 8 s.phaseCode }) ∧
          (32 ≤ s.port.reports.length → t.latched .reportLost = true)) ∧
        (∀ r ∈ new, r.kind = .input → (s.config.item 39).testBit i.val = true) ∧
        (17 ≤ i.val → i.val ≤ 23 →
          UnchangedBut [.inputs, .reports] s t ∧ ((s.config.item 39).testBit i.val = false → t.port = s.port))))

/-- The ESTOP filter: a raw change restarts its 2 ms; its expiry makes the last raw level the filtered state, and a change to
active trips every role in RUN (R180 to R182). -/
def Obligations.EmergencyStopTrips : Prop :=
  ∀ s : State,
    (exec (.estopRawChange (!s.trip.estopRaw)) s =
      .next { s with trip := { s.trip with estopRaw := !s.trip.estopRaw, estopTimer := some 2 } }) ∧
    exec (.estopRawChange s.trip.estopRaw) s = .next s ∧
    (s.trip.estopTimer.isSome = true →
      (s.trip.estopRaw = false ∨ s.trip.estopFiltered = true ∨ s.running = false →
        ∃ t, exec .estopEvent s = .next t ∧
          t.trip = { s.trip with estopTimer := none, estopFiltered := s.trip.estopRaw } ∧
          UnchangedBut [.trip, .link] s t) ∧
      (s.running = true → s.trip.estopRaw = true → s.trip.estopFiltered = false → s.trip.flag = false →
        ∃ t, exec .estopEvent s = .next t ∧
          t.trip = { s.trip with estopTimer := none, estopFiltered := true, flag := true, causes := [.estop] } ∧
          t.latched .trip = true ∧
          t.phaseCode = (match s.straps.role with
            | .corner => 13
            | .approach => 9
            | .channel => 4
            | .desk => 2) ∧
          UnchangedBut (.link :: roleBlocks) s t))

/-- The first cause submitted in RUN trips the station and forces its role's outputs safe; a later cause is appended, absorbed
or marked by MORE as R182's table says, and changes no phase (R182, R184). -/
def Obligations.CausesAreTakenAndOutputsForced : Prop :=
  ∀ (c : Cause) (s : State), s.running = true →
    let t := submitCause c s
    (s.trip.flag = false →
      t.trip = { s.trip with flag := true, causes := [c] } ∧ t.latched .trip = true ∧
      (s.straps.role = .corner →
        t.motion.phase = some .tripped ∧ t.motion.output.vOut = 0 ∧ t.motion.output.up = false ∧
        t.motion.output.down = false ∧ t.motion.output.duty = 0 ∧ t.motion.brake.out = false ∧
        t.motion.bolt = s.motion.bolt) ∧
      (s.straps.role = .approach →
        t.closure.phase = some .tripped ∧ (∀ i, (t.arm i).up = false ∧ (t.arm i).down = false) ∧
        (t.lamp 0).mode = .steady ∧ (t.lamp 1).mode = .steady ∧ (t.lamp 2).mode = .off ∧ (t.lamp 3).mode = .off ∧
        (t.lamp 4).mode = .flashA ∧ (t.lamp 5).mode = .flashB ∧ (t.sounder 0).steady = false) ∧
      (s.straps.role = .channel →
        t.channel.phase = some .tripped ∧ t.aspect = 0 ∧ t.channelClosed = false ∧
        (t.lamp 0).mode = .steady ∧ (t.lamp 1).mode = .steady ∧ (t.lamp 2).mode = .off ∧ (t.lamp 3).mode = .off ∧
        (t.lamp 4).mode = .off) ∧
      (s.straps.role = .desk → t.desk.phase = some .tripped ∧ t.publishedDemand = .halt ∧ t.publishedGoal = 0)) ∧
    (s.trip.flag = true → c ∈ s.trip.causes → t = s) ∧
    (s.trip.flag = true → c ∉ s.trip.causes → s.trip.causes.length < 4 →
      t.trip = { s.trip with causes := s.trip.causes ++ [c] } ∧ UnchangedBut [.trip, .reports] s t) ∧
    (s.trip.flag = true → c ∉ s.trip.causes → 4 ≤ s.trip.causes.length → s.trip.more = false →
      t.trip = { s.trip with more := true } ∧ UnchangedBut [.trip, .reports] s t) ∧
    (s.trip.flag = true → c ∉ s.trip.causes → 4 ≤ s.trip.causes.length → s.trip.more = true → t = s)

/-! ### Views -/

/-- The DEMAND view over the counted desks: any HALT, or RAISE and LOWER together, gives HALT; then RAISE, then LOWER, else NONE.
A counted desk is a FRESH, digest-agreeing desk entry with its enable key on, or self by its published demand (R17). -/
def Obligations.DemandViewCombinesTheDesks : Prop :=
  ∀ s : State,
    let counted := fun (j : Fin 12) (demand : Byte) =>
      if j.val = s.straps.number.val then
        s.straps.role = .desk ∧ s.filtered 4 = true ∧ demand = BitVec.ofNat 8 (demandCode s.publishedDemand)
      else ∃ e h goal clearCount ceiling cause, s.peer j = some e ∧ e.freshness = .fresh ∧ e.heard = some h ∧
        h.digestOk = true ∧ h.content.payload = .desk demand goal clearCount true ceiling cause
    let shows := fun demand : Byte => ∃ j, counted j demand
    (shows 3 → s.demandView = .halt) ∧
    (shows 1 → shows 2 → s.demandView = .halt) ∧
    (¬shows 3 → shows 1 → ¬shows 2 → s.demandView = .raise) ∧
    (¬shows 3 → ¬shows 1 → shows 2 → s.demandView = .lower) ∧
    (¬shows 3 → ¬shows 1 → ¬shows 2 → s.demandView = .none)

/-- The views of R18 to R20 over what R16 counts, which is self by its own content and every other station by its FRESH,
digest-agreeing entry: each is true, or has its value, exactly where every rostered station of its role, or some one, shows what
its rule says. -/
def Obligations.ViewsCombineTheRecords : Prop :=
  ∀ s : State,
    let counts := fun (j : Fin 12) (c : Content) =>
      if j.val = s.straps.number.val then c = s.ownContent
      else ∃ e h, s.peer j = some e ∧ e.freshness = .fresh ∧ e.heard = some h ∧ h.digestOk = true ∧ c = h.content
    let every := fun (r : Role) (shows : Content → Prop) => ∀ j, s.rosterRole j = some r → ∃ c, counts j c ∧ shows c
    let asks := fun goal : BitVec 16 => ∃ j c clearCount ceiling cause, counts j c ∧
      c.payload = .desk 1 goal clearCount true ceiling cause
    (s.demandView ≠ .raise → s.effectiveGoal = none) ∧
    (s.demandView = .raise → (∀ g, asks g → g = 0) → s.effectiveGoal = some 0) ∧
    (s.demandView = .raise → ∀ g, asks g → g ≠ 0 → (∀ g', asks g' → g' ≠ 0 → g.toNat ≤ g'.toNat) →
      s.effectiveGoal = some g.toNat) ∧
    (s.approachesClosed = true ↔ every .approach fun c => c.phase = 6 ∧ ∃ a0 a1 a2 a3 loops deck stop held lamps cause,
      c.payload = .approach a0 a1 a2 a3 loops deck true stop held lamps cause) ∧
    (s.channelsClosed = true ↔ every .channel fun c => ∃ aspect present alert stop lamps cause,
      c.payload = .channel aspect present alert true stop lamps cause) ∧
    (s.cornersReady = true ↔ every .corner fun c => c.tripped = false ∧ c.startInhibit = false ∧
      ∃ position speed goal intent bolt brake seat cause, position ≠ 0x8000#16 ∧
        c.payload = .corner position speed goal intent bolt brake seat cause) ∧
    (s.spanSeatedLocked = true ↔ every .corner fun c => c.phase = 4 ∧
      ∃ position speed goal intent bolt brake seat cause,
        c.payload = .corner position speed goal intent bolt brake seat cause) ∧
    (s.spanClear = true ↔ every .corner fun c => c.phase = 9 ∧
      ∃ position speed goal intent bolt brake seat cause, (s.config.item 5 : Int) ≤ position.toInt ∧
        c.payload = .corner position speed goal intent bolt brake seat cause) ∧
    (s.vesselAlertAny = true ↔ ∃ j c aspect present closed stop lamps cause, counts j c ∧
      c.payload = .channel aspect present true closed stop lamps cause)

/-! ### The corner -/

/-- The encoder: each of the eight legal edges counts one up or down, an unchanged sample counts nothing, and an illegal
transition at a corner submits ENCODER in RUN, which trips it or joins the record, and clears the referenced flag in CONFIG (R42,
R43, R45, R46, R182). That a station of another role counts too, and takes an illegal transition without harm, is the model's
choice (log entry 25): R152 gives those pins no function there. -/
def Obligations.EncoderCountsItsEdges : Prop :=
  ∀ s : State,
    let e := s.motion.encoder
    let edge := fun (a b a' b' : Bool) (d : BitVec 32) => e.a = a → e.b = b →
      exec (.encoderTransition a' b') s =
        .next { s with motion := { s.motion with encoder := { e with a := a', b := b', count := e.count + d } } }
    let illegal := fun a' b' : Bool => a' ≠ e.a ∧ b' ≠ e.b
    (edge false false true false 1#32 ∧ edge true false true true 1#32 ∧ edge true true false true 1#32 ∧
      edge false true false false 1#32) ∧
    (edge true false false false (-1) ∧ edge true true true false (-1) ∧ edge false true true true (-1) ∧
      edge false false false true (-1)) ∧
    exec (.encoderTransition e.a e.b) s = .next s ∧
    (∀ a' b', illegal a' b' →
      (s.straps.role ≠ .corner → exec (.encoderTransition a' b') s =
        .next { s with motion := { s.motion with encoder := { e with a := a', b := b' } } }) ∧
      (s.straps.role = .corner → s.running = false → exec (.encoderTransition a' b') s =
        .next { s with motion := { s.motion with
          position := -32768, encoder := { e with a := a', b := b', referenced := false } } }) ∧
      (s.straps.role = .corner → s.running = true → s.trip.flag = false →
        ∃ t, exec (.encoderTransition a' b') s = .next t ∧ t.trip.flag = true ∧ t.trip.causes = [.encoder] ∧
          t.motion.phase = some .tripped ∧ t.motion.encoder = { e with a := a', b := b' } ∧
          UnchangedBut [.link, .reports, .trip, .motion] s t) ∧
      (s.straps.role = .corner → s.running = true → s.trip.flag = true →
        ∃ t, exec (.encoderTransition a' b') s = .next t ∧
        t.motion = { s.motion with encoder := { e with a := a', b := b' } } ∧
        (.encoder ∈ s.trip.causes → t.trip = s.trip) ∧
        (.encoder ∉ s.trip.causes → s.trip.causes.length < 4 →
          t.trip = { s.trip with causes := s.trip.causes ++ [.encoder] }) ∧
        (.encoder ∉ s.trip.causes → 4 ≤ s.trip.causes.length → t.trip = { s.trip with more := true }) ∧
        UnchangedBut [.link, .reports, .trip, .motion] s t))

/-- Each control period at a corner in RUN restarts its timer and renews P from the count and POSITION from P; only a corner that
halts on its seat and goes on to LOWERING in the same expiry arrives there at once, with count and P at 0 (R44, R45, R47, R48).
UP and DOWN are asserted only on V_OUT's side of 0 (R60, R61). It supervises: too far a travel trips OVERSPEED (R63), a P beyond
the margins OVERTRAVEL (R65), a lowering corner below the tolerance without its seat SEAT_MISMATCH (R47), and a spread of the
positions above the limit in force SKEW (R59); the stall window restarts below creep speed or after 3 mm, and stands otherwise,
with a creep speed above 0, as R204's ranges give it (R64; `LinesAndQueuesStayLegal`). That POSITION as last set is the own
position of the skew is log entry 17; that the seat test adds nothing to an OVERSPEED or OVERTRAVEL of the same expiry is log
entry 28. -/
def Obligations.ControlPeriodSupervises : Prop :=
  ∀ s : State, s.running = true → s.straps.role = .corner → s.motion.controlTimer.isSome = true →
    let millimetres := fun count : Int => (count * 1000).tdiv (s.config.item 3)
    let p := millimetres s.motion.encoder.count.toInt
    let travel := p - millimetres s.motion.encoder.sampled
    let fast := ((s.config.item 9 : Int) * 5).tdiv 4 < travel.natAbs * 10
    let beyond := s.motion.encoder.referenced = true ∧ s.filtered 24 = false ∧
      ((s.config.item 4 : Int) + s.config.item 8 < p ∨ p < -(s.config.item 8 : Int))
    let unseated := s.motion.phase = some .lowering ∧ s.filtered 0 = false ∧ p ≤ -(s.config.item 7 : Int)
    let moving := s.motion.phase ∈ [some .releasing, some .raising, some .lowering, some .halting]
    let skewed := ((if s.filtered 24 then max (s.config.item 17) (s.config.item 16) else s.config.item 16 : Nat) : Int) <
      s.skewNow
    let creep := min (s.config.item 12) (min (s.config.item 10) (s.config.item 9))
    let formed := fun t : State => t.motion.pos = p ∧
      t.motion.encoder = { s.motion.encoder with sampled := s.motion.encoder.count.toInt } ∧
      t.motion.position = if s.motion.encoder.referenced then max (-1000) (min 30000 p) else -32768
    let captured := fun t : State => (p.natAbs : Int) ≤ s.config.item 7 ∧ t.motion.pos = 0 ∧
      t.motion.encoder = { s.motion.encoder with count := 0, sampled := 0 } ∧
      t.motion.position = if s.motion.encoder.referenced then 0 else -32768
    ∃ t, exec .controlPeriod s = .next t ∧ t.motion.controlTimer = some 100 ∧
      (s.filtered 0 = false ∨ t.motion.phase = s.motion.phase → formed t) ∧ (formed t ∨ captured t) ∧
      -(s.config.item 9 : Int) ≤ t.motion.output.vOut ∧ t.motion.output.vOut ≤ s.config.item 9 ∧
      (t.motion.output.up = true → 0 < t.motion.output.vOut) ∧
      (t.motion.output.down = true → t.motion.output.vOut < 0) ∧
      t.motion.output.duty = (if (0 < t.motion.output.vOut ∧ t.motion.output.upBlocked = true) ∨
          (t.motion.output.vOut < 0 ∧ t.motion.output.downBlocked = true) then 0
        else min 1000 (t.motion.output.vOut.natAbs * 1000 / s.config.item 9)) ∧
      (s.trip.flag = false →
        (fast → t.trip.causes.head? = some .overspeed) ∧
        (¬fast → beyond → t.trip.causes = [.overtravel]) ∧
        (¬fast → ¬beyond → unseated → t.trip.causes = [.seatMismatch]) ∧
        (¬fast → ¬beyond → ¬unseated → moving → skewed → t.trip.causes = [.skew]) ∧
        (fast ∨ beyond ∨ unseated ∨ (moving ∧ skewed) → t.trip.flag = true ∧ t.motion.phase = some .tripped)) ∧
      (moving ∨ s.motion.phase = some .homing → t.motion.phase = s.motion.phase → ∀ start,
        s.motion.stall.start = some start →
        (t.motion.output.vOut.natAbs < creep ∨ 3 ≤ (p - start).natAbs →
          t.motion.stall = { timer := some (1000 * s.config.item 22), start := some p }) ∧
        (0 < creep → creep ≤ t.motion.output.vOut.natAbs → (p - start).natAbs < 3 → t.motion.stall = s.motion.stall)) ∧
      UnchangedBut (.link :: roleBlocks) s t

/-- The profile at an expiry of the control period that leaves the corner in its phase. In RAISING and LOWERING it runs toward the
goal G: a wrong direction is braked off first (R51), the stopping distance or a latched BRAKING brings it to creep speed, and it
speeds up to the top speed in use otherwise (R50, R52, R53); near the seat it creeps on (R54); HALTING slows to 0 and stops in
HELD; HOMING creeps down within its limit (R54, R91); within the deadband at creep speed a raising corner has arrived (R53). A
blocked direction holds V at 0 (R56). V_OUT is V with the levelling correction, clamped on V's side of 0 (R57, R58). That the
own POSITION of levelling is the one last set is log entry 17, and BRAKING at a change of direction log entry 18. -/
def Obligations.ProfileDrivesTheSpan : Prop :=
  ∀ s : State, s.running = true → s.straps.role = .corner → s.motion.controlTimer.isSome = true → s.trip.flag = false →
    0 < s.config.item 11 →
    let p := (s.motion.encoder.count.toInt * 1000).tdiv (s.config.item 3)
    let a : Int := s.config.item 11
    let top : Int := min (s.config.item 10) (s.config.item 9)
    let creep : Int := min (s.config.item 12 : Int) top
    let v := s.motion.profile.vPrev
    let slower := if 0 < v then max 0 (v - a) else min 0 (v + a)
    let held := fun w : Int =>
      if (0 < w ∧ s.motion.output.upBlocked = true) ∨ (w < 0 ∧ s.motion.output.downBlocked = true) then 0 else w
    let steps := fun (g : Int) (limit : Int) (t : State) =>
      let r := g - p
      let dir := if 0 < r then some Dir.up else if r < 0 then some Dir.down else s.motion.profile.dir
      let kept := s.motion.profile.braking = true ∧ s.motion.profile.goal = some g ∧ s.motion.profile.dir = dir
      let sign : Int := if 0 < r then 1 else -1
      let u : Int := v.natAbs
      (s.config.item 13 < r.natAbs → v * sign < 0 → t.motion.profile.vPrev = held slower) ∧
      (s.config.item 13 < r.natAbs → 0 ≤ v * sign →
        ((kept ∨ (r.natAbs - 1) * (20 * a) < u * (u + a)) → t.motion.profile.braking = true ∧
          t.motion.profile.vPrev = held (sign * if creep ≤ u then max (u - a) creep else min (u + a) creep)) ∧
        (¬kept → u * (u + a) ≤ (r.natAbs - 1) * (20 * a) → t.motion.profile.braking = false ∧
          t.motion.profile.vPrev = held (sign * if u < limit then min (u + a) limit else max (u - a) limit)))
    ∃ t, exec .controlPeriod s = .next t ∧
      (s.motion.phase = some .raising → ∀ g : Nat,
        g = s.raisingGoals.foldl min (min (s.motion.workingGoal.getD s.motion.goal) s.motion.goal) →
        (t.motion.phase = some .raising → t.motion.workingGoal = some g ∧ steps g top t ∧
          ((g - p : Int).natAbs ≤ s.config.item 13 → creep < v.natAbs ∧ t.motion.profile.vPrev = held slower)) ∧
        (t.motion.phase = some .raised → (g - p : Int).natAbs ≤ s.config.item 13 ∧ v.natAbs ≤ creep)) ∧
      (s.motion.phase = some .lowering → t.motion.phase = some .lowering →
        (p ≤ s.config.item 13 →
          let u := if v ≤ 0 then -v else 0
          t.motion.profile.vPrev = held (if creep < u then -(max (u - a) creep) else -(min (u + a) creep))) ∧
        ((s.config.item 13 : Int) < p → steps 0 (if p ≤ s.config.item 6 then creep else top) t)) ∧
      (s.motion.phase = some .halting →
        (t.motion.phase = some .halting → t.motion.profile.vPrev = held slower) ∧
        (t.motion.phase = some .held → held slower = 0)) ∧
      (s.motion.phase = some .homing → ∀ start, s.motion.homingStart = some start →
        (t.motion.phase = some .homing → start - p ≤ s.config.item 23 ∧ t.motion.profile.vPrev =
          held (if s.motion.brake.settled then -(min (v.natAbs + a) creep) else 0) ∧
          t.motion.output.vOut = t.motion.profile.vPrev) ∧
        (t.motion.phase = some .unreferenced → t.latched .homingFailed = true)) ∧
      (t.motion.phase ∈ [some .raising, some .lowering, some .halting] →
        let own := s.motion.position
        let mean := (own + s.levellingPeers.sum).fdiv (1 + s.levellingPeers.length)
        let c := max (-(s.config.item 15 : Int)) (min (s.config.item 15) (((mean - own) * s.config.item 14).tdiv 8))
        let w := t.motion.profile.vPrev
        t.motion.correction = c ∧ t.motion.output.vOut =
          if 0 < w then max 0 (min (s.config.item 9 : Int) (w + c))
          else if w < 0 then max (-(s.config.item 9 : Int)) (min 0 (w + c)) else 0) ∧
      (∀ q, q ∈ s.levellingPeers ↔ ∃ j e h position speed goal intent bolt brake seat cause,
        s.rosterRole j = some .corner ∧ j.val ≠ s.straps.number.val ∧ s.peer j = some e ∧ e.freshness = .fresh ∧
        e.heard = some h ∧ h.digestOk = true ∧ h.content.tripped = false ∧
        h.content.payload = .corner position speed goal intent bolt brake seat cause ∧ position ≠ 0x8000#16 ∧
        q = position.toInt) ∧
      UnchangedBut (.link :: roleBlocks) s t

/-- The dead time unblocks both directions; the stall timer trips STALL; the bolt travel timer faults a bolt in travel and
submits BOLT (R61, R64, R71). -/
def Obligations.DriveTimersExpire : Prop :=
  ∀ s : State,
    (s.motion.output.deadTimer.isSome = true → exec .deadTimeExpiry s = .next { s with motion := { s.motion with
      output := { s.motion.output with deadTimer := none, upBlocked := false, downBlocked := false } } }) ∧
    (s.running = true → s.straps.role = .corner → s.trip.flag = false → s.motion.stall.timer.isSome = true →
      ∃ t, exec .stallTimerExpiry s = .next t ∧ t.trip.causes = [.stall] ∧ t.motion.phase = some .tripped ∧
        t.motion.output.vOut = 0 ∧ t.motion.brake.out = false ∧ t.motion.stall.timer = none ∧
        UnchangedBut [.link, .reports, .trip, .motion] s t) ∧
    (s.running = true → s.straps.role = .corner → s.motion.bolt.travelTimer.isSome = true →
      s.motion.bolt.state = .driving ∨ s.motion.bolt.state = .withdrawing →
      ∃ t, exec .boltTravelTimeout s = .next t ∧
        t.motion.bolt = { state := .fault, driveOut := false, withdrawOut := false, travelTimer := none } ∧
        t.trip.flag = true ∧ (s.trip.flag = false → t.trip.causes = [.bolt]) ∧
        UnchangedBut [.link, .reports, .trip, .motion] s t)

/-- The brake timer settles a released brake. It takes a corner released up with its partners in order to RAISING, one released
down to LOWERING under the lowering permission and to HELD with its brake set without it, leaves a homing corner homing, and
trips BRAKE where the feedback is missing. The set-check timer trips BRAKE where the feedback still shows released; the hold
timer sets the brake (R74, R80 to R82, R91). That a releasing corner's bolt is WITHDRAWN, as the clause on HELD asks, is kept by
every step (`CornerStaysSafeAtRest`). -/
def Obligations.BrakeTimersExpire : Prop :=
  ∀ s : State, s.running = true → s.straps.role = .corner →
    let settled := fun t : State =>
      t.motion.brake.settled = true ∧ t.motion.brake.brakeTimer = none ∧ t.motion.brake.out = s.motion.brake.out
    let lowering := s.demandView = .lower ∧ s.channelsClosed = true ∧ s.motion.bolt.state = .withdrawn ∧
      ¬(s.vesselAlertAny = true ∧ (s.config.item 5 : Int) ≤ s.motion.pos) ∧
      ∀ j, s.rosterRole j = some .corner → j.val ≠ s.straps.number.val →
        ∃ e h, s.peer j = some e ∧ e.freshness = .fresh ∧ e.heard = some h ∧ h.digestOk = true ∧ h.content.tripped = false
    let trips := fun t : State => exec .brakeTimerExpiry s = .next t ∧ t.trip.causes = [.brake] ∧
      t.motion.phase = some .tripped ∧ t.motion.brake.out = false ∧ UnchangedBut [.link, .reports, .trip, .motion] s t
    (s.motion.brake.brakeTimer.isSome = true → s.motion.phase = some .releasing →
      (s.brakeFeedback = false → s.trip.flag = false → ∃ t, trips t) ∧
      (s.brakeFeedback = true → s.motion.intent = .up → s.demandView = .raise → s.someCornerTripped = false →
        s.someCornerSilent = false → s.leftBehindFound = false → ∃ t, exec .brakeTimerExpiry s = .next t ∧
          t.motion.phase = some .raising ∧ settled t ∧ t.motion.intent = .up ∧ t.motion.goal = s.motion.goal ∧
          t.motion.workingGoal = some (s.raisingGoals.foldl min s.motion.goal) ∧
          UnchangedBut [.link, .reports, .motion] s t) ∧
      (s.brakeFeedback = true → s.motion.intent = .down → lowering → s.someCornerTripped = false →
        s.someCornerSilent = false → s.filtered 0 = false → ∃ t, exec .brakeTimerExpiry s = .next t ∧
          t.motion.phase = some .lowering ∧ settled t ∧ t.motion.intent = .down ∧ t.motion.goal = 0 ∧
          UnchangedBut [.link, .reports, .motion] s t) ∧
      (s.brakeFeedback = true → s.motion.intent = .down → ¬lowering → s.demandView ≠ .raise →
        s.motion.bolt.state = .withdrawn → s.motion.brake.out = true → ∃ t, exec .brakeTimerExpiry s = .next t ∧
          t.motion.phase = some .held ∧ t.motion.brake.out = false ∧ t.motion.intent = .none ∧
          t.motion.brake.setCheckTimer = some (s.config.item 18) ∧ UnchangedBut [.link, .reports, .motion] s t)) ∧
    (s.motion.brake.brakeTimer.isSome = true → s.motion.phase = some .homing →
      (s.brakeFeedback = false → s.trip.flag = false → ∃ t, trips t) ∧
      (s.brakeFeedback = true → ∃ t, exec .brakeTimerExpiry s = .next t ∧ t.motion = { s.motion with
        brake := { s.motion.brake with brakeTimer := none, settled := true } } ∧ UnchangedBut [.motion] s t)) ∧
    (s.motion.brake.setCheckTimer.isSome = true →
      (s.brakeFeedback = false → exec .setCheckExpiry s = .next { s with motion := { s.motion with
        brake := { s.motion.brake with setCheckTimer := none } } }) ∧
      (s.brakeFeedback = true → s.trip.flag = false → ∃ t, exec .setCheckExpiry s = .next t ∧
        t.trip.causes = [.brake] ∧ t.motion.phase = some .tripped ∧
        UnchangedBut [.link, .reports, .trip, .motion] s t)) ∧
    (s.motion.holdTimer.isSome = true → s.motion.brake.out = true → ∃ t, exec .holdTimerExpiry s = .next t ∧
      t.motion = { s.motion with holdTimer := none, brake := {
        out := false, settled := false, brakeTimer := none, setCheckTimer := some (s.config.item 18) } } ∧
      UnchangedBut [.link, .motion] s t)

/-- What a corner makes of a filtered change of FI0 to FI4. The seat forms P: in LOWERING it is arrival within the tolerance and
SEAT_MISMATCH beyond it, in HOMING it completes the homing (R47, R87, R91), and the drive output of a driving bolt follows the
drive condition (R72). The bolt's pattern ends a travel, faults a bolt that leaves its limit or shows both limits, and takes
LOCKING to SEATED_LOCKED (R71, R77). The brake feedback against the output trips BRAKE (R80), the drive fault DRIVE_FAULT (R66).
The hypotheses on DEMAND keep the phase entered from passing on. -/
def Obligations.CornerInputsAct : Prop :=
  ∀ (i : Fin 25) (level : Bool) (s : State), FilteredChange i level s → s.straps.role = .corner → s.trip.flag = false →
    let p := (s.motion.encoder.count.toInt * 1000).tdiv (s.config.item 3)
    let near := (p.natAbs : Int) ≤ s.config.item 7
    let bolt := s.motion.bolt.state
    let aside := fun t : State => UnchangedBut [.inputs, .link, .reports, .trip, .motion] s t
    let trips := fun (t : State) (c : Cause) =>
      t.trip.causes = [c] ∧ t.motion.phase = some .tripped ∧ t.motion.output.vOut = 0 ∧ t.motion.brake.out = false
    ∃ t, exec (.filterTimerExpiry i) s = .next t ∧ TakesLevel i level s t ∧ aside t ∧
      (i = 0 → level = true → s.motion.phase = some .lowering →
        (near → s.demandView ≠ .raise → bolt = .withdrawn →
          t.motion.phase = some .locking ∧ t.motion.encoder.count = 0 ∧ t.motion.pos = 0 ∧
          t.motion.position = (if s.motion.encoder.referenced then 0 else -32768) ∧
          t.motion.bolt.state = .driving ∧ t.motion.bolt.driveOut = true ∧ t.motion.brake.out = false) ∧
        (¬near → trips t .seatMismatch)) ∧
      (i = 0 → level = true → s.motion.phase = some .homing → s.demandView ≠ .raise → bolt = .withdrawn →
        t.motion.phase = some .locking ∧ t.motion.encoder.count = 0 ∧ t.motion.encoder.referenced = true ∧
        t.motion.position = 0 ∧ t.motion.bolt.state = .driving ∧ t.motion.brake.out = false) ∧
      (i = 0 → s.motion.phase ≠ some .lowering → s.motion.phase ≠ some .homing → t.motion = { s.motion with
        pos := p, bolt := { s.motion.bolt with
          driveOut := if bolt = .driving then level && decide near else s.motion.bolt.driveOut } }) ∧
      ((i = 1 ∨ i = 2) →
        let faults := trips t .bolt ∧
          t.motion.bolt = { state := .fault, driveOut := false, withdrawOut := false, travelTimer := none }
        (t.filtered 1 = true → t.filtered 2 = true → faults) ∧
        (t.filtered 1 = false → bolt = .withdrawn → faults) ∧ (t.filtered 2 = false → bolt = .driven → faults) ∧
        (t.filtered 1 = false → t.filtered 2 = true → bolt = .driving → s.motion.phase = some .locking →
          s.unlockPermission = false → t.motion.phase = some .seatedLocked ∧
          t.motion.bolt = { state := .driven, driveOut := false, withdrawOut := false, travelTimer := none }) ∧
        (t.filtered 1 = true → t.filtered 2 = false → bolt = .withdrawing →
          s.motion.phase = some .held ∨ s.motion.phase = some .unreferenced → s.demandView ≠ .raise →
          s.demandView ≠ .lower →
          t.motion.bolt = { state := .withdrawn, driveOut := false, withdrawOut := false, travelTimer := none } ∧
          t.motion.phase = s.motion.phase)) ∧
      (i = 3 →
        (level = true → s.motion.brake.out = false → s.motion.brake.setCheckTimer = none → trips t .brake) ∧
        (level = false → s.motion.brake.out = true → s.motion.brake.settled = true → trips t .brake) ∧
        (level = true → s.motion.brake.out = true ∨ s.motion.brake.setCheckTimer.isSome = true → t.motion = s.motion) ∧
        (level = false → s.motion.brake.out = false ∨ s.motion.brake.settled = false → t.motion = s.motion)) ∧
      (i = 4 → (level = true → trips t .driveFault) ∧ (level = false → t.motion = s.motion))

/-- How a corner moves when the conditions of its phase are tested, here at a change of MAINT, a filtered input of the corner
sequence (R68, R151). SEATED, LOCKING, SEATED_LOCKED, UNLOCKING and UNLOCKED pass by the DEMAND view, the unlock permission and
the bolt (R73, R76, R77), and UNLOCKED to RELEASING with the other corners, with the goal captured (R78, R79). RELEASING is
abandoned where its demand ends, for SEATED on the seat and HELD off it (R81). RAISING halts where the demand ends or LEFT_BEHIND
is found (R84, R85), LOWERING where the demand ends or an alert stands high (R87); HALTING tests nothing (R88). RAISED and HELD
are left under the lowering permission, HELD under the raising permission, through RELEASING with the brake set and at once with
it released (R74, R75, R86, R89); that the brake is released when its output is asserted, settled or not, is the model's reading
(log entry 20). HOMING fails without MAINT and under a demand of RAISE or LOWER (R91). The hypotheses of the movements keep the
tests on entry (R59, R92, R94; log entry 22) quiet. -/
def Obligations.CornerMovesUnderItsPermissions : Prop :=
  ∀ (maint : Bool) (s : State), FilteredChange 24 maint s → s.straps.role = .corner → s.trip.flag = false →
    let m := s.motion
    let bolt := m.bolt.state
    let high := s.vesselAlertAny = true ∧ (s.config.item 5 : Int) ≤ m.pos
    let others := fun test : Content → Prop => ∀ j, s.rosterRole j = some .corner → j.val ≠ s.straps.number.val →
      ∃ e h, s.peer j = some e ∧ e.freshness = .fresh ∧ e.heard = some h ∧ h.digestOk = true ∧ test h.content
    let unlock := s.demandView = .raise ∧ s.approachesClosed = true ∧ s.cornersReady = true ∧ m.position ≠ -32768 ∧
      s.port.startInhibit = false
    let lower := s.demandView = .lower ∧ s.channelsClosed = true ∧ bolt = .withdrawn ∧ ¬high ∧
      others fun c => c.tripped = false
    let raise := s.demandView = .raise ∧ s.cornersReady = true ∧ s.port.startInhibit = false ∧ bolt = .withdrawn ∧
      m.leftBehind = false
    let behind := (s.config.item 7 : Int) < m.pos ∧ ∃ j e h, s.rosterRole j = some .corner ∧
      j.val ≠ s.straps.number.val ∧ s.peer j = some e ∧ e.heard = some h ∧ (h.content.phase = 3 ∨ h.content.phase = 4)
    let calm := s.someCornerTripped = false ∧ s.someCornerSilent = false ∧ s.skewNow ≤ s.config.item 16
    let ceiling := if s.ceilingReduced then max (s.config.item 24) (s.config.item 5) else s.config.item 4
    let wanted := match s.effectiveGoal with
      | none => s.config.item 4
      | some g => if g = 0 then s.config.item 4 else g
    let goal := max (s.config.item 5) (min ceiling wanted)
    ∃ t, exec (.filterTimerExpiry 24) s = .next t ∧ TakesLevel 24 maint s t ∧
      UnchangedBut [.inputs, .link, .reports, .trip, .motion] s t ∧
      (s.demandView ≠ .raise → t.motion.leftBehind = false) ∧
      let stays := t.motion = { m with leftBehind := decide (s.demandView = .raise) && m.leftBehind } ∧ t.trip = s.trip
      let releases := fun intent : Intent => t.motion.phase = some .releasing ∧ t.motion.intent = intent ∧
        t.motion.brake.out = true ∧ t.motion.brake.brakeTimer.isSome = true ∧ t.motion.profile.vPrev = 0 ∧
        t.motion.goal = if intent = .up then goal else 0
      (m.phase = some .seated →
        (s.demandView ≠ .raise → bolt ∈ [.withdrawn, .withdrawing, .driving] →
          t.motion.phase = some .locking ∧ t.motion.bolt.state = .driving) ∧
        (s.demandView ≠ .raise → bolt = .driven → t.motion.phase = some .seatedLocked ∧ t.motion.bolt = m.bolt) ∧
        (unlock → bolt ∈ [.driven, .driving] →
          t.motion.phase = some .unlocking ∧ t.motion.bolt.state = .withdrawing ∧ t.motion.bolt.withdrawOut = true) ∧
        (unlock → bolt = .withdrawn → ¬(others fun c => c.phase ∈ [6, 7, 8]) → t.motion.phase = some .unlocked) ∧
        (s.demandView = .raise → ¬unlock → stays)) ∧
      (m.phase = some .locking →
        (bolt = .driven → ¬unlock → t.motion.phase = some .seatedLocked) ∧
        (bolt = .driven → unlock → t.motion.phase = some .unlocking ∧ t.motion.bolt.state = .withdrawing) ∧
        (bolt ≠ .driven → stays)) ∧
      (m.phase = some .seatedLocked →
        (unlock → bolt = .driven → t.motion.phase = some .unlocking ∧ t.motion.bolt.state = .withdrawing) ∧
        (¬unlock → stays)) ∧
      (m.phase = some .unlocking →
        (¬unlock → bolt = .withdrawing → t.motion.phase = some .locking ∧ t.motion.bolt.state = .driving) ∧
        (unlock → bolt = .withdrawn → ¬(others fun c => c.phase ∈ [6, 7, 8]) → t.motion.phase = some .unlocked) ∧
        (unlock → bolt ≠ .withdrawn → stays)) ∧
      (m.phase = some .unlocked →
        (¬unlock → bolt = .withdrawn → t.motion.phase = some .locking ∧ t.motion.bolt.state = .driving) ∧
        (unlock → ¬(others fun c => c.phase ∈ [6, 7, 8]) → stays) ∧
        (unlock → (others fun c => c.phase ∈ [6, 7, 8]) → calm → m.brake.out = false → releases .up)) ∧
      (m.phase = some .releasing → m.intent = .up →
        (s.demandView = .none ∨ s.demandView = .halt → s.onSeat = false →
          t.motion.phase = some .held ∧ t.motion.brake.out = false) ∧
        (s.demandView ≠ .raise → s.onSeat = true → bolt = .withdrawn →
          t.motion.phase = some .locking ∧ t.motion.brake.out = false) ∧
        (s.demandView = .raise → behind → calm →
          t.motion.phase = some .halting ∧ t.motion.leftBehind = true ∧ t.latched .leftBehind = true) ∧
        (s.demandView = .raise → ¬behind → stays)) ∧
      (m.phase = some .releasing → m.intent = .down →
        (s.demandView = .none ∨ s.demandView = .halt → s.onSeat = false →
          t.motion.phase = some .held ∧ t.motion.brake.out = false) ∧
        (s.demandView = .raise → s.onSeat = false → m.leftBehind = true →
          t.motion.phase = some .held ∧ t.motion.brake.out = false) ∧
        (s.demandView = .raise → s.onSeat = false → raise → calm → ¬behind → releases .up) ∧
        (s.demandView = .raise → s.onSeat = true → ¬unlock → t.motion.phase = some .seated ∧ t.motion.brake.out = false) ∧
        (s.demandView ≠ .lower → s.demandView ≠ .raise → s.onSeat = true → bolt = .withdrawn →
          t.motion.phase = some .locking ∧ t.motion.bolt.state = .driving ∧ t.motion.brake.out = false) ∧
        (s.demandView = .lower → stays)) ∧
      (m.phase = some .raising →
        (s.demandView ≠ .raise → calm → t.motion.phase = some .halting ∧ t.motion.intent = m.intent ∧
          t.motion.output = m.output ∧ t.motion.profile.vPrev = m.profile.vPrev) ∧
        (s.demandView = .raise → behind → calm →
          t.motion.phase = some .halting ∧ t.motion.leftBehind = true ∧ t.latched .leftBehind = true) ∧
        (s.demandView = .raise → ¬behind → stays)) ∧
      (m.phase = some .lowering →
        (s.demandView ≠ .lower ∨ high → calm → t.motion.phase = some .halting ∧ t.motion.output = m.output) ∧
        (s.demandView = .lower → ¬high → stays)) ∧
      (m.phase = some .halting → stays) ∧
      (m.phase = some .raised →
        (lower → calm → m.brake.out = false → releases .down) ∧
        (lower → calm → m.brake.out = true → s.filtered 0 = false →
          t.motion.phase = some .lowering ∧ t.motion.intent = .down ∧ t.motion.goal = 0) ∧
        (¬lower → stays)) ∧
      (m.phase = some .held →
        (lower → calm → m.brake.out = false → releases .down) ∧
        (lower → calm → m.brake.out = true → s.filtered 0 = false →
          t.motion.phase = some .lowering ∧ t.motion.intent = .down ∧ t.motion.goal = 0) ∧
        (raise → calm → m.brake.out = false → ¬behind → releases .up) ∧
        (raise → calm → m.brake.out = true → ¬behind → t.motion.phase = some .raising ∧ t.motion.goal = goal ∧
          t.motion.workingGoal = some (s.raisingGoals.foldl min goal)) ∧
        (¬lower → ¬raise → stays)) ∧
      (m.phase = some .homing → maint = false ∨ s.demandView = .raise ∨ s.demandView = .lower →
        t.motion.phase = some .unreferenced ∧ t.latched .homingFailed = true ∧ t.motion.output.vOut = 0 ∧
        t.motion.brake.out = false) ∧
      (m.phase = some .homing → maint = true → s.demandView ≠ .raise → s.demandView ≠ .lower → stays) ∧
      (m.phase = some .unreferenced ∨ m.phase = some .tripped → stays)

/-! ### The approach -/

/-- The stage timers: amber to red clearance, red clearance to the entry arms only with a stop signal in order, a served deck
clearing to the exit arms, and DECK_NOT_CLEAR at the deck limit (R103, R104, R106, R107). With a hold pending, under the inhibit
or where the DEMAND view calls for no movement, each ends in HOLDING at the stage that R111 gives. -/
def Obligations.StageTimersExpire : Prop :=
  ∀ s : State,
    (s.closure.deckLimitTimer.isSome = true → exec .deckLimitExpiry s = .next { s with
      port := { s.port with conditions := s.port.conditions ||| 0x020000#24 }
      closure := { s.closure with deckLimitTimer := none } }) ∧
    (s.straps.role = .approach → s.demandView = .raise → s.closure.holdPending = false →
      (s.closure.amberTimer.isSome = true → ∃ t, exec .amberTimerExpiry s = .next t ∧
        t.closure.phase = some .redClearance ∧ t.closure.redTimer = some (1000 * s.config.item 26) ∧
        t.closure.amberTimer = none ∧ t.closure.served = false ∧ t.closure.heldStage = none ∧
        (t.lamp 0).mode = .steady ∧ (t.lamp 1).mode = .steady ∧ (t.lamp 2).mode = .off ∧ (t.lamp 3).mode = .off ∧
        (t.lamp 4).mode = .flashA ∧ (t.lamp 5).mode = .flashB ∧ (t.sounder 0).steady = true ∧
        (∀ i, t.arm i = s.arm i) ∧ UnchangedBut [.link, .reports, .signal, .closure] s t) ∧
      (s.closure.phase = some .redClearance → s.closure.redTimer.isSome = true →
        (s.stopSignalOk = false → ∃ t, exec .redClearanceExpiry s = .next t ∧
          t.closure = { s.closure with redTimer := none, served := true } ∧ t.latched .stopSignalFailed = true ∧
          UnchangedBut [.reports, .closure] s t) ∧
        (∀ i, s.stopSignalOk = true → s.config.item (35 + i.val) = 0 → (s.arm i).state = some .raised →
          (s.arm i).command = .none → (s.arm i).retry ≤ s.config.item 30 → s.presence i = false →
          s.armPattern i ≠ .atSecond → s.trip.flag = false → (s.arm i).gapTimer = none → (s.arm i).up = false →
          ∃ t, exec .redClearanceExpiry s = .next t ∧ t.closure.phase = some .entryLowering ∧
            t.closure.redTimer = none ∧ (t.arm i).state = some .lowering ∧ (t.arm i).command = .lower ∧
            (t.arm i).down = true ∧ (t.arm i).travelTimer = some (1000 * s.config.item 28) ∧
            UnchangedBut [.link, .reports, .signal, .closure] s t)) ∧
      (s.closure.deckClearTimer.isSome = true →
        ∀ i, s.config.item (35 + i.val) = 1 → (s.arm i).state = some .raised → (s.arm i).command = .none →
          (s.arm i).retry ≤ s.config.item 30 → s.presence i = false → s.armPattern i ≠ .atSecond →
          s.trip.flag = false → (s.arm i).gapTimer = none → (s.arm i).up = false →
          ∃ t, exec .deckClearExpiry s = .next t ∧ t.closure.phase = some .exitLowering ∧
            t.closure.deckClearTimer = none ∧ t.closure.deckLimitTimer = none ∧ (t.arm i).state = some .lowering ∧
            (t.arm i).down = true ∧ (t.sounder 0).steady = false ∧
            UnchangedBut [.link, .reports, .signal, .closure] s t)) ∧
    (s.straps.role = .approach → s.closure.holdPending = true →
      s.port.startInhibit = true ∨
        (s.demandView ≠ .raise ∧ ¬(s.demandView = .lower ∧ s.spanSeatedLocked = true)) →
      (s.closure.amberTimer.isSome = true → ∃ t, exec .amberTimerExpiry s = .next t ∧
        t.closure.phase = some .holding ∧ t.closure.heldStage = some .redClearance ∧ t.closure.holdPending = false ∧
        UnchangedBut [.link, .reports, .signal, .closure] s t) ∧
      (s.closure.redTimer.isSome = true → ∃ t, exec .redClearanceExpiry s = .next t ∧
        t.closure.phase = some .holding ∧
        t.closure.heldStage = some (if s.stopSignalOk then .entryLowering else .redClearance) ∧
        UnchangedBut [.link, .reports, .signal, .closure] s t) ∧
      (s.closure.deckClearTimer.isSome = true → ∃ t, exec .deckClearExpiry s = .next t ∧
        t.closure.phase = some .holding ∧ t.closure.heldStage = some .exitLowering ∧
        UnchangedBut [.link, .reports, .signal, .closure] s t))

/-- What an approach makes of a filtered change of FI0 to FI16. A limit input moves an arm (R118): arrival below (R122), the end
of a raise in RAISED, WAITING or FAULT OBSTRUCTED (R124), FAULT LIMIT_PATTERN and DISTURBED (R127), and with it the stage: the
entry arms down end ENTRY_LOWERING, all arms down end EXIT_LOWERING in a closed road, and the arms up end RAISING_ARMS (R105,
R108 to R110). Presence reverses a lowering arm (R123) and holds one that would begin at the lane, where its absence lets it
begin (R121, R129). Each change of the deck clear condition starts or stops the deck clear timer (R106). Where the DEMAND view
is not RAISE the same event sets the hold pending flag of a closing stage (R111). -/
def Obligations.ApproachInputsAct : Prop :=
  ∀ (i : Fin 25) (level : Bool) (s : State), FilteredChange i level s → s.straps.role = .approach → s.trip.flag = false →
    s.closure.holdPending = false →
    let phase := s.closure.phase
    let off := fun a : Arm => a.up = false ∧ a.down = false
    ∃ t, exec (.filterTimerExpiry i) s = .next t ∧ TakesLevel i level s t ∧
      UnchangedBut [.inputs, .link, .reports, .signal, .closure] s t ∧
      (s.demandView = .raise →
        phase ∈ [some .amber, some .entryLowering, some .deckClearing, some .exitLowering, some .closed] ∨
          (phase = some .redClearance ∧ s.closure.served = false) ∨ phase = some .raisingArms →
        (∀ k : Fin 4, s.isFitted k = true → i.val = 2 * k.val ∨ i.val = 2 * k.val + 1 →
          let a := s.arm k
          let b := t.arm k
          let faults := fun c : ArmFault => b.state = some (.fault c) ∧ t.latched .armFault = true ∧ off b ∧
            b.travelTimer = none ∧ b.retryTimer = none ∧ b.laneTimer = none ∧
            (a.up = true ∨ a.down = true → b.gapTimer = some 300)
          (t.armPattern k = .invalid →
            a.state ∈ [some .raised, some .lowered, some .lowering, some .raising, some .waiting] →
            faults .limitPattern) ∧
          (t.armPattern k = .atSecond → a.state = some .lowering →
            b.state = some .lowered ∧ off b ∧ b.travelTimer = none ∧ (a.down = true → b.gapTimer = some 300)) ∧
          (t.armPattern k = .atFirst → a.state = some .raising →
            (a.command ≠ .lower → b.state = some .raised ∧ off b ∧ b.travelTimer = none ∧
              (a.up = true → b.gapTimer = some 300)) ∧
            (a.command = .lower → a.reversing = true → a.retry ≤ s.config.item 30 →
              b.state = some .waiting ∧ off b ∧ b.travelTimer = none ∧ b.retryTimer = some (1000 * s.config.item 29) ∧
              b.delayServed = false ∧ b.reversing = false) ∧
            (a.command = .lower → s.config.item 30 < a.retry → b.state = some (.fault .obstructed) ∧ off b) ∧
            (a.command = .lower → a.reversing = false → a.retry ≤ s.config.item 30 → t.presence k = false →
              b.state = some .lowering ∧ b.travelTimer = some (1000 * s.config.item 28))) ∧
          (s.armPattern k = .atFirst → t.armPattern k = .travelling → a.state = some .raised → faults .disturbed) ∧
          (s.armPattern k = .atSecond → t.armPattern k = .travelling → a.state = some .lowered → faults .disturbed ∧
            (phase = some .closed → s.closureIntact = true ∧ t.closureIntact = false ∨ s.closureIntact = false)) ∧
          (phase ≠ some .raisingArms →
            (t.armPattern k = .travelling → a.state = some .lowering ∨ a.state = some .raising → b = a) ∧
            ∀ m, m ≠ k → t.arm m = s.arm m)) ∧
        (phase = some .entryLowering → i.val ≤ 16 →
          t.closure.phase = some (if t.entryArmsDown then .deckClearing else .entryLowering)) ∧
        (phase = some .exitLowering → i.val ≤ 16 →
          t.closure.phase = some (if t.allArmsDown then .closed else .exitLowering) ∧
          (t.allArmsDown = true → t.closureIntact = true)) ∧
        (phase = some .raisingArms → s.port.startInhibit = true → i.val < 16 →
          t.closure.phase = some (if t.armsReopened then .opened else .raisingArms) ∧
          (t.armsReopened = true → (t.lamp 3).mode = .steady ∧ (t.lamp 0).mode = .off ∧ (t.sounder 0).steady = false)) ∧
        (phase ≠ some .raisingArms → ∀ k : Fin 4, i.val = 8 + k.val ∨ i.val = 12 + k.val →
          let a := s.arm k
          let b := t.arm k
          let mayLower := (a.state = some .raised ∨ (a.state = some .waiting ∧ a.delayServed = true)) ∧ a.command = .lower
          (a.state = some .lowering → level = true →
            b.retry = a.retry + 1 ∧ b.down = false ∧ (a.down = true → b.gapTimer = some 300 ∧ b.up = false) ∧
            (s.armPattern k ≠ .atFirst →
              b.state = some .raising ∧ b.reversing = true ∧ b.travelTimer = some (1000 * s.config.item 28)) ∧
            (s.armPattern k = .atFirst → a.command = .lower → a.retry < s.config.item 30 →
              b.state = some .waiting ∧ b.retryTimer = some (1000 * s.config.item 29)) ∧
            (s.armPattern k = .atFirst → a.command = .lower → s.config.item 30 ≤ a.retry →
              b.state = some (.fault .obstructed))) ∧
          (a.state = some .lowering → level = false → b = a) ∧
          (mayLower → a.retry ≤ s.config.item 30 → t.presence k = true →
            b.state = a.state ∧ b.held = true ∧ off b ∧ b.laneTimer = if a.held then a.laneTimer else some 30000) ∧
          (mayLower → a.retry ≤ s.config.item 30 → t.presence k = false → s.armPattern k ≠ .atSecond →
            b.state = some .lowering ∧ b.held = false ∧ b.laneTimer = none ∧
            b.travelTimer = some (1000 * s.config.item 28) ∧
            (a.gapTimer = none → a.up = false → b.down = true)) ∧
          (mayLower → s.config.item 30 < a.retry → b.state = some (.fault .obstructed) ∧ t.latched .armFault = true) ∧
          (a.state = some .lowered → off a → b = a) ∧
          ∀ m, m ≠ k → t.arm m = s.arm m) ∧
        (phase = some .deckClearing → 8 ≤ i.val → i.val ≤ 16 → t.closure.phase = some .deckClearing ∧
          t.closure.deckLimitTimer = s.closure.deckLimitTimer ∧ t.closure.deckClearTimer =
            if t.deckClear = s.deckClear then s.closure.deckClearTimer
            else if t.deckClear then some (1000 * s.config.item 27) else none)) ∧
      (s.demandView ≠ .raise → i = 16 →
        (phase = some .amber ∨ (phase = some .redClearance ∧ s.closure.served = false) →
          t.closure = { s.closure with holdPending := true }) ∧
        ((phase = some .entryLowering ∨ phase = some .exitLowering) → ∀ k, (s.arm k).state = some .lowering →
          s.config.item (35 + k.val) = 0 ∨ (phase = some .exitLowering ∧ s.isFitted k = true) →
          t.closure.phase = phase ∧ t.closure.holdPending = true ∧ t.arm k = s.arm k ∧
          ∀ m, (s.arm m).state ≠ some .lowering → (s.arm m).state ≠ some .notFitted → (t.arm m).command = .none) ∧
        (phase = some .deckClearing →
          s.port.startInhibit = true ∨ ¬(s.demandView = .lower ∧ s.spanSeatedLocked = true) →
          (s.deckClear = false → t.deckClear = true → t.closure.phase = some .deckClearing ∧
            t.closure.holdPending = true ∧ t.closure.deckClearTimer = some (1000 * s.config.item 27)) ∧
          (s.deckClear = true → t.deckClear = false → t.closure.phase = some .holding ∧
            t.closure.heldStage = some .deckClearing)))

/-- The timers of an arm: the gap's end asserts a demanded output, a travel in time's end faults the arm, a served retry delay
begins lowering under LOWER, and 30 s at the lane latch LANE_OCCUPIED (R117, R121, R125, R126, R129, R133). -/
def Obligations.ArmTimersExpire : Prop :=
  ∀ (i : Fin 4) (s : State),
    let a := s.arm i
    (a.gapTimer.isSome = true → a.up = false → a.down = false → s.trip.flag = false →
      ∃ t, exec (.gapTimerExpiry i) s = .next t ∧
        t.arm i = { a with
          gapTimer := none
          up := decide (a.state = some .raising)
          down := decide (a.state = some .lowering) && !s.presence i } ∧
        (∀ k, k ≠ i → t.arm k = s.arm k) ∧ UnchangedBut [.closure] s t) ∧
    (a.travelTimer.isSome = true → a.state = some .lowering ∨ a.state = some .raising →
      ∃ t, exec (.armTravelTimeout i) s = .next t ∧ (t.arm i).state = some (.fault .travelTimeout) ∧
        (t.arm i).up = false ∧ (t.arm i).down = false ∧ (t.arm i).travelTimer = none ∧
        (a.up = true ∨ a.down = true → (t.arm i).gapTimer = some 300) ∧ t.latched .armFault = true ∧
        UnchangedBut [.link, .reports, .signal, .closure] s t) ∧
    (a.retryTimer.isSome = true → a.state = some .waiting → a.command = .lower → a.retry ≤ s.config.item 30 →
      s.presence i = false → s.armPattern i ≠ .atSecond → a.gapTimer = none → a.up = false → s.trip.flag = false →
      s.config.item (35 + i.val) = 0 → s.closure.phase = some .entryLowering → s.closure.holdPending = false →
      s.demandView = .raise →
      ∃ t, exec (.retryTimerExpiry i) s = .next t ∧ (t.arm i).state = some .lowering ∧ (t.arm i).down = true ∧
        (t.arm i).retryTimer = none ∧ (t.arm i).travelTimer = some (1000 * s.config.item 28) ∧
        (∀ k, k ≠ i → t.arm k = s.arm k) ∧ UnchangedBut [.link, .reports, .closure] s t) ∧
    (a.laneTimer.isSome = true → ∃ t, exec (.laneTimerExpiry i) s = .next t ∧
      t.arm i = { a with laneTimer := none } ∧ (∀ k, k ≠ i → t.arm k = s.arm k) ∧ t.latched .laneOccupied = true ∧
      lastReport t {
        kind := .arm, time := s.time, subject := BitVec.ofNat 8 i.val
        old := BitVec.ofNat 8 ((a.state.map armCode).getD 0), new := BitVec.ofNat 8 ((a.state.map armCode).getD 0)
        extra1 := 2, extra2 := BitVec.ofNat 8 a.retry } ∧
      UnchangedBut [.reports, .closure] s t)

/-! ### The channel and the desk -/

/-- How a channel moves. The clearing time's end closes it, with CHANNEL_CLOSED by the reds or the manual stop, and alerts a
vessel found there, and a standing RAISE opens it in the same event (R159, R162, R163, R165). The vessel input stops and starts the
clearing time in CLOSING; a vessel at a signal that does not show PROCEED sets the alert, and its condition and the ALERT pattern
follow each change to set (R162, R165). Where its conditions are tested, here at that input, a channel goes from CLOSED_TO_VESSELS
to OPENING under RAISE with the inhibit clear (R159); from OPENING to CLOSING under LOWER, else to OPEN_TO_VESSELS with SPAN_CLEAR,
with the green fallback where a green is FAILED (R156, R160); and from OPEN_TO_VESSELS to CLOSING under LOWER or without
SPAN_CLEAR, with the horn's LONG, behind the ALERT of a vessel then present (R161, R165). In every other case it stays. -/
def Obligations.ChannelClosesBehindVessels : Prop :=
  let stops := fun t : State =>
    (t.lamp 0).mode = .steady ∧ (t.lamp 1).mode = .steady ∧ (t.lamp 3).mode = .off ∧ (t.lamp 4).mode = .off
  (∀ s : State, s.channel.clearingTimer.isSome = true → s.channel.phase = some .closing →
    (s.port.startInhibit = true ∨ s.demandView ≠ .raise →
      ∃ t, exec .clearingTimerExpiry s = .next t ∧ t.channel.phase = some .closedToVessels ∧
        t.channel.clearingTimer = none ∧ t.channel.manualStop = s.channel.manualStop ∧
        t.channel.vesselAlert = s.vesselPresent ∧
        (t.channelClosed = true ↔
          ¬((t.lamp 0).proving = .failed ∧ (t.lamp 1).proving = .failed) ∨ s.channel.manualStop = true) ∧
        UnchangedBut [.link, .reports, .signal, .channel] s t) ∧
    (s.port.startInhibit = false → s.demandView = .raise →
      ∃ t, exec .clearingTimerExpiry s = .next t ∧
        t.channel.phase = some (if s.spanClear then .openToVessels else .opening) ∧
        t.channel.clearingTimer = none ∧ t.channel.manualStop = false ∧
        UnchangedBut [.link, .reports, .signal, .channel] s t)) ∧
  ∀ (level : Bool) (s : State), FilteredChange 0 level s → s.straps.role = .channel →
    let phase := s.channel.phase
    let green := (s.lamp 3).proving = .failed ∨ (s.lamp 4).proving = .failed
    let opens := phase = some .closedToVessels ∧ s.port.startInhibit = false ∧ s.demandView = .raise
    let turns := phase = some .opening ∧ s.demandView = .lower
    let clears := phase = some .opening ∧ s.demandView ≠ .lower ∧ s.spanClear = true
    let withdraws := phase = some .openToVessels ∧ (s.demandView = .lower ∨ s.spanClear = false)
    let fallsBack := phase = some .openToVessels ∧ ¬(s.demandView = .lower ∨ s.spanClear = false) ∧
      s.channel.greenFallback = false ∧ green
    let alert := level && decide (phase ≠ some .openToVessels)
    let closing := fun t : State => t.channel = { s.channel with
      phase := some .closing, greenFallback := false, vesselAlert := level
      clearingTimer := if level then none else some (1000 * s.config.item 31) }
    let proceeds := fun t : State => t.channel.phase = some .openToVessels ∧ t.channel.vesselAlert = false ∧
      (green → t.channel.greenFallback = true ∧ stops t) ∧
      (¬green → t.channel.greenFallback = false ∧ (t.lamp 0).mode = .off ∧ (t.lamp 1).mode = .off ∧
        (t.lamp 3).mode = .steady ∧ (t.lamp 4).mode = .steady)
    ∃ t, exec (.filterTimerExpiry 0) s = .next t ∧ TakesLevel 0 level s t ∧
      UnchangedBut [.inputs, .link, .reports, .signal, .channel] s t ∧
      (opens → t.channel.manualStop = false ∧ t.channel.clearingTimer = none ∧ (s.spanClear = true → proceeds t) ∧
        (s.spanClear = false → t.channel.phase = some .opening ∧ t.channel.vesselAlert = level ∧ (t.lamp 0).mode = .steady ∧
          (t.lamp 1).mode = .steady ∧ (t.lamp 2).mode = .flashA ∧ (t.lamp 3).mode = .off ∧ (t.lamp 4).mode = .off)) ∧
      (turns → closing t ∧ stops t ∧ (t.lamp 2).mode = .off) ∧
      (clears → proceeds t ∧ t.channel.manualStop = s.channel.manualStop ∧ (t.lamp 2).mode = .off) ∧
      (withdraws → closing t ∧ stops t ∧ (level = true → t.latched .vesselAlert = true) ∧
        ((s.sounder 1).running = none → (t.sounder 1).running = some (if level then .alert else .long, 0) ∧
          (level = true → (t.sounder 1).waiting = some .long))) ∧
      (fallsBack → t.channel = { s.channel with greenFallback := true, vesselAlert := false } ∧ stops t) ∧
      (¬opens → ¬turns → ¬clears → ¬withdraws → ¬fallsBack →
        t.channel = { s.channel with
          vesselAlert := alert
          clearingTimer :=
            if phase = some .closing then (if level then none else some (1000 * s.config.item 31))
            else s.channel.clearingTimer } ∧
        (alert = true → s.channel.vesselAlert = false → t.latched .vesselAlert = true ∧
          ((s.sounder 1).running = none → (t.sounder 1).running = some (.alert, 0) ∧ (t.sounder 1).stepTimer = some 500)) ∧
        (alert = false ∨ s.channel.vesselAlert = true → t.signal = s.signal))

/-- What a desk makes of a filtered change of FI0 to FI5. A press of RAISE, LOWER or HALT is the held demand in ACTIVE alone, and
a release is nothing (R170); a press of CLEAR advances the clear counter modulo 16 and is a clear attempt of the desk itself
(R175); the key takes INACTIVE to ACTIVE and ACTIVE to INACTIVE with a held demand of NONE (R169); the ceiling switch is shown in
the record alone (R178). The nine indicators show their tests after each of these that acts, and every step of a desk keeps them
so, at a station that is no approach with quiet arm controllers and that is no channel with the Channel Unit at rest, as every
step keeps these (R116, R153, R177). -/
def Obligations.DeskInputsAct : Prop :=
  (Kept fun s => ArmsSafe s ∧ ChannelAtRest s ∧ IndicatorsShow s) ∧
  ∀ (i : Fin 25) (level : Bool) (s : State), FilteredChange i level s → s.straps.role = .desk →
    let d := s.desk
    let demands : List Demand := [.raise, .lower, .halt]
    ∃ t, exec (.filterTimerExpiry i) s = .next t ∧ TakesLevel i level s t ∧
      UnchangedBut [.inputs, .link, .reports, .trip, .signal, .desk] s t ∧ (i ≠ 3 → t.trip = s.trip) ∧
      (∀ demand, demands[i.val]? = some demand →
        (level = true → d.phase = some .active → t.desk = { d with heldDemand := demand } ∧ IndicatorsShow t) ∧
        (level = false ∨ d.phase ≠ some .active → t.desk = d)) ∧
      (i = 3 → level = false → t.desk = d ∧ t.trip = s.trip) ∧
      (i = 3 → level = true → t.desk.clearCount = (d.clearCount + 1) % 16 ∧ t.desk.requestedGoal = d.requestedGoal ∧
        (s.trip.flag = true → (∀ c ∈ s.trip.causes, c = .estop ∨ c = .duplicate) → s.trip.estopFiltered = false →
          s.duplicateTimer = none → t.trip.flag = false ∧ t.trip.causes = [] ∧ t.trip.more = false ∧ IndicatorsShow t ∧
            t.desk.phase = some (if s.filtered 4 then .active else .inactive) ∧
            t.desk.heldDemand = if s.filtered 4 then d.heldDemand else .none) ∧
        (s.trip.flag = false ∨ (.estop ∈ s.trip.causes ∧ s.trip.estopFiltered = true) ∨
            (.duplicate ∈ s.trip.causes ∧ s.duplicateTimer.isSome = true) →
          t.trip = s.trip ∧ t.desk.phase = d.phase ∧ t.desk.heldDemand = d.heldDemand)) ∧
      (i = 4 → IndicatorsShow t ∧
        (d.phase = some .active → level = false → t.desk = { d with phase := some .inactive, heldDemand := .none }) ∧
        (d.phase = some .inactive → level = true → t.desk = { d with phase := some .active }) ∧
        (d.phase = some .tripped → t.desk = d)) ∧
      (5 ≤ i.val → t.desk = d ∧ t.signal = s.signal)

/-! ### Lamps and sounders -/

/-- The flash timebase changes half and restarts, and an output is on in the new half where it is steady or flashes in that half
(R138, R139). Proving follows it, here where the role block takes nothing from a lamp: a flashing lamp whose on-phase ends with
its window open is FAILED, and one whose on-phase begins opens a window, or proves at once with its current sensed (R143). A step
timer's expiry takes the running pattern to its next step, to its end, or to the waiting pattern (R149, R150). -/
def Obligations.TimebaseAndPatternsAdvance : Prop :=
  (∀ s : State, s.signal.halfTimer.isSome = true → ∃ t, exec .flashHalfExpiry s = .next t ∧
    let half : FlashHalf := if s.signal.half = .a then .b else .a
    t.signal.half = half ∧ t.signal.halfTimer = some (s.config.item 33 / 2) ∧
    (∀ i, t.lampOn i = true ↔
      (t.lamp i).mode = .steady ∨ ((t.lamp i).mode = .flashA ∧ half = .a) ∨ ((t.lamp i).mode = .flashB ∧ half = .b)) ∧
    (s.straps.role = .corner ∨ s.straps.role = .desk →
      (∀ k, t.lamp k = s.lamp k) ∧ UnchangedBut [.signal] s t) ∧
    (s.running = false ∨ (s.straps.role = .approach ∧ s.closure.phase = some .tripped) ∨
        (s.straps.role = .channel ∧ s.channel.phase = some .tripped) →
      ∀ i : Fin 16, (s.straps.role = .approach ∧ i.val < 6) ∨ (s.straps.role = .channel ∧ i.val < 5) →
        let l := s.lamp i
        let begins := (l.mode = .flashA ∧ half = .a) ∨ (l.mode = .flashB ∧ half = .b)
        let ends := (l.mode = .flashA ∧ half = .b) ∨ (l.mode = .flashB ∧ half = .a)
        let dark := fun stuck : Bool => if l.sensed = stuck then none else some 200
        (l.mode = .off ∨ l.mode = .steady → t.lamp i = l) ∧
        (begins → l.sensed = false → t.lamp i =
          { l with darkTimer := none, watchTimer := none, watched := false, window := some (s.config.item 32) }) ∧
        (begins → l.sensed = true → t.lamp i = { l with
          darkTimer := none, watchTimer := none, watched := false, window := none
          proving := if l.proving = .unproven ∨ l.proving = .failed then .proven else l.proving }) ∧
        (ends → l.window.isSome = true → t.lamp i = { l with
          window := none, watched := false, watchTimer := none, proving := .failed, darkTimer := dark false } ∧
          (l.proving ≠ .failed → t.latched .lampFault = true)) ∧
        (ends → l.window = none → t.lamp i = { l with
          watched := false, watchTimer := none, darkTimer := dark (decide (l.proving = .stuckOn)) })) ∧
    UnchangedBut ([.link] ++ roleBlocks) s t) ∧
  ∀ (k : Fin 2) (s : State) (p : Pattern) (step : Nat), (s.sounder k).stepTimer.isSome = true →
    (s.sounder k).running = some (p, step) →
    ∃ t, exec (.stepTimerExpiry k) s = .next t ∧
      (p = .alert → step < 9 → t.sounder k =
        { s.sounder k with running := some (.alert, step + 1), stepTimer := some 500 }) ∧
      (p = .long ∨ 9 ≤ step → (s.sounder k).waiting = none → t.sounder k =
        { s.sounder k with running := none, stepTimer := none }) ∧
      (p = .long ∨ 9 ≤ step → ∀ w, (s.sounder k).waiting = some w → t.sounder k =
        { s.sounder k with
          running := some (w, 0), waiting := none, stepTimer := some (if w = .long then 3000 else 500) }) ∧
      (∀ m, m ≠ k → t.sounder m = s.sounder m) ∧ t.signal.lamps = s.signal.lamps ∧ UnchangedBut [.signal] s t

/-- Proving of a lamp at an approach or a channel, in CONFIG, in TRIPPED, and in the phases of RUN that take nothing from it as
their inputs stand: current in an open window proves it, the window's end without current fails it, a watched steady lamp whose
current stays away fails, and current in the dark is STUCK_ON until it has been away (R141 to R145, R147). A green that fails in
OPEN_TO_VESSELS gives the fallback to the reds (R156), and a red proven anew ends an already served RED_CLEARANCE (R104). -/
def Obligations.LampsAreProved : Prop :=
  ∀ (i : Fin 16) (s : State),
    (s.straps.role = .approach ∧ i.val < 6) ∨ (s.straps.role = .channel ∧ i.val < 5) →
    let l := s.lamp i
    let asksNothing := s.port.startInhibit = true ∨ s.demandView ≠ .raise
    let approachRests :=
      (s.closure.phase = some .tripped) ∨ (s.closure.phase = some .opened ∧ asksNothing) ∨
      (s.closure.phase ∈ [some .amber, some .deckClearing] ∧ s.demandView = .raise ∧ s.closure.holdPending = false) ∨
      (s.closure.phase = some .closed ∧ s.demandView ≠ .lower) ∨
      (s.closure.phase = some .holding ∧ s.port.startInhibit = true)
    let channelRests :=
      (s.channel.phase = some .tripped) ∨ (s.channel.phase = some .closing) ∨
      (s.channel.phase = some .closedToVessels ∧ asksNothing) ∨
      (s.channel.phase = some .opening ∧ s.demandView ≠ .lower ∧ s.spanClear = false)
    let others := fun t : State => (∀ k, k ≠ i → t.lamp k = s.lamp k) ∧ UnchangedBut [.link, .reports, .signal] s t
    (s.running = false ∨ (s.straps.role = .approach ∧ approachRests) ∨ (s.straps.role = .channel ∧ channelRests) →
      (s.lampOn i = true → l.sensed = false → l.window.isSome = true → ∃ t, exec (.lampSenseEvent i true) s = .next t ∧
        t.lamp i = { l with
          sensed := true, window := none, watched := decide (l.mode = .steady)
          proving := if l.proving = .unproven ∨ l.proving = .failed then .proven else l.proving } ∧ others t) ∧
      (s.lampOn i = true → l.sensed = true → l.watched = true → ∃ t, exec (.lampSenseEvent i false) s = .next t ∧
        t.lamp i = { l with sensed := false, watchTimer := some (s.config.item 32) } ∧ others t) ∧
      (s.lampOn i = false → l.sensed = false → l.proving ≠ .stuckOn →
        ∃ t, exec (.lampSenseEvent i true) s = .next t ∧
          t.lamp i = { l with sensed := true, darkTimer := some 200 } ∧ others t) ∧
      (l.window.isSome = true → ∃ t, exec (.provingTimerExpiry i) s = .next t ∧
        t.lamp i = { l with window := none, watched := false, proving := .failed } ∧
        (l.proving ≠ .failed → t.latched .lampFault = true) ∧ others t) ∧
      (l.watchTimer.isSome = true → ∃ t, exec (.watchTimerExpiry i) s = .next t ∧
        t.lamp i = { l with watchTimer := none, watched := false, proving := .failed } ∧
        (l.proving ≠ .failed → t.latched .lampFault = true) ∧ others t) ∧
      (l.darkTimer.isSome = true → ∃ t, exec (.darkTimerExpiry i) s = .next t ∧
        t.lamp i = { l with darkTimer := none, proving := if l.proving = .stuckOn then .unproven else .stuckOn } ∧
        (l.proving ≠ .stuckOn → t.latched .lampFault = true) ∧ others t)) ∧
    (s.running = true → s.straps.role = .channel → s.channel.phase = some .openToVessels →
      s.channel.greenFallback = false → i = 3 ∨ i = 4 → l.window.isSome = true → s.demandView ≠ .lower →
      s.spanClear = true → ∃ t, exec (.provingTimerExpiry i) s = .next t ∧ t.channel.phase = some .openToVessels ∧
        t.channel.greenFallback = true ∧ t.aspect = 0 ∧ (t.lamp i).proving = .failed ∧
        (∀ k : Fin 16, k.val < 5 → (t.lamp k).mode = if k.val < 2 then .steady else .off) ∧
        UnchangedBut [.link, .reports, .signal, .channel] s t) ∧
    (s.running = true → s.straps.role = .approach → s.closure.phase = some .redClearance → s.closure.served = true →
      s.closure.holdPending = false → s.demandView = .raise → i = 0 ∨ i = 1 → s.lampOn i = true → l.sensed = false →
      l.window.isSome = true → l.proving = .failed → (∃ k, s.isEntryArm k = true ∧ s.armFaulted k = true) →
      ∃ t, exec (.lampSenseEvent i true) s = .next t ∧ t.closure.phase = some .entryLowering ∧
        (t.lamp i).proving = .proven ∧ t.closure.served = false ∧
        UnchangedBut [.link, .reports, .signal, .closure] s t)
end

