-- ==== Sys2Proof/Laws/State.lean ====
section
/-! SUPPORT. One lemma per field per update of a block, so that no later proof unfolds a record update. -/

namespace Sys2Proof.Machine

@[simp] theorem State.setFed_pending (b : Bool) (s : State) : (s.setFed b).pending = s.pending := rfl
@[simp] theorem State.setFed_running (b : Bool) (s : State) : (s.setFed b).running = s.running := rfl
@[simp] theorem State.setFed_straps (b : Bool) (s : State) : (s.setFed b).straps = s.straps := rfl
@[simp] theorem State.setFed_time (b : Bool) (s : State) : (s.setFed b).time = s.time := rfl
@[simp] theorem State.setFed_config (b : Bool) (s : State) : (s.setFed b).config = s.config := rfl
@[simp] theorem State.setFed_roster (b : Bool) (s : State) : (s.setFed b).roster = s.roster := rfl
@[simp] theorem State.setFed_digest (b : Bool) (s : State) : (s.setFed b).digest = s.digest := rfl
@[simp] theorem State.setFed_port (b : Bool) (s : State) : (s.setFed b).port = s.port := rfl
@[simp] theorem State.setFed_inputs (b : Bool) (s : State) : (s.setFed b).inputs = s.inputs := rfl
@[simp] theorem State.setFed_trip (b : Bool) (s : State) : (s.setFed b).trip = s.trip := rfl
@[simp] theorem State.setFed_peers (b : Bool) (s : State) : (s.setFed b).peers = s.peers := rfl
@[simp] theorem State.setFed_duplicateTimer (b : Bool) (s : State) : (s.setFed b).duplicateTimer = s.duplicateTimer := rfl
@[simp] theorem State.setFed_link (b : Bool) (s : State) : (s.setFed b).link = s.link := rfl
@[simp] theorem State.setFed_signal (b : Bool) (s : State) : (s.setFed b).signal = s.signal := rfl
@[simp] theorem State.setFed_motion (b : Bool) (s : State) : (s.setFed b).motion = s.motion := rfl
@[simp] theorem State.setFed_closure (b : Bool) (s : State) : (s.setFed b).closure = s.closure := rfl
@[simp] theorem State.setFed_channel (b : Bool) (s : State) : (s.setFed b).channel = s.channel := rfl
@[simp] theorem State.setFed_desk (b : Bool) (s : State) : (s.setFed b).desk = s.desk := rfl
@[simp] theorem State.setFed_fed (b : Bool) (s : State) : (s.setFed b).fed = b := rfl

@[simp] theorem feed_pending (s t : State) : (feed s t).pending = t.pending := rfl
@[simp] theorem feed_running (s t : State) : (feed s t).running = t.running := rfl
@[simp] theorem feed_straps (s t : State) : (feed s t).straps = t.straps := rfl
@[simp] theorem feed_time (s t : State) : (feed s t).time = t.time := rfl
@[simp] theorem feed_config (s t : State) : (feed s t).config = t.config := rfl
@[simp] theorem feed_roster (s t : State) : (feed s t).roster = t.roster := rfl
@[simp] theorem feed_digest (s t : State) : (feed s t).digest = t.digest := rfl
@[simp] theorem feed_port (s t : State) : (feed s t).port = t.port := rfl
@[simp] theorem feed_inputs (s t : State) : (feed s t).inputs = t.inputs := rfl
@[simp] theorem feed_trip (s t : State) : (feed s t).trip = t.trip := rfl
@[simp] theorem feed_peers (s t : State) : (feed s t).peers = t.peers := rfl
@[simp] theorem feed_duplicateTimer (s t : State) : (feed s t).duplicateTimer = t.duplicateTimer := rfl
@[simp] theorem feed_link (s t : State) : (feed s t).link = t.link := rfl
@[simp] theorem feed_signal (s t : State) : (feed s t).signal = t.signal := rfl
@[simp] theorem feed_motion (s t : State) : (feed s t).motion = t.motion := rfl
@[simp] theorem feed_closure (s t : State) : (feed s t).closure = t.closure := rfl
@[simp] theorem feed_channel (s t : State) : (feed s t).channel = t.channel := rfl
@[simp] theorem feed_desk (s t : State) : (feed s t).desk = t.desk := rfl

/-- The mark of an event stands once a change has been fed. -/
theorem feed_fed (s t : State) : (feed s t).fed = (t.fed || decide (s.ownContent ≠ t.ownContent)) := rfl

@[simp] theorem State.onSerial_fed (f : SerialPort → SerialPort) (s : State) : (s.onSerial f).fed = s.fed := rfl
@[simp] theorem State.onSerial_pending (f : SerialPort → SerialPort) (s : State) : (s.onSerial f).pending = s.pending := rfl
@[simp] theorem State.onSerial_running (f : SerialPort → SerialPort) (s : State) : (s.onSerial f).running = s.running := rfl
@[simp] theorem State.onSerial_straps (f : SerialPort → SerialPort) (s : State) : (s.onSerial f).straps = s.straps := rfl
@[simp] theorem State.onSerial_time (f : SerialPort → SerialPort) (s : State) : (s.onSerial f).time = s.time := rfl
@[simp] theorem State.onSerial_config (f : SerialPort → SerialPort) (s : State) : (s.onSerial f).config = s.config := rfl
@[simp] theorem State.onSerial_roster (f : SerialPort → SerialPort) (s : State) : (s.onSerial f).roster = s.roster := rfl
@[simp] theorem State.onSerial_digest (f : SerialPort → SerialPort) (s : State) : (s.onSerial f).digest = s.digest := rfl
@[simp] theorem State.onSerial_inputs (f : SerialPort → SerialPort) (s : State) : (s.onSerial f).inputs = s.inputs := rfl
@[simp] theorem State.onSerial_trip (f : SerialPort → SerialPort) (s : State) : (s.onSerial f).trip = s.trip := rfl
@[simp] theorem State.onSerial_peers (f : SerialPort → SerialPort) (s : State) : (s.onSerial f).peers = s.peers := rfl
@[simp] theorem State.onSerial_duplicateTimer (f : SerialPort → SerialPort) (s : State) : (s.onSerial f).duplicateTimer = s.duplicateTimer := rfl
@[simp] theorem State.onSerial_link (f : SerialPort → SerialPort) (s : State) : (s.onSerial f).link = s.link := rfl
@[simp] theorem State.onSerial_signal (f : SerialPort → SerialPort) (s : State) : (s.onSerial f).signal = s.signal := rfl
@[simp] theorem State.onSerial_motion (f : SerialPort → SerialPort) (s : State) : (s.onSerial f).motion = s.motion := rfl
@[simp] theorem State.onSerial_closure (f : SerialPort → SerialPort) (s : State) : (s.onSerial f).closure = s.closure := rfl
@[simp] theorem State.onSerial_channel (f : SerialPort → SerialPort) (s : State) : (s.onSerial f).channel = s.channel := rfl
@[simp] theorem State.onSerial_desk (f : SerialPort → SerialPort) (s : State) : (s.onSerial f).desk = s.desk := rfl
@[simp] theorem State.onSerial_port (f : SerialPort → SerialPort) (s : State) :
    (s.onSerial f).port = { s.port with serial := f s.port.serial } := rfl

@[simp] theorem State.onPort_pending (f : LocalPort → LocalPort) (s : State) : (s.onPort f).pending = s.pending := rfl
@[simp] theorem State.onPort_fed (f : LocalPort → LocalPort) (s : State) : (s.onPort f).fed = s.fed := rfl
@[simp] theorem State.onPort_running (f : LocalPort → LocalPort) (s : State) : (s.onPort f).running = s.running := rfl
@[simp] theorem State.onPort_straps (f : LocalPort → LocalPort) (s : State) : (s.onPort f).straps = s.straps := rfl
@[simp] theorem State.onPort_time (f : LocalPort → LocalPort) (s : State) : (s.onPort f).time = s.time := rfl
@[simp] theorem State.onPort_config (f : LocalPort → LocalPort) (s : State) : (s.onPort f).config = s.config := rfl
@[simp] theorem State.onPort_roster (f : LocalPort → LocalPort) (s : State) : (s.onPort f).roster = s.roster := rfl
@[simp] theorem State.onPort_digest (f : LocalPort → LocalPort) (s : State) : (s.onPort f).digest = s.digest := rfl
@[simp] theorem State.onPort_port (f : LocalPort → LocalPort) (s : State) : (s.onPort f).port = f s.port := rfl
@[simp] theorem State.onPort_inputs (f : LocalPort → LocalPort) (s : State) : (s.onPort f).inputs = s.inputs := rfl
@[simp] theorem State.onPort_trip (f : LocalPort → LocalPort) (s : State) : (s.onPort f).trip = s.trip := rfl
@[simp] theorem State.onPort_peers (f : LocalPort → LocalPort) (s : State) : (s.onPort f).peers = s.peers := rfl
@[simp] theorem State.onPort_duplicateTimer (f : LocalPort → LocalPort) (s : State) : (s.onPort f).duplicateTimer = s.duplicateTimer := rfl
@[simp] theorem State.onPort_link (f : LocalPort → LocalPort) (s : State) : (s.onPort f).link = s.link := rfl
@[simp] theorem State.onPort_signal (f : LocalPort → LocalPort) (s : State) : (s.onPort f).signal = s.signal := rfl
@[simp] theorem State.onPort_motion (f : LocalPort → LocalPort) (s : State) : (s.onPort f).motion = s.motion := rfl
@[simp] theorem State.onPort_closure (f : LocalPort → LocalPort) (s : State) : (s.onPort f).closure = s.closure := rfl
@[simp] theorem State.onPort_channel (f : LocalPort → LocalPort) (s : State) : (s.onPort f).channel = s.channel := rfl
@[simp] theorem State.onPort_desk (f : LocalPort → LocalPort) (s : State) : (s.onPort f).desk = s.desk := rfl

@[simp] theorem State.onTrip_pending (f : TripUnit → TripUnit) (s : State) : (s.onTrip f).pending = s.pending := rfl
@[simp] theorem State.onTrip_fed (f : TripUnit → TripUnit) (s : State) : (s.onTrip f).fed = s.fed := rfl
@[simp] theorem State.onTrip_running (f : TripUnit → TripUnit) (s : State) : (s.onTrip f).running = s.running := rfl
@[simp] theorem State.onTrip_straps (f : TripUnit → TripUnit) (s : State) : (s.onTrip f).straps = s.straps := rfl
@[simp] theorem State.onTrip_time (f : TripUnit → TripUnit) (s : State) : (s.onTrip f).time = s.time := rfl
@[simp] theorem State.onTrip_config (f : TripUnit → TripUnit) (s : State) : (s.onTrip f).config = s.config := rfl
@[simp] theorem State.onTrip_roster (f : TripUnit → TripUnit) (s : State) : (s.onTrip f).roster = s.roster := rfl
@[simp] theorem State.onTrip_digest (f : TripUnit → TripUnit) (s : State) : (s.onTrip f).digest = s.digest := rfl
@[simp] theorem State.onTrip_port (f : TripUnit → TripUnit) (s : State) : (s.onTrip f).port = s.port := rfl
@[simp] theorem State.onTrip_inputs (f : TripUnit → TripUnit) (s : State) : (s.onTrip f).inputs = s.inputs := rfl
@[simp] theorem State.onTrip_trip (f : TripUnit → TripUnit) (s : State) : (s.onTrip f).trip = f s.trip := rfl
@[simp] theorem State.onTrip_peers (f : TripUnit → TripUnit) (s : State) : (s.onTrip f).peers = s.peers := rfl
@[simp] theorem State.onTrip_duplicateTimer (f : TripUnit → TripUnit) (s : State) : (s.onTrip f).duplicateTimer = s.duplicateTimer := rfl
@[simp] theorem State.onTrip_link (f : TripUnit → TripUnit) (s : State) : (s.onTrip f).link = s.link := rfl
@[simp] theorem State.onTrip_signal (f : TripUnit → TripUnit) (s : State) : (s.onTrip f).signal = s.signal := rfl
@[simp] theorem State.onTrip_motion (f : TripUnit → TripUnit) (s : State) : (s.onTrip f).motion = s.motion := rfl
@[simp] theorem State.onTrip_closure (f : TripUnit → TripUnit) (s : State) : (s.onTrip f).closure = s.closure := rfl
@[simp] theorem State.onTrip_channel (f : TripUnit → TripUnit) (s : State) : (s.onTrip f).channel = s.channel := rfl
@[simp] theorem State.onTrip_desk (f : TripUnit → TripUnit) (s : State) : (s.onTrip f).desk = s.desk := rfl

@[simp] theorem State.onLink_pending (f : Link → Link) (s : State) : (s.onLink f).pending = s.pending := rfl
@[simp] theorem State.onLink_fed (f : Link → Link) (s : State) : (s.onLink f).fed = s.fed := rfl
@[simp] theorem State.onLink_running (f : Link → Link) (s : State) : (s.onLink f).running = s.running := rfl
@[simp] theorem State.onLink_straps (f : Link → Link) (s : State) : (s.onLink f).straps = s.straps := rfl
@[simp] theorem State.onLink_time (f : Link → Link) (s : State) : (s.onLink f).time = s.time := rfl
@[simp] theorem State.onLink_config (f : Link → Link) (s : State) : (s.onLink f).config = s.config := rfl
@[simp] theorem State.onLink_roster (f : Link → Link) (s : State) : (s.onLink f).roster = s.roster := rfl
@[simp] theorem State.onLink_digest (f : Link → Link) (s : State) : (s.onLink f).digest = s.digest := rfl
@[simp] theorem State.onLink_port (f : Link → Link) (s : State) : (s.onLink f).port = s.port := rfl
@[simp] theorem State.onLink_inputs (f : Link → Link) (s : State) : (s.onLink f).inputs = s.inputs := rfl
@[simp] theorem State.onLink_trip (f : Link → Link) (s : State) : (s.onLink f).trip = s.trip := rfl
@[simp] theorem State.onLink_peers (f : Link → Link) (s : State) : (s.onLink f).peers = s.peers := rfl
@[simp] theorem State.onLink_duplicateTimer (f : Link → Link) (s : State) : (s.onLink f).duplicateTimer = s.duplicateTimer := rfl
@[simp] theorem State.onLink_link (f : Link → Link) (s : State) : (s.onLink f).link = f s.link := rfl
@[simp] theorem State.onLink_signal (f : Link → Link) (s : State) : (s.onLink f).signal = s.signal := rfl
@[simp] theorem State.onLink_motion (f : Link → Link) (s : State) : (s.onLink f).motion = s.motion := rfl
@[simp] theorem State.onLink_closure (f : Link → Link) (s : State) : (s.onLink f).closure = s.closure := rfl
@[simp] theorem State.onLink_channel (f : Link → Link) (s : State) : (s.onLink f).channel = s.channel := rfl
@[simp] theorem State.onLink_desk (f : Link → Link) (s : State) : (s.onLink f).desk = s.desk := rfl

@[simp] theorem State.onSignal_pending (f : SignalUnit → SignalUnit) (s : State) : (s.onSignal f).pending = s.pending := rfl
@[simp] theorem State.onSignal_fed (f : SignalUnit → SignalUnit) (s : State) : (s.onSignal f).fed = s.fed := rfl
@[simp] theorem State.onSignal_running (f : SignalUnit → SignalUnit) (s : State) : (s.onSignal f).running = s.running := rfl
@[simp] theorem State.onSignal_straps (f : SignalUnit → SignalUnit) (s : State) : (s.onSignal f).straps = s.straps := rfl
@[simp] theorem State.onSignal_time (f : SignalUnit → SignalUnit) (s : State) : (s.onSignal f).time = s.time := rfl
@[simp] theorem State.onSignal_config (f : SignalUnit → SignalUnit) (s : State) : (s.onSignal f).config = s.config := rfl
@[simp] theorem State.onSignal_roster (f : SignalUnit → SignalUnit) (s : State) : (s.onSignal f).roster = s.roster := rfl
@[simp] theorem State.onSignal_digest (f : SignalUnit → SignalUnit) (s : State) : (s.onSignal f).digest = s.digest := rfl
@[simp] theorem State.onSignal_port (f : SignalUnit → SignalUnit) (s : State) : (s.onSignal f).port = s.port := rfl
@[simp] theorem State.onSignal_inputs (f : SignalUnit → SignalUnit) (s : State) : (s.onSignal f).inputs = s.inputs := rfl
@[simp] theorem State.onSignal_trip (f : SignalUnit → SignalUnit) (s : State) : (s.onSignal f).trip = s.trip := rfl
@[simp] theorem State.onSignal_peers (f : SignalUnit → SignalUnit) (s : State) : (s.onSignal f).peers = s.peers := rfl
@[simp] theorem State.onSignal_duplicateTimer (f : SignalUnit → SignalUnit) (s : State) : (s.onSignal f).duplicateTimer = s.duplicateTimer := rfl
@[simp] theorem State.onSignal_link (f : SignalUnit → SignalUnit) (s : State) : (s.onSignal f).link = s.link := rfl
@[simp] theorem State.onSignal_signal (f : SignalUnit → SignalUnit) (s : State) : (s.onSignal f).signal = f s.signal := rfl
@[simp] theorem State.onSignal_motion (f : SignalUnit → SignalUnit) (s : State) : (s.onSignal f).motion = s.motion := rfl
@[simp] theorem State.onSignal_closure (f : SignalUnit → SignalUnit) (s : State) : (s.onSignal f).closure = s.closure := rfl
@[simp] theorem State.onSignal_channel (f : SignalUnit → SignalUnit) (s : State) : (s.onSignal f).channel = s.channel := rfl
@[simp] theorem State.onSignal_desk (f : SignalUnit → SignalUnit) (s : State) : (s.onSignal f).desk = s.desk := rfl

@[simp] theorem State.onMotion_pending (f : MotionUnit → MotionUnit) (s : State) : (s.onMotion f).pending = s.pending := rfl
@[simp] theorem State.onMotion_fed (f : MotionUnit → MotionUnit) (s : State) : (s.onMotion f).fed = s.fed := rfl
@[simp] theorem State.onMotion_running (f : MotionUnit → MotionUnit) (s : State) : (s.onMotion f).running = s.running := rfl
@[simp] theorem State.onMotion_straps (f : MotionUnit → MotionUnit) (s : State) : (s.onMotion f).straps = s.straps := rfl
@[simp] theorem State.onMotion_time (f : MotionUnit → MotionUnit) (s : State) : (s.onMotion f).time = s.time := rfl
@[simp] theorem State.onMotion_config (f : MotionUnit → MotionUnit) (s : State) : (s.onMotion f).config = s.config := rfl
@[simp] theorem State.onMotion_roster (f : MotionUnit → MotionUnit) (s : State) : (s.onMotion f).roster = s.roster := rfl
@[simp] theorem State.onMotion_digest (f : MotionUnit → MotionUnit) (s : State) : (s.onMotion f).digest = s.digest := rfl
@[simp] theorem State.onMotion_port (f : MotionUnit → MotionUnit) (s : State) : (s.onMotion f).port = s.port := rfl
@[simp] theorem State.onMotion_inputs (f : MotionUnit → MotionUnit) (s : State) : (s.onMotion f).inputs = s.inputs := rfl
@[simp] theorem State.onMotion_trip (f : MotionUnit → MotionUnit) (s : State) : (s.onMotion f).trip = s.trip := rfl
@[simp] theorem State.onMotion_peers (f : MotionUnit → MotionUnit) (s : State) : (s.onMotion f).peers = s.peers := rfl
@[simp] theorem State.onMotion_duplicateTimer (f : MotionUnit → MotionUnit) (s : State) : (s.onMotion f).duplicateTimer = s.duplicateTimer := rfl
@[simp] theorem State.onMotion_link (f : MotionUnit → MotionUnit) (s : State) : (s.onMotion f).link = s.link := rfl
@[simp] theorem State.onMotion_signal (f : MotionUnit → MotionUnit) (s : State) : (s.onMotion f).signal = s.signal := rfl
@[simp] theorem State.onMotion_motion (f : MotionUnit → MotionUnit) (s : State) : (s.onMotion f).motion = f s.motion := rfl
@[simp] theorem State.onMotion_closure (f : MotionUnit → MotionUnit) (s : State) : (s.onMotion f).closure = s.closure := rfl
@[simp] theorem State.onMotion_channel (f : MotionUnit → MotionUnit) (s : State) : (s.onMotion f).channel = s.channel := rfl
@[simp] theorem State.onMotion_desk (f : MotionUnit → MotionUnit) (s : State) : (s.onMotion f).desk = s.desk := rfl

@[simp] theorem State.onClosure_pending (f : ClosureUnit → ClosureUnit) (s : State) : (s.onClosure f).pending = s.pending := rfl
@[simp] theorem State.onClosure_fed (f : ClosureUnit → ClosureUnit) (s : State) : (s.onClosure f).fed = s.fed := rfl
@[simp] theorem State.onClosure_running (f : ClosureUnit → ClosureUnit) (s : State) : (s.onClosure f).running = s.running := rfl
@[simp] theorem State.onClosure_straps (f : ClosureUnit → ClosureUnit) (s : State) : (s.onClosure f).straps = s.straps := rfl
@[simp] theorem State.onClosure_time (f : ClosureUnit → ClosureUnit) (s : State) : (s.onClosure f).time = s.time := rfl
@[simp] theorem State.onClosure_config (f : ClosureUnit → ClosureUnit) (s : State) : (s.onClosure f).config = s.config := rfl
@[simp] theorem State.onClosure_roster (f : ClosureUnit → ClosureUnit) (s : State) : (s.onClosure f).roster = s.roster := rfl
@[simp] theorem State.onClosure_digest (f : ClosureUnit → ClosureUnit) (s : State) : (s.onClosure f).digest = s.digest := rfl
@[simp] theorem State.onClosure_port (f : ClosureUnit → ClosureUnit) (s : State) : (s.onClosure f).port = s.port := rfl
@[simp] theorem State.onClosure_inputs (f : ClosureUnit → ClosureUnit) (s : State) : (s.onClosure f).inputs = s.inputs := rfl
@[simp] theorem State.onClosure_trip (f : ClosureUnit → ClosureUnit) (s : State) : (s.onClosure f).trip = s.trip := rfl
@[simp] theorem State.onClosure_peers (f : ClosureUnit → ClosureUnit) (s : State) : (s.onClosure f).peers = s.peers := rfl
@[simp] theorem State.onClosure_duplicateTimer (f : ClosureUnit → ClosureUnit) (s : State) : (s.onClosure f).duplicateTimer = s.duplicateTimer := rfl
@[simp] theorem State.onClosure_link (f : ClosureUnit → ClosureUnit) (s : State) : (s.onClosure f).link = s.link := rfl
@[simp] theorem State.onClosure_signal (f : ClosureUnit → ClosureUnit) (s : State) : (s.onClosure f).signal = s.signal := rfl
@[simp] theorem State.onClosure_motion (f : ClosureUnit → ClosureUnit) (s : State) : (s.onClosure f).motion = s.motion := rfl
@[simp] theorem State.onClosure_closure (f : ClosureUnit → ClosureUnit) (s : State) : (s.onClosure f).closure = f s.closure := rfl
@[simp] theorem State.onClosure_channel (f : ClosureUnit → ClosureUnit) (s : State) : (s.onClosure f).channel = s.channel := rfl
@[simp] theorem State.onClosure_desk (f : ClosureUnit → ClosureUnit) (s : State) : (s.onClosure f).desk = s.desk := rfl

@[simp] theorem State.onChannel_pending (f : ChannelUnit → ChannelUnit) (s : State) : (s.onChannel f).pending = s.pending := rfl
@[simp] theorem State.onChannel_fed (f : ChannelUnit → ChannelUnit) (s : State) : (s.onChannel f).fed = s.fed := rfl
@[simp] theorem State.onChannel_running (f : ChannelUnit → ChannelUnit) (s : State) : (s.onChannel f).running = s.running := rfl
@[simp] theorem State.onChannel_straps (f : ChannelUnit → ChannelUnit) (s : State) : (s.onChannel f).straps = s.straps := rfl
@[simp] theorem State.onChannel_time (f : ChannelUnit → ChannelUnit) (s : State) : (s.onChannel f).time = s.time := rfl
@[simp] theorem State.onChannel_config (f : ChannelUnit → ChannelUnit) (s : State) : (s.onChannel f).config = s.config := rfl
@[simp] theorem State.onChannel_roster (f : ChannelUnit → ChannelUnit) (s : State) : (s.onChannel f).roster = s.roster := rfl
@[simp] theorem State.onChannel_digest (f : ChannelUnit → ChannelUnit) (s : State) : (s.onChannel f).digest = s.digest := rfl
@[simp] theorem State.onChannel_port (f : ChannelUnit → ChannelUnit) (s : State) : (s.onChannel f).port = s.port := rfl
@[simp] theorem State.onChannel_inputs (f : ChannelUnit → ChannelUnit) (s : State) : (s.onChannel f).inputs = s.inputs := rfl
@[simp] theorem State.onChannel_trip (f : ChannelUnit → ChannelUnit) (s : State) : (s.onChannel f).trip = s.trip := rfl
@[simp] theorem State.onChannel_peers (f : ChannelUnit → ChannelUnit) (s : State) : (s.onChannel f).peers = s.peers := rfl
@[simp] theorem State.onChannel_duplicateTimer (f : ChannelUnit → ChannelUnit) (s : State) : (s.onChannel f).duplicateTimer = s.duplicateTimer := rfl
@[simp] theorem State.onChannel_link (f : ChannelUnit → ChannelUnit) (s : State) : (s.onChannel f).link = s.link := rfl
@[simp] theorem State.onChannel_signal (f : ChannelUnit → ChannelUnit) (s : State) : (s.onChannel f).signal = s.signal := rfl
@[simp] theorem State.onChannel_motion (f : ChannelUnit → ChannelUnit) (s : State) : (s.onChannel f).motion = s.motion := rfl
@[simp] theorem State.onChannel_closure (f : ChannelUnit → ChannelUnit) (s : State) : (s.onChannel f).closure = s.closure := rfl
@[simp] theorem State.onChannel_channel (f : ChannelUnit → ChannelUnit) (s : State) : (s.onChannel f).channel = f s.channel := rfl
@[simp] theorem State.onChannel_desk (f : ChannelUnit → ChannelUnit) (s : State) : (s.onChannel f).desk = s.desk := rfl

@[simp] theorem State.onDesk_pending (f : DeskUnit → DeskUnit) (s : State) : (s.onDesk f).pending = s.pending := rfl
@[simp] theorem State.onDesk_fed (f : DeskUnit → DeskUnit) (s : State) : (s.onDesk f).fed = s.fed := rfl
@[simp] theorem State.onDesk_running (f : DeskUnit → DeskUnit) (s : State) : (s.onDesk f).running = s.running := rfl
@[simp] theorem State.onDesk_straps (f : DeskUnit → DeskUnit) (s : State) : (s.onDesk f).straps = s.straps := rfl
@[simp] theorem State.onDesk_time (f : DeskUnit → DeskUnit) (s : State) : (s.onDesk f).time = s.time := rfl
@[simp] theorem State.onDesk_config (f : DeskUnit → DeskUnit) (s : State) : (s.onDesk f).config = s.config := rfl
@[simp] theorem State.onDesk_roster (f : DeskUnit → DeskUnit) (s : State) : (s.onDesk f).roster = s.roster := rfl
@[simp] theorem State.onDesk_digest (f : DeskUnit → DeskUnit) (s : State) : (s.onDesk f).digest = s.digest := rfl
@[simp] theorem State.onDesk_port (f : DeskUnit → DeskUnit) (s : State) : (s.onDesk f).port = s.port := rfl
@[simp] theorem State.onDesk_inputs (f : DeskUnit → DeskUnit) (s : State) : (s.onDesk f).inputs = s.inputs := rfl
@[simp] theorem State.onDesk_trip (f : DeskUnit → DeskUnit) (s : State) : (s.onDesk f).trip = s.trip := rfl
@[simp] theorem State.onDesk_peers (f : DeskUnit → DeskUnit) (s : State) : (s.onDesk f).peers = s.peers := rfl
@[simp] theorem State.onDesk_duplicateTimer (f : DeskUnit → DeskUnit) (s : State) : (s.onDesk f).duplicateTimer = s.duplicateTimer := rfl
@[simp] theorem State.onDesk_link (f : DeskUnit → DeskUnit) (s : State) : (s.onDesk f).link = s.link := rfl
@[simp] theorem State.onDesk_signal (f : DeskUnit → DeskUnit) (s : State) : (s.onDesk f).signal = s.signal := rfl
@[simp] theorem State.onDesk_motion (f : DeskUnit → DeskUnit) (s : State) : (s.onDesk f).motion = s.motion := rfl
@[simp] theorem State.onDesk_closure (f : DeskUnit → DeskUnit) (s : State) : (s.onDesk f).closure = s.closure := rfl
@[simp] theorem State.onDesk_channel (f : DeskUnit → DeskUnit) (s : State) : (s.onDesk f).channel = s.channel := rfl
@[simp] theorem State.onDesk_desk (f : DeskUnit → DeskUnit) (s : State) : (s.onDesk f).desk = f s.desk := rfl

@[simp] theorem State.setInput_pending (i : Fin 25) (x : InputLine) (s : State) : (State.setInput i x s).pending = s.pending := rfl
@[simp] theorem State.setInput_fed (i : Fin 25) (x : InputLine) (s : State) : (State.setInput i x s).fed = s.fed := rfl
@[simp] theorem State.setInput_running (i : Fin 25) (x : InputLine) (s : State) : (State.setInput i x s).running = s.running := rfl
@[simp] theorem State.setInput_straps (i : Fin 25) (x : InputLine) (s : State) : (State.setInput i x s).straps = s.straps := rfl
@[simp] theorem State.setInput_time (i : Fin 25) (x : InputLine) (s : State) : (State.setInput i x s).time = s.time := rfl
@[simp] theorem State.setInput_config (i : Fin 25) (x : InputLine) (s : State) : (State.setInput i x s).config = s.config := rfl
@[simp] theorem State.setInput_roster (i : Fin 25) (x : InputLine) (s : State) : (State.setInput i x s).roster = s.roster := rfl
@[simp] theorem State.setInput_digest (i : Fin 25) (x : InputLine) (s : State) : (State.setInput i x s).digest = s.digest := rfl
@[simp] theorem State.setInput_port (i : Fin 25) (x : InputLine) (s : State) : (State.setInput i x s).port = s.port := rfl
@[simp] theorem State.setInput_inputs (i : Fin 25) (x : InputLine) (s : State) : (State.setInput i x s).inputs = s.inputs.set i x := rfl
@[simp] theorem State.setInput_trip (i : Fin 25) (x : InputLine) (s : State) : (State.setInput i x s).trip = s.trip := rfl
@[simp] theorem State.setInput_peers (i : Fin 25) (x : InputLine) (s : State) : (State.setInput i x s).peers = s.peers := rfl
@[simp] theorem State.setInput_duplicateTimer (i : Fin 25) (x : InputLine) (s : State) : (State.setInput i x s).duplicateTimer = s.duplicateTimer := rfl
@[simp] theorem State.setInput_link (i : Fin 25) (x : InputLine) (s : State) : (State.setInput i x s).link = s.link := rfl
@[simp] theorem State.setInput_signal (i : Fin 25) (x : InputLine) (s : State) : (State.setInput i x s).signal = s.signal := rfl
@[simp] theorem State.setInput_motion (i : Fin 25) (x : InputLine) (s : State) : (State.setInput i x s).motion = s.motion := rfl
@[simp] theorem State.setInput_closure (i : Fin 25) (x : InputLine) (s : State) : (State.setInput i x s).closure = s.closure := rfl
@[simp] theorem State.setInput_channel (i : Fin 25) (x : InputLine) (s : State) : (State.setInput i x s).channel = s.channel := rfl
@[simp] theorem State.setInput_desk (i : Fin 25) (x : InputLine) (s : State) : (State.setInput i x s).desk = s.desk := rfl

@[simp] theorem State.setPeer_pending (j : Fin 12) (e : Option Entry) (s : State) : (State.setPeer j e s).pending = s.pending := rfl
@[simp] theorem State.setPeer_fed (j : Fin 12) (e : Option Entry) (s : State) : (State.setPeer j e s).fed = s.fed := rfl
@[simp] theorem State.setPeer_running (j : Fin 12) (e : Option Entry) (s : State) : (State.setPeer j e s).running = s.running := rfl
@[simp] theorem State.setPeer_straps (j : Fin 12) (e : Option Entry) (s : State) : (State.setPeer j e s).straps = s.straps := rfl
@[simp] theorem State.setPeer_time (j : Fin 12) (e : Option Entry) (s : State) : (State.setPeer j e s).time = s.time := rfl
@[simp] theorem State.setPeer_config (j : Fin 12) (e : Option Entry) (s : State) : (State.setPeer j e s).config = s.config := rfl
@[simp] theorem State.setPeer_roster (j : Fin 12) (e : Option Entry) (s : State) : (State.setPeer j e s).roster = s.roster := rfl
@[simp] theorem State.setPeer_digest (j : Fin 12) (e : Option Entry) (s : State) : (State.setPeer j e s).digest = s.digest := rfl
@[simp] theorem State.setPeer_port (j : Fin 12) (e : Option Entry) (s : State) : (State.setPeer j e s).port = s.port := rfl
@[simp] theorem State.setPeer_inputs (j : Fin 12) (e : Option Entry) (s : State) : (State.setPeer j e s).inputs = s.inputs := rfl
@[simp] theorem State.setPeer_trip (j : Fin 12) (e : Option Entry) (s : State) : (State.setPeer j e s).trip = s.trip := rfl
@[simp] theorem State.setPeer_peers (j : Fin 12) (e : Option Entry) (s : State) : (State.setPeer j e s).peers = s.peers.set j e := rfl
@[simp] theorem State.setPeer_duplicateTimer (j : Fin 12) (e : Option Entry) (s : State) : (State.setPeer j e s).duplicateTimer = s.duplicateTimer := rfl
@[simp] theorem State.setPeer_link (j : Fin 12) (e : Option Entry) (s : State) : (State.setPeer j e s).link = s.link := rfl
@[simp] theorem State.setPeer_signal (j : Fin 12) (e : Option Entry) (s : State) : (State.setPeer j e s).signal = s.signal := rfl
@[simp] theorem State.setPeer_motion (j : Fin 12) (e : Option Entry) (s : State) : (State.setPeer j e s).motion = s.motion := rfl
@[simp] theorem State.setPeer_closure (j : Fin 12) (e : Option Entry) (s : State) : (State.setPeer j e s).closure = s.closure := rfl
@[simp] theorem State.setPeer_channel (j : Fin 12) (e : Option Entry) (s : State) : (State.setPeer j e s).channel = s.channel := rfl
@[simp] theorem State.setPeer_desk (j : Fin 12) (e : Option Entry) (s : State) : (State.setPeer j e s).desk = s.desk := rfl

@[simp] theorem State.onLamp_pending (i : Fin 16) (f : Lamp → Lamp) (s : State) : (s.onLamp i f).pending = s.pending := rfl
@[simp] theorem State.onLamp_fed (i : Fin 16) (f : Lamp → Lamp) (s : State) : (s.onLamp i f).fed = s.fed := rfl
@[simp] theorem State.onLamp_running (i : Fin 16) (f : Lamp → Lamp) (s : State) : (s.onLamp i f).running = s.running := rfl
@[simp] theorem State.onLamp_straps (i : Fin 16) (f : Lamp → Lamp) (s : State) : (s.onLamp i f).straps = s.straps := rfl
@[simp] theorem State.onLamp_time (i : Fin 16) (f : Lamp → Lamp) (s : State) : (s.onLamp i f).time = s.time := rfl
@[simp] theorem State.onLamp_config (i : Fin 16) (f : Lamp → Lamp) (s : State) : (s.onLamp i f).config = s.config := rfl
@[simp] theorem State.onLamp_roster (i : Fin 16) (f : Lamp → Lamp) (s : State) : (s.onLamp i f).roster = s.roster := rfl
@[simp] theorem State.onLamp_digest (i : Fin 16) (f : Lamp → Lamp) (s : State) : (s.onLamp i f).digest = s.digest := rfl
@[simp] theorem State.onLamp_port (i : Fin 16) (f : Lamp → Lamp) (s : State) : (s.onLamp i f).port = s.port := rfl
@[simp] theorem State.onLamp_inputs (i : Fin 16) (f : Lamp → Lamp) (s : State) : (s.onLamp i f).inputs = s.inputs := rfl
@[simp] theorem State.onLamp_trip (i : Fin 16) (f : Lamp → Lamp) (s : State) : (s.onLamp i f).trip = s.trip := rfl
@[simp] theorem State.onLamp_peers (i : Fin 16) (f : Lamp → Lamp) (s : State) : (s.onLamp i f).peers = s.peers := rfl
@[simp] theorem State.onLamp_duplicateTimer (i : Fin 16) (f : Lamp → Lamp) (s : State) : (s.onLamp i f).duplicateTimer = s.duplicateTimer := rfl
@[simp] theorem State.onLamp_link (i : Fin 16) (f : Lamp → Lamp) (s : State) : (s.onLamp i f).link = s.link := rfl
@[simp] theorem State.onLamp_motion (i : Fin 16) (f : Lamp → Lamp) (s : State) : (s.onLamp i f).motion = s.motion := rfl
@[simp] theorem State.onLamp_closure (i : Fin 16) (f : Lamp → Lamp) (s : State) : (s.onLamp i f).closure = s.closure := rfl
@[simp] theorem State.onLamp_channel (i : Fin 16) (f : Lamp → Lamp) (s : State) : (s.onLamp i f).channel = s.channel := rfl
@[simp] theorem State.onLamp_desk (i : Fin 16) (f : Lamp → Lamp) (s : State) : (s.onLamp i f).desk = s.desk := rfl

@[simp] theorem State.onSounder_pending (k : Fin 2) (f : Sounder → Sounder) (s : State) : (s.onSounder k f).pending = s.pending := rfl
@[simp] theorem State.onSounder_fed (k : Fin 2) (f : Sounder → Sounder) (s : State) : (s.onSounder k f).fed = s.fed := rfl
@[simp] theorem State.onSounder_running (k : Fin 2) (f : Sounder → Sounder) (s : State) : (s.onSounder k f).running = s.running := rfl
@[simp] theorem State.onSounder_straps (k : Fin 2) (f : Sounder → Sounder) (s : State) : (s.onSounder k f).straps = s.straps := rfl
@[simp] theorem State.onSounder_time (k : Fin 2) (f : Sounder → Sounder) (s : State) : (s.onSounder k f).time = s.time := rfl
@[simp] theorem State.onSounder_config (k : Fin 2) (f : Sounder → Sounder) (s : State) : (s.onSounder k f).config = s.config := rfl
@[simp] theorem State.onSounder_roster (k : Fin 2) (f : Sounder → Sounder) (s : State) : (s.onSounder k f).roster = s.roster := rfl
@[simp] theorem State.onSounder_digest (k : Fin 2) (f : Sounder → Sounder) (s : State) : (s.onSounder k f).digest = s.digest := rfl
@[simp] theorem State.onSounder_port (k : Fin 2) (f : Sounder → Sounder) (s : State) : (s.onSounder k f).port = s.port := rfl
@[simp] theorem State.onSounder_inputs (k : Fin 2) (f : Sounder → Sounder) (s : State) : (s.onSounder k f).inputs = s.inputs := rfl
@[simp] theorem State.onSounder_trip (k : Fin 2) (f : Sounder → Sounder) (s : State) : (s.onSounder k f).trip = s.trip := rfl
@[simp] theorem State.onSounder_peers (k : Fin 2) (f : Sounder → Sounder) (s : State) : (s.onSounder k f).peers = s.peers := rfl
@[simp] theorem State.onSounder_duplicateTimer (k : Fin 2) (f : Sounder → Sounder) (s : State) : (s.onSounder k f).duplicateTimer = s.duplicateTimer := rfl
@[simp] theorem State.onSounder_link (k : Fin 2) (f : Sounder → Sounder) (s : State) : (s.onSounder k f).link = s.link := rfl
@[simp] theorem State.onSounder_motion (k : Fin 2) (f : Sounder → Sounder) (s : State) : (s.onSounder k f).motion = s.motion := rfl
@[simp] theorem State.onSounder_closure (k : Fin 2) (f : Sounder → Sounder) (s : State) : (s.onSounder k f).closure = s.closure := rfl
@[simp] theorem State.onSounder_channel (k : Fin 2) (f : Sounder → Sounder) (s : State) : (s.onSounder k f).channel = s.channel := rfl
@[simp] theorem State.onSounder_desk (k : Fin 2) (f : Sounder → Sounder) (s : State) : (s.onSounder k f).desk = s.desk := rfl

@[simp] theorem State.onArm_pending (i : Fin 4) (f : Arm → Arm) (s : State) : (s.onArm i f).pending = s.pending := rfl
@[simp] theorem State.onArm_fed (i : Fin 4) (f : Arm → Arm) (s : State) : (s.onArm i f).fed = s.fed := rfl
@[simp] theorem State.onArm_running (i : Fin 4) (f : Arm → Arm) (s : State) : (s.onArm i f).running = s.running := rfl
@[simp] theorem State.onArm_straps (i : Fin 4) (f : Arm → Arm) (s : State) : (s.onArm i f).straps = s.straps := rfl
@[simp] theorem State.onArm_time (i : Fin 4) (f : Arm → Arm) (s : State) : (s.onArm i f).time = s.time := rfl
@[simp] theorem State.onArm_config (i : Fin 4) (f : Arm → Arm) (s : State) : (s.onArm i f).config = s.config := rfl
@[simp] theorem State.onArm_roster (i : Fin 4) (f : Arm → Arm) (s : State) : (s.onArm i f).roster = s.roster := rfl
@[simp] theorem State.onArm_digest (i : Fin 4) (f : Arm → Arm) (s : State) : (s.onArm i f).digest = s.digest := rfl
@[simp] theorem State.onArm_port (i : Fin 4) (f : Arm → Arm) (s : State) : (s.onArm i f).port = s.port := rfl
@[simp] theorem State.onArm_inputs (i : Fin 4) (f : Arm → Arm) (s : State) : (s.onArm i f).inputs = s.inputs := rfl
@[simp] theorem State.onArm_trip (i : Fin 4) (f : Arm → Arm) (s : State) : (s.onArm i f).trip = s.trip := rfl
@[simp] theorem State.onArm_peers (i : Fin 4) (f : Arm → Arm) (s : State) : (s.onArm i f).peers = s.peers := rfl
@[simp] theorem State.onArm_duplicateTimer (i : Fin 4) (f : Arm → Arm) (s : State) : (s.onArm i f).duplicateTimer = s.duplicateTimer := rfl
@[simp] theorem State.onArm_link (i : Fin 4) (f : Arm → Arm) (s : State) : (s.onArm i f).link = s.link := rfl
@[simp] theorem State.onArm_signal (i : Fin 4) (f : Arm → Arm) (s : State) : (s.onArm i f).signal = s.signal := rfl
@[simp] theorem State.onArm_motion (i : Fin 4) (f : Arm → Arm) (s : State) : (s.onArm i f).motion = s.motion := rfl
@[simp] theorem State.onArm_channel (i : Fin 4) (f : Arm → Arm) (s : State) : (s.onArm i f).channel = s.channel := rfl
@[simp] theorem State.onArm_desk (i : Fin 4) (f : Arm → Arm) (s : State) : (s.onArm i f).desk = s.desk := rfl

@[simp] theorem State.onOutput_pending (f : OutputStage → OutputStage) (s : State) : (s.onOutput f).pending = s.pending := rfl
@[simp] theorem State.onOutput_fed (f : OutputStage → OutputStage) (s : State) : (s.onOutput f).fed = s.fed := rfl
@[simp] theorem State.onOutput_running (f : OutputStage → OutputStage) (s : State) : (s.onOutput f).running = s.running := rfl
@[simp] theorem State.onOutput_straps (f : OutputStage → OutputStage) (s : State) : (s.onOutput f).straps = s.straps := rfl
@[simp] theorem State.onOutput_time (f : OutputStage → OutputStage) (s : State) : (s.onOutput f).time = s.time := rfl
@[simp] theorem State.onOutput_config (f : OutputStage → OutputStage) (s : State) : (s.onOutput f).config = s.config := rfl
@[simp] theorem State.onOutput_roster (f : OutputStage → OutputStage) (s : State) : (s.onOutput f).roster = s.roster := rfl
@[simp] theorem State.onOutput_digest (f : OutputStage → OutputStage) (s : State) : (s.onOutput f).digest = s.digest := rfl
@[simp] theorem State.onOutput_port (f : OutputStage → OutputStage) (s : State) : (s.onOutput f).port = s.port := rfl
@[simp] theorem State.onOutput_inputs (f : OutputStage → OutputStage) (s : State) : (s.onOutput f).inputs = s.inputs := rfl
@[simp] theorem State.onOutput_trip (f : OutputStage → OutputStage) (s : State) : (s.onOutput f).trip = s.trip := rfl
@[simp] theorem State.onOutput_peers (f : OutputStage → OutputStage) (s : State) : (s.onOutput f).peers = s.peers := rfl
@[simp] theorem State.onOutput_duplicateTimer (f : OutputStage → OutputStage) (s : State) : (s.onOutput f).duplicateTimer = s.duplicateTimer := rfl
@[simp] theorem State.onOutput_link (f : OutputStage → OutputStage) (s : State) : (s.onOutput f).link = s.link := rfl
@[simp] theorem State.onOutput_signal (f : OutputStage → OutputStage) (s : State) : (s.onOutput f).signal = s.signal := rfl
@[simp] theorem State.onOutput_closure (f : OutputStage → OutputStage) (s : State) : (s.onOutput f).closure = s.closure := rfl
@[simp] theorem State.onOutput_channel (f : OutputStage → OutputStage) (s : State) : (s.onOutput f).channel = s.channel := rfl
@[simp] theorem State.onOutput_desk (f : OutputStage → OutputStage) (s : State) : (s.onOutput f).desk = s.desk := rfl

@[simp] theorem State.onBrake_pending (f : Brake → Brake) (s : State) : (s.onBrake f).pending = s.pending := rfl
@[simp] theorem State.onBrake_fed (f : Brake → Brake) (s : State) : (s.onBrake f).fed = s.fed := rfl
@[simp] theorem State.onBrake_running (f : Brake → Brake) (s : State) : (s.onBrake f).running = s.running := rfl
@[simp] theorem State.onBrake_straps (f : Brake → Brake) (s : State) : (s.onBrake f).straps = s.straps := rfl
@[simp] theorem State.onBrake_time (f : Brake → Brake) (s : State) : (s.onBrake f).time = s.time := rfl
@[simp] theorem State.onBrake_config (f : Brake → Brake) (s : State) : (s.onBrake f).config = s.config := rfl
@[simp] theorem State.onBrake_roster (f : Brake → Brake) (s : State) : (s.onBrake f).roster = s.roster := rfl
@[simp] theorem State.onBrake_digest (f : Brake → Brake) (s : State) : (s.onBrake f).digest = s.digest := rfl
@[simp] theorem State.onBrake_port (f : Brake → Brake) (s : State) : (s.onBrake f).port = s.port := rfl
@[simp] theorem State.onBrake_inputs (f : Brake → Brake) (s : State) : (s.onBrake f).inputs = s.inputs := rfl
@[simp] theorem State.onBrake_trip (f : Brake → Brake) (s : State) : (s.onBrake f).trip = s.trip := rfl
@[simp] theorem State.onBrake_peers (f : Brake → Brake) (s : State) : (s.onBrake f).peers = s.peers := rfl
@[simp] theorem State.onBrake_duplicateTimer (f : Brake → Brake) (s : State) : (s.onBrake f).duplicateTimer = s.duplicateTimer := rfl
@[simp] theorem State.onBrake_link (f : Brake → Brake) (s : State) : (s.onBrake f).link = s.link := rfl
@[simp] theorem State.onBrake_signal (f : Brake → Brake) (s : State) : (s.onBrake f).signal = s.signal := rfl
@[simp] theorem State.onBrake_closure (f : Brake → Brake) (s : State) : (s.onBrake f).closure = s.closure := rfl
@[simp] theorem State.onBrake_channel (f : Brake → Brake) (s : State) : (s.onBrake f).channel = s.channel := rfl
@[simp] theorem State.onBrake_desk (f : Brake → Brake) (s : State) : (s.onBrake f).desk = s.desk := rfl

@[simp] theorem State.onBolt_pending (f : Bolt → Bolt) (s : State) : (s.onBolt f).pending = s.pending := rfl
@[simp] theorem State.onBolt_fed (f : Bolt → Bolt) (s : State) : (s.onBolt f).fed = s.fed := rfl
@[simp] theorem State.onBolt_running (f : Bolt → Bolt) (s : State) : (s.onBolt f).running = s.running := rfl
@[simp] theorem State.onBolt_straps (f : Bolt → Bolt) (s : State) : (s.onBolt f).straps = s.straps := rfl
@[simp] theorem State.onBolt_time (f : Bolt → Bolt) (s : State) : (s.onBolt f).time = s.time := rfl
@[simp] theorem State.onBolt_config (f : Bolt → Bolt) (s : State) : (s.onBolt f).config = s.config := rfl
@[simp] theorem State.onBolt_roster (f : Bolt → Bolt) (s : State) : (s.onBolt f).roster = s.roster := rfl
@[simp] theorem State.onBolt_digest (f : Bolt → Bolt) (s : State) : (s.onBolt f).digest = s.digest := rfl
@[simp] theorem State.onBolt_port (f : Bolt → Bolt) (s : State) : (s.onBolt f).port = s.port := rfl
@[simp] theorem State.onBolt_inputs (f : Bolt → Bolt) (s : State) : (s.onBolt f).inputs = s.inputs := rfl
@[simp] theorem State.onBolt_trip (f : Bolt → Bolt) (s : State) : (s.onBolt f).trip = s.trip := rfl
@[simp] theorem State.onBolt_peers (f : Bolt → Bolt) (s : State) : (s.onBolt f).peers = s.peers := rfl
@[simp] theorem State.onBolt_duplicateTimer (f : Bolt → Bolt) (s : State) : (s.onBolt f).duplicateTimer = s.duplicateTimer := rfl
@[simp] theorem State.onBolt_link (f : Bolt → Bolt) (s : State) : (s.onBolt f).link = s.link := rfl
@[simp] theorem State.onBolt_signal (f : Bolt → Bolt) (s : State) : (s.onBolt f).signal = s.signal := rfl
@[simp] theorem State.onBolt_closure (f : Bolt → Bolt) (s : State) : (s.onBolt f).closure = s.closure := rfl
@[simp] theorem State.onBolt_channel (f : Bolt → Bolt) (s : State) : (s.onBolt f).channel = s.channel := rfl
@[simp] theorem State.onBolt_desk (f : Bolt → Bolt) (s : State) : (s.onBolt f).desk = s.desk := rfl

@[simp] theorem State.onProfile_pending (f : Profile → Profile) (s : State) : (s.onProfile f).pending = s.pending := rfl
@[simp] theorem State.onProfile_fed (f : Profile → Profile) (s : State) : (s.onProfile f).fed = s.fed := rfl
@[simp] theorem State.onProfile_running (f : Profile → Profile) (s : State) : (s.onProfile f).running = s.running := rfl
@[simp] theorem State.onProfile_straps (f : Profile → Profile) (s : State) : (s.onProfile f).straps = s.straps := rfl
@[simp] theorem State.onProfile_time (f : Profile → Profile) (s : State) : (s.onProfile f).time = s.time := rfl
@[simp] theorem State.onProfile_config (f : Profile → Profile) (s : State) : (s.onProfile f).config = s.config := rfl
@[simp] theorem State.onProfile_roster (f : Profile → Profile) (s : State) : (s.onProfile f).roster = s.roster := rfl
@[simp] theorem State.onProfile_digest (f : Profile → Profile) (s : State) : (s.onProfile f).digest = s.digest := rfl
@[simp] theorem State.onProfile_port (f : Profile → Profile) (s : State) : (s.onProfile f).port = s.port := rfl
@[simp] theorem State.onProfile_inputs (f : Profile → Profile) (s : State) : (s.onProfile f).inputs = s.inputs := rfl
@[simp] theorem State.onProfile_trip (f : Profile → Profile) (s : State) : (s.onProfile f).trip = s.trip := rfl
@[simp] theorem State.onProfile_peers (f : Profile → Profile) (s : State) : (s.onProfile f).peers = s.peers := rfl
@[simp] theorem State.onProfile_duplicateTimer (f : Profile → Profile) (s : State) : (s.onProfile f).duplicateTimer = s.duplicateTimer := rfl
@[simp] theorem State.onProfile_link (f : Profile → Profile) (s : State) : (s.onProfile f).link = s.link := rfl
@[simp] theorem State.onProfile_signal (f : Profile → Profile) (s : State) : (s.onProfile f).signal = s.signal := rfl
@[simp] theorem State.onProfile_closure (f : Profile → Profile) (s : State) : (s.onProfile f).closure = s.closure := rfl
@[simp] theorem State.onProfile_channel (f : Profile → Profile) (s : State) : (s.onProfile f).channel = s.channel := rfl
@[simp] theorem State.onProfile_desk (f : Profile → Profile) (s : State) : (s.onProfile f).desk = s.desk := rfl

@[simp] theorem State.onLine_pending (l : LinkLine) (f : LineUnit → LineUnit) (s : State) : (s.onLine l f).pending = s.pending := by cases l <;> rfl
@[simp] theorem State.onLine_running (l : LinkLine) (f : LineUnit → LineUnit) (s : State) : (s.onLine l f).running = s.running := by cases l <;> rfl
@[simp] theorem State.onLine_straps (l : LinkLine) (f : LineUnit → LineUnit) (s : State) : (s.onLine l f).straps = s.straps := by cases l <;> rfl
@[simp] theorem State.onLine_time (l : LinkLine) (f : LineUnit → LineUnit) (s : State) : (s.onLine l f).time = s.time := by cases l <;> rfl
@[simp] theorem State.onLine_config (l : LinkLine) (f : LineUnit → LineUnit) (s : State) : (s.onLine l f).config = s.config := by cases l <;> rfl
@[simp] theorem State.onLine_roster (l : LinkLine) (f : LineUnit → LineUnit) (s : State) : (s.onLine l f).roster = s.roster := by cases l <;> rfl
@[simp] theorem State.onLine_digest (l : LinkLine) (f : LineUnit → LineUnit) (s : State) : (s.onLine l f).digest = s.digest := by cases l <;> rfl
@[simp] theorem State.onLine_port (l : LinkLine) (f : LineUnit → LineUnit) (s : State) : (s.onLine l f).port = s.port := by cases l <;> rfl
@[simp] theorem State.onLine_inputs (l : LinkLine) (f : LineUnit → LineUnit) (s : State) : (s.onLine l f).inputs = s.inputs := by cases l <;> rfl
@[simp] theorem State.onLine_trip (l : LinkLine) (f : LineUnit → LineUnit) (s : State) : (s.onLine l f).trip = s.trip := by cases l <;> rfl
@[simp] theorem State.onLine_peers (l : LinkLine) (f : LineUnit → LineUnit) (s : State) : (s.onLine l f).peers = s.peers := by cases l <;> rfl
@[simp] theorem State.onLine_duplicateTimer (l : LinkLine) (f : LineUnit → LineUnit) (s : State) : (s.onLine l f).duplicateTimer = s.duplicateTimer := by cases l <;> rfl
@[simp] theorem State.onLine_signal (l : LinkLine) (f : LineUnit → LineUnit) (s : State) : (s.onLine l f).signal = s.signal := by cases l <;> rfl
@[simp] theorem State.onLine_motion (l : LinkLine) (f : LineUnit → LineUnit) (s : State) : (s.onLine l f).motion = s.motion := by cases l <;> rfl
@[simp] theorem State.onLine_closure (l : LinkLine) (f : LineUnit → LineUnit) (s : State) : (s.onLine l f).closure = s.closure := by cases l <;> rfl
@[simp] theorem State.onLine_channel (l : LinkLine) (f : LineUnit → LineUnit) (s : State) : (s.onLine l f).channel = s.channel := by cases l <;> rfl
@[simp] theorem State.onLine_desk (l : LinkLine) (f : LineUnit → LineUnit) (s : State) : (s.onLine l f).desk = s.desk := by cases l <;> rfl

/-! ### One input, entry, lamp, sounder, arm and line -/

@[simp] theorem State.line_onLine (l : LinkLine) (f : LineUnit → LineUnit) (s : State) :
    (s.onLine l f).line l = f (s.line l) := by cases l <;> rfl

theorem State.line_onLine_ne {l m : LinkLine} (h : m ≠ l) (f : LineUnit → LineUnit) (s : State) :
    (s.onLine l f).line m = s.line m := by cases l <;> cases m <;> first | rfl | exact absurd rfl h

@[simp] theorem State.lamp_onLamp (i : Fin 16) (f : Lamp → Lamp) (s : State) : (s.onLamp i f).lamp i = f (s.lamp i) := by
  simp [State.lamp, State.onLamp]

theorem State.lamp_onLamp_ne {i j : Fin 16} (h : j ≠ i) (f : Lamp → Lamp) (s : State) : (s.onLamp i f).lamp j = s.lamp j := by
  have : i.val ≠ j.val := fun e => h (Fin.ext e.symm)
  simp [State.lamp, State.onLamp, this]

@[simp] theorem State.arm_onArm (i : Fin 4) (f : Arm → Arm) (s : State) : (s.onArm i f).arm i = f (s.arm i) := by
  simp [State.arm, State.onArm]

theorem State.arm_onArm_ne {i j : Fin 4} (h : j ≠ i) (f : Arm → Arm) (s : State) : (s.onArm i f).arm j = s.arm j := by
  have : i.val ≠ j.val := fun e => h (Fin.ext e.symm)
  simp [State.arm, State.onArm, this]

@[simp] theorem State.sounder_onSounder (k : Fin 2) (f : Sounder → Sounder) (s : State) :
    (s.onSounder k f).sounder k = f (s.sounder k) := by simp [State.sounder, State.onSounder]

theorem State.sounder_onSounder_ne {k j : Fin 2} (h : j ≠ k) (f : Sounder → Sounder) (s : State) :
    (s.onSounder k f).sounder j = s.sounder j := by
  have : k.val ≠ j.val := fun e => h (Fin.ext e.symm)
  simp [State.sounder, State.onSounder, this]

@[simp] theorem State.inputLine_setInput (i : Fin 25) (x : InputLine) (s : State) : (s.setInput i x).inputLine i = x := by
  simp [State.inputLine, State.setInput]

theorem State.inputLine_setInput_ne {i j : Fin 25} (h : j ≠ i) (x : InputLine) (s : State) :
    (s.setInput i x).inputLine j = s.inputLine j := by
  have : i.val ≠ j.val := fun e => h (Fin.ext e.symm)
  simp [State.inputLine, State.setInput, this]

@[simp] theorem State.peer_setPeer (j : Fin 12) (e : Option Entry) (s : State) : (s.setPeer j e).peer j = e := by
  simp [State.peer, State.setPeer]

theorem State.peer_setPeer_ne {i j : Fin 12} (h : i ≠ j) (e : Option Entry) (s : State) :
    (s.setPeer j e).peer i = s.peer i := by
  have : j.val ≠ i.val := fun x => h (Fin.ext x.symm)
  simp [State.peer, State.setPeer, this]

end Sys2Proof.Machine
end

