-- ==== Sys2Proof/Laws/Frame.lean ====
section
/-! SUPPORT. What no role block, lamp, sounder or trip writes: `State.fixed` gathers it, and one lemma per operation says
that the operation keeps it. -/

set_option linter.unusedSimpArgs false
set_option linter.unusedTactic false
set_option linter.unreachableTactic false

namespace Sys2Proof.Machine

/-- Everything but what `roleBlocks` names. -/
structure Fixed where
  pending : List Instr
  running : Bool
  straps : Straps
  time : BitVec 16
  config : ConfigStore
  roster : Vector (Option Role) 12
  digest : Option Byte
  inputs : Vector InputLine 25
  peers : Vector (Option Entry) 12
  duplicateTimer : Timer
  link : Link
  orders : List Order
  mask : BitVec 24
  threshold : Nat
  orderNumber : Byte
  startInhibit : Bool
  resetEnable : Bool
  serial : SerialPort

/-- The state but for what `roleBlocks` names. -/
def State.fixed (s : State) : Fixed where
  pending := s.pending
  running := s.running
  straps := s.straps
  time := s.time
  config := s.config
  roster := s.roster
  digest := s.digest
  inputs := s.inputs
  peers := s.peers
  duplicateTimer := s.duplicateTimer
  link := s.link
  orders := s.port.orders
  mask := s.port.mask
  threshold := s.port.threshold
  orderNumber := s.port.orderNumber
  startInhibit := s.port.startInhibit
  resetEnable := s.port.resetEnable
  serial := s.port.serial

/-- States that agree in `fixed` differ only in the role blocks' part. -/
theorem unchangedBut_of_fixed {s t : State} (h : t.fixed = s.fixed) : UnchangedBut roleBlocks s t := by
  simp only [State.fixed, Fixed.mk.injEq] at h
  intro b hb
  cases b <;> simp_all [roleBlocks, same]

/-- A fold keeps what each of its steps keeps. -/
theorem foldl_fixed {α : Type} (g : State → α → State) (h : ∀ t x, (g t x).fixed = t.fixed) (l : List α) (s : State) :
    (l.foldl g s).fixed = s.fixed := by
  induction l generalizing s with
  | nil => rfl
  | cons x xs ih => rw [List.foldl_cons, ih, h]

@[simp] theorem State.onTrip_fixed (f : TripUnit → TripUnit) (s : State) : (s.onTrip f).fixed = s.fixed := rfl
@[simp] theorem State.onSignal_fixed (f : SignalUnit → SignalUnit) (s : State) : (s.onSignal f).fixed = s.fixed := rfl
@[simp] theorem State.onMotion_fixed (f : MotionUnit → MotionUnit) (s : State) : (s.onMotion f).fixed = s.fixed := rfl
@[simp] theorem State.onClosure_fixed (f : ClosureUnit → ClosureUnit) (s : State) : (s.onClosure f).fixed = s.fixed := rfl
@[simp] theorem State.onChannel_fixed (f : ChannelUnit → ChannelUnit) (s : State) : (s.onChannel f).fixed = s.fixed := rfl
@[simp] theorem State.onDesk_fixed (f : DeskUnit → DeskUnit) (s : State) : (s.onDesk f).fixed = s.fixed := rfl
@[simp] theorem State.onOutput_fixed (f : OutputStage → OutputStage) (s : State) : (s.onOutput f).fixed = s.fixed := rfl
@[simp] theorem State.onBrake_fixed (f : Brake → Brake) (s : State) : (s.onBrake f).fixed = s.fixed := rfl
@[simp] theorem State.onBolt_fixed (f : Bolt → Bolt) (s : State) : (s.onBolt f).fixed = s.fixed := rfl
@[simp] theorem State.onProfile_fixed (f : Profile → Profile) (s : State) : (s.onProfile f).fixed = s.fixed := rfl
@[simp] theorem State.onLamp_fixed (i : Fin 16) (f : Lamp → Lamp) (s : State) : (s.onLamp i f).fixed = s.fixed := rfl
@[simp] theorem State.onSounder_fixed (k : Fin 2) (f : Sounder → Sounder) (s : State) : (s.onSounder k f).fixed = s.fixed := rfl
@[simp] theorem State.onArm_fixed (i : Fin 4) (f : Arm → Arm) (s : State) : (s.onArm i f).fixed = s.fixed := rfl
@[simp] theorem State.setFed_fixed (b : Bool) (s : State) : (s.setFed b).fixed = s.fixed := rfl
@[simp] theorem feed_fixed (s t : State) : (feed s t).fixed = t.fixed := rfl
@[simp] theorem latch_fixed (c : Condition) (s : State) : (latch c s).fixed = s.fixed := rfl

@[simp] theorem submit_fixed (r : Report) (s : State) : (submit r s).fixed = s.fixed := by
  unfold submit; split <;> rfl

@[simp] theorem report_fixed (k : ReportKind) (a b c d e : Nat) (s : State) : (report k a b c d e s).fixed = s.fixed :=
  submit_fixed _ _

/-! ### Signal.lean -/

@[simp] theorem setProving_fixed (i : Fin 16) (p : Proving) (s : State) : (setProving i p s).fixed = s.fixed := by
  unfold setProving
  first | (simp [foldl_fixed, apply_ite State.fixed]; done) | ((repeat' split) <;> simp [foldl_fixed, apply_ite State.fixed])

@[simp] theorem windowSucceeds_fixed (i : Fin 16) (s : State) : (windowSucceeds i s).fixed = s.fixed := by
  unfold windowSucceeds
  first | (simp [foldl_fixed, apply_ite State.fixed]; done) | ((repeat' split) <;> simp [foldl_fixed, apply_ite State.fixed])

@[simp] theorem windowFails_fixed (i : Fin 16) (s : State) : (windowFails i s).fixed = s.fixed := by
  unfold windowFails
  first | (simp [foldl_fixed, apply_ite State.fixed]; done) | ((repeat' split) <;> simp [foldl_fixed, apply_ite State.fixed])

@[simp] theorem beginOnPhase_fixed (i : Fin 16) (s : State) : (beginOnPhase i s).fixed = s.fixed := by
  unfold beginOnPhase
  first | (simp [foldl_fixed, apply_ite State.fixed]; done) | ((repeat' split) <;> simp [foldl_fixed, apply_ite State.fixed])

@[simp] theorem endOnPhase_fixed (i : Fin 16) (byTimebase : Bool) (s : State) :
    (endOnPhase i byTimebase s).fixed = s.fixed := by
  unfold endOnPhase
  first | (simp [foldl_fixed, apply_ite State.fixed]; done) | ((repeat' split) <;> simp [foldl_fixed, apply_ite State.fixed])

@[simp] theorem requestMode_fixed (i : Fin 16) (m : LampMode) (s : State) : (requestMode i m s).fixed = s.fixed := by
  unfold requestMode
  first | (simp [foldl_fixed, apply_ite State.fixed]; done) | ((repeat' split) <;> simp [foldl_fixed, apply_ite State.fixed])

@[simp] theorem requestAnew_fixed (i : Fin 16) (s : State) : (requestAnew i s).fixed = s.fixed := by
  unfold requestAnew
  first | (simp [foldl_fixed, apply_ite State.fixed]; done) | ((repeat' split) <;> simp [foldl_fixed, apply_ite State.fixed])

@[simp] theorem requestRow_fixed (row : List (Fin 16 × LampMode)) (s : State) :
    (requestRow row s).fixed = s.fixed := by
  unfold requestRow
  first | (simp [foldl_fixed, apply_ite State.fixed]; done) | ((repeat' split) <;> simp [foldl_fixed, apply_ite State.fixed])

@[simp] theorem renewFailedReds_fixed (s : State) : (renewFailedReds s).fixed = s.fixed := by
  unfold renewFailedReds
  first | (simp [foldl_fixed, apply_ite State.fixed]; done) | ((repeat' split) <;> simp [foldl_fixed, apply_ite State.fixed])

@[simp] theorem senseEvent_fixed (i : Fin 16) (sensed : Bool) (s : State) :
    (senseEvent i sensed s).fixed = s.fixed := by
  unfold senseEvent
  first | (simp [foldl_fixed, apply_ite State.fixed]; done) | ((repeat' split) <;> simp [foldl_fixed, apply_ite State.fixed])

@[simp] theorem provingExpiry_fixed (i : Fin 16) (s : State) : (provingExpiry i s).fixed = s.fixed := by
  unfold provingExpiry
  first | (simp [foldl_fixed, apply_ite State.fixed]; done) | ((repeat' split) <;> simp [foldl_fixed, apply_ite State.fixed])

@[simp] theorem watchExpiry_fixed (i : Fin 16) (s : State) : (watchExpiry i s).fixed = s.fixed := by
  unfold watchExpiry
  first | (simp [foldl_fixed, apply_ite State.fixed]; done) | ((repeat' split) <;> simp [foldl_fixed, apply_ite State.fixed])

@[simp] theorem darkExpiry_fixed (i : Fin 16) (s : State) : (darkExpiry i s).fixed = s.fixed := by
  unfold darkExpiry
  first | (simp [foldl_fixed, apply_ite State.fixed]; done) | ((repeat' split) <;> simp [foldl_fixed, apply_ite State.fixed])

@[simp] theorem flashExpiry_fixed (s : State) : (flashExpiry s).fixed = s.fixed := by
  unfold flashExpiry
  first | (simp [foldl_fixed, apply_ite State.fixed]; done) | ((repeat' split) <;> simp [foldl_fixed, apply_ite State.fixed])

@[simp] theorem setNotProved_fixed (s : State) : (setNotProved s).fixed = s.fixed := by
  unfold setNotProved
  first | (simp [foldl_fixed, apply_ite State.fixed]; done) | ((repeat' split) <;> simp [foldl_fixed, apply_ite State.fixed])

@[simp] theorem requestPattern_fixed (k : Fin 2) (p : Pattern) (s : State) :
    (requestPattern k p s).fixed = s.fixed := by
  unfold requestPattern
  first | (simp [foldl_fixed, apply_ite State.fixed]; done) | ((repeat' split) <;> simp [foldl_fixed, apply_ite State.fixed])

@[simp] theorem stepExpiry_fixed (k : Fin 2) (s : State) : (stepExpiry k s).fixed = s.fixed := by
  unfold stepExpiry
  first | (simp [foldl_fixed, apply_ite State.fixed]; done) | ((repeat' split) <;> simp [foldl_fixed, apply_ite State.fixed])

@[simp] theorem requestSteady_fixed (k : Fin 2) (on : Bool) (s : State) : (requestSteady k on s).fixed = s.fixed := by
  unfold requestSteady
  first | (simp [foldl_fixed, apply_ite State.fixed]; done) | ((repeat' split) <;> simp [foldl_fixed, apply_ite State.fixed])

/-! ### Drive.lean -/

@[simp] theorem formPosition_fixed (s : State) : (formPosition s).fixed = s.fixed := by
  unfold formPosition
  first | (simp [foldl_fixed, apply_ite State.fixed]; done) | ((repeat' split) <;> simp [foldl_fixed, apply_ite State.fixed])

@[simp] theorem setPosition_fixed (s : State) : (setPosition s).fixed = s.fixed := by
  unfold setPosition
  first | (simp [foldl_fixed, apply_ite State.fixed]; done) | ((repeat' split) <;> simp [foldl_fixed, apply_ite State.fixed])

@[simp] theorem zeroCount_fixed (s : State) : (zeroCount s).fixed = s.fixed := by
  unfold zeroCount
  first | (simp [foldl_fixed, apply_ite State.fixed]; done) | ((repeat' split) <;> simp [foldl_fixed, apply_ite State.fixed])

@[simp] theorem setReferenced_fixed (r : Bool) (s : State) : (setReferenced r s).fixed = s.fixed := by
  unfold setReferenced
  first | (simp [foldl_fixed, apply_ite State.fixed]; done) | ((repeat' split) <;> simp [foldl_fixed, apply_ite State.fixed])

@[simp] theorem applyOutput_fixed (v : Int) (s : State) : (applyOutput v s).fixed = s.fixed := by
  unfold applyOutput
  first | (simp [foldl_fixed, apply_ite State.fixed]; done) | ((repeat' split) <;> simp [foldl_fixed, apply_ite State.fixed])

@[simp] theorem deadExpiry_fixed (s : State) : (deadExpiry s).fixed = s.fixed := by
  unfold deadExpiry
  first | (simp [foldl_fixed, apply_ite State.fixed]; done) | ((repeat' split) <;> simp [foldl_fixed, apply_ite State.fixed])

@[simp] theorem releaseRequest_fixed (s : State) : (releaseRequest s).fixed = s.fixed := by
  unfold releaseRequest
  first | (simp [foldl_fixed, apply_ite State.fixed]; done) | ((repeat' split) <;> simp [foldl_fixed, apply_ite State.fixed])

@[simp] theorem setRequest_fixed (s : State) : (setRequest s).fixed = s.fixed := by
  unfold setRequest
  first | (simp [foldl_fixed, apply_ite State.fixed]; done) | ((repeat' split) <;> simp [foldl_fixed, apply_ite State.fixed])

@[simp] theorem startDriving_fixed (s : State) : (startDriving s).fixed = s.fixed := by
  unfold startDriving
  first | (simp [foldl_fixed, apply_ite State.fixed]; done) | ((repeat' split) <;> simp [foldl_fixed, apply_ite State.fixed])

@[simp] theorem startWithdrawing_fixed (s : State) : (startWithdrawing s).fixed = s.fixed := by
  unfold startWithdrawing
  first | (simp [foldl_fixed, apply_ite State.fixed]; done) | ((repeat' split) <;> simp [foldl_fixed, apply_ite State.fixed])

@[simp] theorem restBolt_fixed (b : BoltState) (s : State) : (restBolt b s).fixed = s.fixed := by
  unfold restBolt
  first | (simp [foldl_fixed, apply_ite State.fixed]; done) | ((repeat' split) <;> simp [foldl_fixed, apply_ite State.fixed])

@[simp] theorem driveBolt_fixed (s : State) : (driveBolt s).fixed = s.fixed := by
  unfold driveBolt
  first | (simp [foldl_fixed, apply_ite State.fixed]; done) | ((repeat' split) <;> simp [foldl_fixed, apply_ite State.fixed])

@[simp] theorem withdrawBolt_fixed (s : State) : (withdrawBolt s).fixed = s.fixed := by
  unfold withdrawBolt
  first | (simp [foldl_fixed, apply_ite State.fixed]; done) | ((repeat' split) <;> simp [foldl_fixed, apply_ite State.fixed])

@[simp] theorem testDriveCondition_fixed (s : State) : (testDriveCondition s).fixed = s.fixed := by
  unfold testDriveCondition
  first | (simp [foldl_fixed, apply_ite State.fixed]; done) | ((repeat' split) <;> simp [foldl_fixed, apply_ite State.fixed])

@[simp] theorem captureGoal_fixed (s : State) : (captureGoal s).fixed = s.fixed := by
  unfold captureGoal
  first | (simp [foldl_fixed, apply_ite State.fixed]; done) | ((repeat' split) <;> simp [foldl_fixed, apply_ite State.fixed])

@[simp] theorem boltOnEntry_fixed (p : CornerPhase) (s : State) : (boltOnEntry p s).fixed = s.fixed := by
  unfold boltOnEntry
  first | (simp [foldl_fixed, apply_ite State.fixed]; done) | ((repeat' split) <;> simp [foldl_fixed, apply_ite State.fixed])

@[simp] theorem brakeOnEntry_fixed (p : CornerPhase) (s : State) : (brakeOnEntry p s).fixed = s.fixed := by
  unfold brakeOnEntry
  first | (simp [foldl_fixed, apply_ite State.fixed]; done) | ((repeat' split) <;> simp [foldl_fixed, apply_ite State.fixed])

@[simp] theorem homingOnEntry_fixed (p : CornerPhase) (s : State) : (homingOnEntry p s).fixed = s.fixed := by
  unfold homingOnEntry
  first | (simp [foldl_fixed, apply_ite State.fixed]; done) | ((repeat' split) <;> simp [foldl_fixed, apply_ite State.fixed])

@[simp] theorem enterCorner_fixed (p : CornerPhase) (rel : Intent) (s : State) :
    (enterCorner p rel s).fixed = s.fixed := by
  unfold enterCorner
  first | (simp [foldl_fixed, apply_ite State.fixed]; done) | ((repeat' split) <;> simp [foldl_fixed, apply_ite State.fixed])

/-! ### Arms.lean -/

@[simp] theorem driveArm_fixed (i : Fin 4) (s : State) : (driveArm i s).fixed = s.fixed := by
  unfold driveArm
  first | (simp [foldl_fixed, apply_ite State.fixed]; done) | ((repeat' split) <;> simp [foldl_fixed, apply_ite State.fixed])

@[simp] theorem gapExpiry_fixed (i : Fin 4) (s : State) : (gapExpiry i s).fixed = s.fixed := by
  unfold gapExpiry
  first | (simp [foldl_fixed, apply_ite State.fixed]; done) | ((repeat' split) <;> simp [foldl_fixed, apply_ite State.fixed])

@[simp] theorem enterArm_fixed (i : Fin 4) (x : ArmState) (event : Nat) (s : State) :
    (enterArm i x event s).fixed = s.fixed := by
  unfold enterArm
  first | (simp [foldl_fixed, apply_ite State.fixed]; done) | ((repeat' split) <;> simp [foldl_fixed, apply_ite State.fixed])

@[simp] theorem faultArm_fixed (i : Fin 4) (c : ArmFault) (s : State) : (faultArm i c s).fixed = s.fixed := by
  unfold faultArm
  first | (simp [foldl_fixed, apply_ite State.fixed]; done) | ((repeat' split) <;> simp [foldl_fixed, apply_ite State.fixed])

@[simp] theorem arriveBelow_fixed (i : Fin 4) (s : State) : (arriveBelow i s).fixed = s.fixed := by
  unfold arriveBelow
  first | (simp [foldl_fixed, apply_ite State.fixed]; done) | ((repeat' split) <;> simp [foldl_fixed, apply_ite State.fixed])

@[simp] theorem beginLowering_fixed (i : Fin 4) (s : State) : (beginLowering i s).fixed = s.fixed := by
  unfold beginLowering
  first | (simp [foldl_fixed, apply_ite State.fixed]; done) | ((repeat' split) <;> simp [foldl_fixed, apply_ite State.fixed])

@[simp] theorem endRaise_fixed (i : Fin 4) (s : State) : (endRaise i s).fixed = s.fixed := by
  unfold endRaise
  first | (simp [foldl_fixed, apply_ite State.fixed]; done) | ((repeat' split) <;> simp [foldl_fixed, apply_ite State.fixed])

@[simp] theorem beginRaise_fixed (i : Fin 4) (reversing : Bool) (s : State) :
    (beginRaise i reversing s).fixed = s.fixed := by
  unfold beginRaise
  first | (simp [foldl_fixed, apply_ite State.fixed]; done) | ((repeat' split) <;> simp [foldl_fixed, apply_ite State.fixed])

@[simp] theorem reverseArm_fixed (i : Fin 4) (s : State) : (reverseArm i s).fixed = s.fixed := by
  unfold reverseArm
  first | (simp [foldl_fixed, apply_ite State.fixed]; done) | ((repeat' split) <;> simp [foldl_fixed, apply_ite State.fixed])

@[simp] theorem takePattern_fixed (i : Fin 4) (s : State) : (takePattern i s).fixed = s.fixed := by
  unfold takePattern
  first | (simp [foldl_fixed, apply_ite State.fixed]; done) | ((repeat' split) <;> simp [foldl_fixed, apply_ite State.fixed])

@[simp] theorem stopArm_fixed (i : Fin 4) (s : State) : (stopArm i s).fixed = s.fixed := by
  unfold stopArm
  first | (simp [foldl_fixed, apply_ite State.fixed]; done) | ((repeat' split) <;> simp [foldl_fixed, apply_ite State.fixed])

@[simp] theorem commandArm_fixed (i : Fin 4) (c : ArmCommand) (s : State) : (commandArm i c s).fixed = s.fixed := by
  unfold commandArm
  dsimp only
  (repeat' split) <;> simp

@[simp] theorem commandArms_fixed (which : Fin 4 → Bool) (c : ArmCommand) (s : State) :
    (commandArms which c s).fixed = s.fixed := by
  unfold commandArms
  first | (simp [foldl_fixed, apply_ite State.fixed]; done) | ((repeat' split) <;> simp [foldl_fixed, apply_ite State.fixed])

@[simp] theorem tripArm_fixed (i : Fin 4) (s : State) : (tripArm i s).fixed = s.fixed := by
  unfold tripArm
  first | (simp [foldl_fixed, apply_ite State.fixed]; done) | ((repeat' split) <;> simp [foldl_fixed, apply_ite State.fixed])

@[simp] theorem newClosure_fixed (s : State) : (newClosure s).fixed = s.fixed := by
  unfold newClosure
  exact foldl_fixed (fun t i => t.onArm i fun a => { a with retry := 0 }) (fun _ _ => rfl) _ _

@[simp] theorem patternEvent_fixed (i : Fin 4) (old : LimitPattern) (s : State) :
    (patternEvent i old s).fixed = s.fixed := by
  unfold patternEvent
  first | (simp [foldl_fixed, apply_ite State.fixed]; done) | ((repeat' split) <;> simp [foldl_fixed, apply_ite State.fixed])

@[simp] theorem presenceEvent_fixed (i : Fin 4) (active : Bool) (s : State) :
    (presenceEvent i active s).fixed = s.fixed := by
  unfold presenceEvent
  first | (simp [foldl_fixed, apply_ite State.fixed]; done) | ((repeat' split) <;> simp [foldl_fixed, apply_ite State.fixed])

@[simp] theorem armTravelExpiry_fixed (i : Fin 4) (s : State) : (armTravelExpiry i s).fixed = s.fixed := by
  unfold armTravelExpiry
  first | (simp [foldl_fixed, apply_ite State.fixed]; done) | ((repeat' split) <;> simp [foldl_fixed, apply_ite State.fixed])

@[simp] theorem retryExpiry_fixed (i : Fin 4) (s : State) : (retryExpiry i s).fixed = s.fixed := by
  unfold retryExpiry
  first | (simp [foldl_fixed, apply_ite State.fixed]; done) | ((repeat' split) <;> simp [foldl_fixed, apply_ite State.fixed])

@[simp] theorem laneExpiry_fixed (i : Fin 4) (s : State) : (laneExpiry i s).fixed = s.fixed := by
  unfold laneExpiry
  first | (simp [foldl_fixed, apply_ite State.fixed]; done) | ((repeat' split) <;> simp [foldl_fixed, apply_ite State.fixed])

@[simp] theorem deriveArm_fixed (i : Fin 4) (s : State) : (deriveArm i s).fixed = s.fixed := by
  unfold deriveArm
  first | (simp [foldl_fixed, apply_ite State.fixed]; done) | ((repeat' split) <;> simp [foldl_fixed, apply_ite State.fixed])

@[simp] theorem deriveArms_fixed (s : State) : (deriveArms s).fixed = s.fixed := by
  unfold deriveArms
  first | (simp [foldl_fixed, apply_ite State.fixed]; done) | ((repeat' split) <;> simp [foldl_fixed, apply_ite State.fixed])

/-! ### Roles.lean -/

@[simp] theorem startDeckTimers_fixed (s : State) : (startDeckTimers s).fixed = s.fixed := by
  unfold startDeckTimers
  first | (simp [foldl_fixed, apply_ite State.fixed]; done) | ((repeat' split) <;> simp [foldl_fixed, apply_ite State.fixed])

@[simp] theorem approachActions_fixed (p : ApproachPhase) (s : State) : (approachActions p s).fixed = s.fixed := by
  unfold approachActions
  first | (simp [foldl_fixed, apply_ite State.fixed]; done) | ((repeat' split) <;> simp [foldl_fixed, apply_ite State.fixed])

@[simp] theorem enterApproach_fixed (p : ApproachPhase) (held : Option ApproachPhase) (s : State) :
    (enterApproach p held s).fixed = s.fixed := by
  unfold enterApproach
  first | (simp [foldl_fixed, apply_ite State.fixed]; done) | ((repeat' split) <;> simp [foldl_fixed, apply_ite State.fixed])

@[simp] theorem testVesselAlert_fixed (s : State) : (testVesselAlert s).fixed = s.fixed := by
  unfold testVesselAlert
  first | (simp [foldl_fixed, apply_ite State.fixed]; done) | ((repeat' split) <;> simp [foldl_fixed, apply_ite State.fixed])

@[simp] theorem enterChannel_fixed (p : ChannelPhase) (s : State) : (enterChannel p s).fixed = s.fixed := by
  unfold enterChannel
  first | (simp [foldl_fixed, apply_ite State.fixed]; done) | ((repeat' split) <;> simp [foldl_fixed, apply_ite State.fixed])

@[simp] theorem takeFallback_fixed (s : State) : (takeFallback s).fixed = s.fixed := by
  unfold takeFallback
  first | (simp [foldl_fixed, apply_ite State.fixed]; done) | ((repeat' split) <;> simp [foldl_fixed, apply_ite State.fixed])

@[simp] theorem deskIndicators_fixed (s : State) : (deskIndicators s).fixed = s.fixed := by
  unfold deskIndicators
  first | (simp [foldl_fixed, apply_ite State.fixed]; done) | ((repeat' split) <;> simp [foldl_fixed, apply_ite State.fixed])

@[simp] theorem enterDesk_fixed (p : DeskPhase) (held : Demand) (s : State) :
    (enterDesk p held s).fixed = s.fixed := by
  unfold enterDesk
  first | (simp [foldl_fixed, apply_ite State.fixed]; done) | ((repeat' split) <;> simp [foldl_fixed, apply_ite State.fixed])

/-! ### Trip.lean -/

@[simp] theorem enterTripped_fixed (s : State) : (enterTripped s).fixed = s.fixed := by
  unfold enterTripped
  first | (simp [foldl_fixed, apply_ite State.fixed]; done) | ((repeat' split) <;> simp [foldl_fixed, apply_ite State.fixed])

@[simp] theorem tripReport_fixed (c : Cause) (before after : Nat) (s : State) :
    (tripReport c before after s).fixed = s.fixed := by
  unfold tripReport
  first | (simp [foldl_fixed, apply_ite State.fixed]; done) | ((repeat' split) <;> simp [foldl_fixed, apply_ite State.fixed])

@[simp] theorem submitCause_fixed (c : Cause) (s : State) : (submitCause c s).fixed = s.fixed := by
  unfold submitCause
  first | (simp [foldl_fixed, apply_ite State.fixed]; done) | ((repeat' split) <;> simp [foldl_fixed, apply_ite State.fixed])

@[simp] theorem submitIf_fixed (b : Bool) (c : Cause) (s : State) : (submitIf b c s).fixed = s.fixed := by
  unfold submitIf
  first | (simp [foldl_fixed, apply_ite State.fixed]; done) | ((repeat' split) <;> simp [foldl_fixed, apply_ite State.fixed])

/-! ### Corner.lean -/

@[simp] theorem skewTest_fixed (s : State) : (skewTest s).fixed = s.fixed := by
  unfold skewTest
  first | (simp [foldl_fixed, apply_ite State.fixed]; done) | ((repeat' split) <;> simp [foldl_fixed, apply_ite State.fixed])

@[simp] theorem sympathyTest_fixed (s : State) : (sympathyTest s).fixed = s.fixed := by
  unfold sympathyTest
  first | (simp [foldl_fixed, apply_ite State.fixed]; done) | ((repeat' split) <;> simp [foldl_fixed, apply_ite State.fixed])

@[simp] theorem silentTest_fixed (s : State) : (silentTest s).fixed = s.fixed := by
  unfold silentTest
  first | (simp [foldl_fixed, apply_ite State.fixed]; done) | ((repeat' split) <;> simp [foldl_fixed, apply_ite State.fixed])

@[simp] theorem arriveAtSeat_fixed (s : State) : (arriveAtSeat s).fixed = s.fixed := by
  unfold arriveAtSeat
  first | (simp [foldl_fixed, apply_ite State.fixed]; done) | ((repeat' split) <;> simp [foldl_fixed, apply_ite State.fixed])

@[simp] theorem seatCapture_fixed (s : State) : (seatCapture s).fixed = s.fixed := by
  unfold seatCapture
  first | (simp [foldl_fixed, apply_ite State.fixed]; done) | ((repeat' split) <;> simp [foldl_fixed, apply_ite State.fixed])

@[simp] theorem completeHoming_fixed (s : State) : (completeHoming s).fixed = s.fixed := by
  unfold completeHoming
  first | (simp [foldl_fixed, apply_ite State.fixed]; done) | ((repeat' split) <;> simp [foldl_fixed, apply_ite State.fixed])

@[simp] theorem toCorner_fixed (p : CornerPhase) (rel : Intent) (s : State) : (toCorner p rel s).fixed = s.fixed := by
  unfold toCorner
  first | (simp [foldl_fixed, apply_ite State.fixed]; done) | ((repeat' split) <;> simp [foldl_fixed, apply_ite State.fixed])

@[simp] theorem toLowering_fixed (s : State) : (toLowering s).fixed = s.fixed := by
  unfold toLowering
  first | (simp [foldl_fixed, apply_ite State.fixed]; done) | ((repeat' split) <;> simp [foldl_fixed, apply_ite State.fixed])

@[simp] theorem toRaising_fixed (s : State) : (toRaising s).fixed = s.fixed := by
  unfold toRaising
  first | (simp [foldl_fixed, apply_ite State.fixed]; done) | ((repeat' split) <;> simp [foldl_fixed, apply_ite State.fixed])

@[simp] theorem haltLeftBehind_fixed (s : State) : (haltLeftBehind s).fixed = s.fixed := by
  unfold haltLeftBehind
  first | (simp [foldl_fixed, apply_ite State.fixed]; done) | ((repeat' split) <;> simp [foldl_fixed, apply_ite State.fixed])

@[simp] theorem abandonRelease_fixed (s : State) : (abandonRelease s).fixed = s.fixed := by
  unfold abandonRelease
  first | (simp [foldl_fixed, apply_ite State.fixed]; done) | ((repeat' split) <;> simp [foldl_fixed, apply_ite State.fixed])

@[simp] theorem failHoming_fixed (s : State) : (failHoming s).fixed = s.fixed := by
  unfold failHoming
  first | (simp [foldl_fixed, apply_ite State.fixed]; done) | ((repeat' split) <;> simp [foldl_fixed, apply_ite State.fixed])

theorem cornerCondition_fixed (s : State) : ∀ t, cornerCondition s = some t → t.fixed = s.fixed := by
  unfold cornerCondition
  try dsimp only
  (repeat' split) <;> simp

@[simp] theorem cornerSettle_fixed (fuel : Nat) (s : State) : (cornerSettle fuel s).fixed = s.fixed := by
  induction fuel generalizing s with
  | zero => rfl
  | succ n ih =>
    unfold cornerSettle
    split
    · rfl
    · rename_i t h
      rw [ih, cornerCondition_fixed s t h]

@[simp] theorem clearLeftBehind_fixed (s : State) : (clearLeftBehind s).fixed = s.fixed := by
  unfold clearLeftBehind
  first | (simp [foldl_fixed, apply_ite State.fixed]; done) | ((repeat' split) <;> simp [foldl_fixed, apply_ite State.fixed])

@[simp] theorem cornerReact_fixed (s : State) : (cornerReact s).fixed = s.fixed := by
  unfold cornerReact
  first | (simp [foldl_fixed, apply_ite State.fixed]; done) | ((repeat' split) <;> simp [foldl_fixed, apply_ite State.fixed])

@[simp] theorem reactIfMoved_fixed (before after : State) : (reactIfMoved before after).fixed = after.fixed := by
  unfold reactIfMoved
  first | (simp [foldl_fixed, apply_ite State.fixed]; done) | ((repeat' split) <;> simp [foldl_fixed, apply_ite State.fixed])

@[simp] theorem seatEvent_fixed (active : Bool) (s : State) : (seatEvent active s).fixed = s.fixed := by
  unfold seatEvent
  first | (simp [foldl_fixed, apply_ite State.fixed]; done) | ((repeat' split) <;> simp [foldl_fixed, apply_ite State.fixed])

@[simp] theorem faultBolt_fixed (s : State) : (faultBolt s).fixed = s.fixed := by
  unfold faultBolt
  first | (simp [foldl_fixed, apply_ite State.fixed]; done) | ((repeat' split) <;> simp [foldl_fixed, apply_ite State.fixed])

@[simp] theorem boltEvent_fixed (s : State) : (boltEvent s).fixed = s.fixed := by
  unfold boltEvent
  first | (simp [foldl_fixed, apply_ite State.fixed]; done) | ((repeat' split) <;> simp [foldl_fixed, apply_ite State.fixed])

@[simp] theorem feedbackEvent_fixed (released : Bool) (s : State) : (feedbackEvent released s).fixed = s.fixed := by
  unfold feedbackEvent
  first | (simp [foldl_fixed, apply_ite State.fixed]; done) | ((repeat' split) <;> simp [foldl_fixed, apply_ite State.fixed])

@[simp] theorem brakeExpiry_fixed (s : State) : (brakeExpiry s).fixed = s.fixed := by
  unfold brakeExpiry
  first | (simp [foldl_fixed, apply_ite State.fixed]; done) | ((repeat' split) <;> simp [foldl_fixed, apply_ite State.fixed])

@[simp] theorem setCheckExpiry_fixed (s : State) : (setCheckExpiry s).fixed = s.fixed := by
  unfold setCheckExpiry
  first | (simp [foldl_fixed, apply_ite State.fixed]; done) | ((repeat' split) <;> simp [foldl_fixed, apply_ite State.fixed])

@[simp] theorem holdExpiry_fixed (s : State) : (holdExpiry s).fixed = s.fixed := by
  unfold holdExpiry
  first | (simp [foldl_fixed, apply_ite State.fixed]; done) | ((repeat' split) <;> simp [foldl_fixed, apply_ite State.fixed])

@[simp] theorem boltTimeout_fixed (s : State) : (boltTimeout s).fixed = s.fixed := by
  unfold boltTimeout
  first | (simp [foldl_fixed, apply_ite State.fixed]; done) | ((repeat' split) <;> simp [foldl_fixed, apply_ite State.fixed])

@[simp] theorem stallExpiry_fixed (s : State) : (stallExpiry s).fixed = s.fixed := by
  unfold stallExpiry
  first | (simp [foldl_fixed, apply_ite State.fixed]; done) | ((repeat' split) <;> simp [foldl_fixed, apply_ite State.fixed])

@[simp] theorem referenceAtRun_fixed (s : State) : (referenceAtRun s).fixed = s.fixed := by
  unfold referenceAtRun
  first | (simp [foldl_fixed, apply_ite State.fixed]; done) | ((repeat' split) <;> simp [foldl_fixed, apply_ite State.fixed])

@[simp] theorem deriveBolt_fixed (s : State) : (deriveBolt s).fixed = s.fixed := by
  unfold deriveBolt
  first | (simp [foldl_fixed, apply_ite State.fixed]; done) | ((repeat' split) <;> simp [foldl_fixed, apply_ite State.fixed])

@[simp] theorem runCorner_fixed (s : State) : (runCorner s).fixed = s.fixed := by
  unfold runCorner
  first | (simp [foldl_fixed, apply_ite State.fixed]; done) | ((repeat' split) <;> simp [foldl_fixed, apply_ite State.fixed])

/-! ### Motion.lean -/

@[simp] theorem storeProfile_fixed (p : Profile) (s : State) : (storeProfile p s).fixed = s.fixed := by
  unfold storeProfile
  first | (simp [foldl_fixed, apply_ite State.fixed]; done) | ((repeat' split) <;> simp [foldl_fixed, apply_ite State.fixed])

@[simp] theorem profileWork_fixed (s : State) : (profileWork s).fixed = s.fixed := by
  unfold profileWork
  first | (simp [foldl_fixed, apply_ite State.fixed]; done) | ((repeat' split) <;> simp [foldl_fixed, apply_ite State.fixed])

@[simp] theorem outputWork_fixed (s : State) : (outputWork s).fixed = s.fixed := by
  unfold outputWork
  first | (simp [foldl_fixed, apply_ite State.fixed]; done) | ((repeat' split) <;> simp [foldl_fixed, apply_ite State.fixed])

@[simp] theorem stallWork_fixed (s : State) : (stallWork s).fixed = s.fixed := by
  unfold stallWork
  first | (simp [foldl_fixed, apply_ite State.fixed]; done) | ((repeat' split) <;> simp [foldl_fixed, apply_ite State.fixed])

@[simp] theorem supervise_fixed (s : State) : (supervise s).fixed = s.fixed := by
  unfold supervise
  first | (simp [foldl_fixed, apply_ite State.fixed]; done) | ((repeat' split) <;> simp [foldl_fixed, apply_ite State.fixed])

@[simp] theorem controlWork_fixed (s : State) : (controlWork s).fixed = s.fixed := by
  unfold controlWork
  first | (simp [foldl_fixed, apply_ite State.fixed]; done) | ((repeat' split) <;> simp [foldl_fixed, apply_ite State.fixed])

@[simp] theorem encoderSample_fixed (a b : Bool) (s : State) : (encoderSample a b s).fixed = s.fixed := by
  unfold encoderSample
  dsimp only
  (repeat' split) <;> simp

/-! ### Closure.lean -/

@[simp] theorem setHold_fixed (s : State) : (setHold s).fixed = s.fixed := by
  unfold setHold
  first | (simp [foldl_fixed, apply_ite State.fixed]; done) | ((repeat' split) <;> simp [foldl_fixed, apply_ite State.fixed])

@[simp] theorem completeStage_fixed (next : ApproachPhase) (s : State) : (completeStage next s).fixed = s.fixed := by
  unfold completeStage
  first | (simp [foldl_fixed, apply_ite State.fixed]; done) | ((repeat' split) <;> simp [foldl_fixed, apply_ite State.fixed])

theorem approachCondition_fixed (s : State) : ∀ t, approachCondition s = some t → t.fixed = s.fixed := by
  unfold approachCondition
  try dsimp only
  (repeat' split) <;> simp

@[simp] theorem approachSettle_fixed (fuel : Nat) (s : State) : (approachSettle fuel s).fixed = s.fixed := by
  induction fuel generalizing s with
  | zero => rfl
  | succ n ih =>
    unfold approachSettle
    split
    · rfl
    · rename_i t h
      rw [ih, approachCondition_fixed s t h]

@[simp] theorem approachReact_fixed (s : State) : (approachReact s).fixed = s.fixed := by
  unfold approachReact
  first | (simp [foldl_fixed, apply_ite State.fixed]; done) | ((repeat' split) <;> simp [foldl_fixed, apply_ite State.fixed])

@[simp] theorem amberExpiry_fixed (s : State) : (amberExpiry s).fixed = s.fixed := by
  unfold amberExpiry
  first | (simp [foldl_fixed, apply_ite State.fixed]; done) | ((repeat' split) <;> simp [foldl_fixed, apply_ite State.fixed])

@[simp] theorem redExpiry_fixed (s : State) : (redExpiry s).fixed = s.fixed := by
  unfold redExpiry
  first | (simp [foldl_fixed, apply_ite State.fixed]; done) | ((repeat' split) <;> simp [foldl_fixed, apply_ite State.fixed])

@[simp] theorem deckClearExpiry_fixed (s : State) : (deckClearExpiry s).fixed = s.fixed := by
  unfold deckClearExpiry
  first | (simp [foldl_fixed, apply_ite State.fixed]; done) | ((repeat' split) <;> simp [foldl_fixed, apply_ite State.fixed])

@[simp] theorem deckLimitExpiry_fixed (s : State) : (deckLimitExpiry s).fixed = s.fixed := by
  unfold deckLimitExpiry
  first | (simp [foldl_fixed, apply_ite State.fixed]; done) | ((repeat' split) <;> simp [foldl_fixed, apply_ite State.fixed])

@[simp] theorem followDeck_fixed (old : Bool) (s : State) : (followDeck old s).fixed = s.fixed := by
  unfold followDeck
  first | (simp [foldl_fixed, apply_ite State.fixed]; done) | ((repeat' split) <;> simp [foldl_fixed, apply_ite State.fixed])

@[simp] theorem runApproach_fixed (s : State) : (runApproach s).fixed = s.fixed := by
  unfold runApproach
  first | (simp [foldl_fixed, apply_ite State.fixed]; done) | ((repeat' split) <;> simp [foldl_fixed, apply_ite State.fixed])

@[simp] theorem acceptArm_fixed (i : Fin 4) (s : State) : (acceptArm i s).fixed = s.fixed := by
  unfold acceptArm
  first | (simp [foldl_fixed, apply_ite State.fixed]; done) | ((repeat' split) <;> simp [foldl_fixed, apply_ite State.fixed])

@[simp] theorem actOnCommand_fixed (i : Fin 4) (s : State) : (actOnCommand i s).fixed = s.fixed := by
  unfold actOnCommand
  first | (simp [foldl_fixed, apply_ite State.fixed]; done) | ((repeat' split) <;> simp [foldl_fixed, apply_ite State.fixed])

@[simp] theorem resetArm_fixed (i : Fin 4) (s : State) : (resetArm i s).fixed = s.fixed := by
  unfold resetArm
  first | (simp [foldl_fixed, apply_ite State.fixed]; done) | ((repeat' split) <;> simp [foldl_fixed, apply_ite State.fixed])

/-! ### Channel.lean -/

theorem channelCondition_fixed (s : State) : ∀ t, channelCondition s = some t → t.fixed = s.fixed := by
  unfold channelCondition
  try dsimp only
  (repeat' split) <;> simp

@[simp] theorem channelSettle_fixed (fuel : Nat) (s : State) : (channelSettle fuel s).fixed = s.fixed := by
  induction fuel generalizing s with
  | zero => rfl
  | succ n ih =>
    unfold channelSettle
    split
    · rfl
    · rename_i t h
      rw [ih, channelCondition_fixed s t h]

@[simp] theorem channelReact_fixed (s : State) : (channelReact s).fixed = s.fixed := by
  unfold channelReact
  first | (simp [foldl_fixed, apply_ite State.fixed]; done) | ((repeat' split) <;> simp [foldl_fixed, apply_ite State.fixed])

@[simp] theorem vesselEvent_fixed (active : Bool) (s : State) : (vesselEvent active s).fixed = s.fixed := by
  unfold vesselEvent
  first | (simp [foldl_fixed, apply_ite State.fixed]; done) | ((repeat' split) <;> simp [foldl_fixed, apply_ite State.fixed])

@[simp] theorem clearingExpiry_fixed (s : State) : (clearingExpiry s).fixed = s.fixed := by
  unfold clearingExpiry
  first | (simp [foldl_fixed, apply_ite State.fixed]; done) | ((repeat' split) <;> simp [foldl_fixed, apply_ite State.fixed])

@[simp] theorem takeNavAccept_fixed (s : State) : (takeNavAccept s).fixed = s.fixed := by
  unfold takeNavAccept
  first | (simp [foldl_fixed, apply_ite State.fixed]; done) | ((repeat' split) <;> simp [foldl_fixed, apply_ite State.fixed])

@[simp] theorem runChannel_fixed (s : State) : (runChannel s).fixed = s.fixed := by
  unfold runChannel
  first | (simp [foldl_fixed, apply_ite State.fixed]; done) | ((repeat' split) <;> simp [foldl_fixed, apply_ite State.fixed])

/-! ### Desk.lean -/

@[simp] theorem setDemand_fixed (d : Demand) (s : State) : (setDemand d s).fixed = s.fixed := by
  unfold setDemand
  first | (simp [foldl_fixed, apply_ite State.fixed]; done) | ((repeat' split) <;> simp [foldl_fixed, apply_ite State.fixed])

@[simp] theorem demandPress_fixed (d : Demand) (s : State) : (demandPress d s).fixed = s.fixed := by
  unfold demandPress
  first | (simp [foldl_fixed, apply_ite State.fixed]; done) | ((repeat' split) <;> simp [foldl_fixed, apply_ite State.fixed])

@[simp] theorem keyEvent_fixed (active : Bool) (s : State) : (keyEvent active s).fixed = s.fixed := by
  unfold keyEvent
  first | (simp [foldl_fixed, apply_ite State.fixed]; done) | ((repeat' split) <;> simp [foldl_fixed, apply_ite State.fixed])

@[simp] theorem setGoal_fixed (height : Nat) (s : State) : (setGoal height s).fixed = s.fixed := by
  unfold setGoal
  first | (simp [foldl_fixed, apply_ite State.fixed]; done) | ((repeat' split) <;> simp [foldl_fixed, apply_ite State.fixed])

@[simp] theorem runDesk_fixed (s : State) : (runDesk s).fixed = s.fixed := by
  unfold runDesk
  first | (simp [foldl_fixed, apply_ite State.fixed]; done) | ((repeat' split) <;> simp [foldl_fixed, apply_ite State.fixed])

@[simp] theorem roleReact_fixed (s : State) : (roleReact s).fixed = s.fixed := by
  unfold roleReact
  first | (simp [foldl_fixed, apply_ite State.fixed]; done) | ((repeat' split) <;> simp [foldl_fixed, apply_ite State.fixed])

@[simp] theorem runRole_fixed (s : State) : (runRole s).fixed = s.fixed := by
  unfold runRole
  first | (simp [foldl_fixed, apply_ite State.fixed]; done) | ((repeat' split) <;> simp [foldl_fixed, apply_ite State.fixed])

@[simp] theorem leaveTripped_fixed (s : State) : (leaveTripped s).fixed = s.fixed := by
  unfold leaveTripped
  first | (simp [foldl_fixed, apply_ite State.fixed]; done) | ((repeat' split) <;> simp [foldl_fixed, apply_ite State.fixed])

@[simp] theorem acceptClear_fixed (source : Nat) (s : State) : (acceptClear source s).fixed = s.fixed := by
  unfold acceptClear
  first | (simp [foldl_fixed, apply_ite State.fixed]; done) | ((repeat' split) <;> simp [foldl_fixed, apply_ite State.fixed])

@[simp] theorem clearAttempt_fixed (source : Nat) (s : State) : (clearAttempt source s).fixed = s.fixed := by
  unfold clearAttempt
  first | (simp [foldl_fixed, apply_ite State.fixed]; done) | ((repeat' split) <;> simp [foldl_fixed, apply_ite State.fixed])

@[simp] theorem clearPress_fixed (s : State) : (clearPress s).fixed = s.fixed := by
  unfold clearPress
  first | (simp [foldl_fixed, apply_ite State.fixed]; done) | ((repeat' split) <;> simp [foldl_fixed, apply_ite State.fixed])

end Sys2Proof.Machine
end

