-- ==== Sys2Proof/Laws/Port.lean ====
section
/-! SUPPORT. What the shared operations of the local port and of the link can do: conditions and reports, the order handler,
and the link functions, which write the link alone. -/

namespace Sys2Proof.Machine

/-! ### Conditions and reports -/

/-- A latched condition is latched. -/
theorem latch_latched (c : Condition) (s : State) : (latch c s).latched c = true := by
  cases c <;> simp [latch, State.latched, Condition.bit, conditionNumber]

/-- Latching keeps the conditions that are latched. -/
theorem latch_keeps (c d : Condition) (s : State) (h : s.latched d = true) : (latch c s).latched d = true := by
  simp_all [latch, State.latched]

/-- A submitted report is the last one: at the tail, or lost with the FIFO full. -/
theorem submit_last (r : Report) (s : State) : lastReport (submit r s) r := by
  unfold submit lastReport
  split
  · simp
  · rename_i h
    right
    exact ⟨by simpa [latch] using h, by simp [latch, byteOf], latch_latched _ _⟩

/-- Submitting keeps the conditions that are latched. -/
theorem submit_keeps (r : Report) (d : Condition) (s : State) (h : s.latched d = true) : (submit r s).latched d = true := by
  unfold submit
  split
  · simpa [State.latched] using h
  · exact latch_keeps _ _ _ (by simpa [State.latched] using h)

/-- A report stamps station time and is the last one. -/
theorem report_last (k : ReportKind) (a b c d e : Nat) (s : State) :
    lastReport (report k a b c d e s)
      { kind := k, time := s.time, subject := byteOf a, old := byteOf b, new := byteOf c, extra1 := byteOf d,
        extra2 := byteOf e } :=
  submit_last _ _

/-- Submitting writes the reports and the conditions alone. -/
theorem submit_unchangedBut (r : Report) (s : State) : UnchangedBut [.reports] s (submit r s) := by
  intro b hb
  unfold submit
  cases b <;> (first | (exact absurd (List.mem_singleton.mpr rfl) hb) | (split <;> simp [same, latch]))

/-! ### The serial port -/

/-- What a transaction at the serial port may write: the transaction itself, the order FIFO, the reports and the conditions. -/
def serialBlocks : List Block := [.serial, .orderQueue, .reports]

theorem openTransaction_unchangedBut (s : State) : UnchangedBut [.serial] s (openTransaction s) := by
  intro b hb
  unfold openTransaction
  split <;> cases b <;> simp_all [same, State.onSerial]

/-- CS low: a fall of CS cannot come. -/
theorem openTransaction_low (u : Transaction) (s : State) (h : s.port.serial.transaction = some u) :
    openTransaction s = s := by
  simp [openTransaction, h]

/-- CS high: no clock and no rise does anything. -/
theorem within_high (code : Nat) (f : Transaction → State → State) (s : State) (h : s.port.serial.transaction = none) :
    within code f s = s := by
  simp [within, h]

/-- The transaction in progress goes on where it goes on with the row. -/
theorem within_mine (code : Nat) (f : Transaction → State → State) (t : Transaction) (s : State)
    (h : s.port.serial.transaction = some t) (hc : t.hasCode code = true) : within code f s = f t s := by
  simp [within, h, hc]

/-- A rise of SCK takes a bit, and with the eighth a byte, in which conditions may be cleared. -/
theorem clockIn_unchangedBut (mosi : Bool) (t : Transaction) (s : State) :
    UnchangedBut [.serial, .reports] s (clockIn mosi t s) := by
  intro b hb
  unfold clockIn
  dsimp only
  (repeat' split) <;> cases b <;> simp_all [same, takeByte, State.onSerial]

/-- A fall of SCK moves MISO alone. -/
theorem clockOut_unchangedBut (t : Transaction) (s : State) : UnchangedBut [.serial] s (clockOut t s) := by
  intro b hb
  unfold clockOut
  dsimp only
  (repeat' split) <;> cases b <;> simp_all [same, loadByte, State.onSerial]

theorem atRise_unchangedBut (partBits : Nat) (t : Transaction) (s : State) :
    UnchangedBut [.orderQueue, .reports] s (atRise partBits t s) := by
  intro b hb
  cases t <;> unfold atRise receiveOrder <;> dsimp only <;> (repeat' split) <;> cases b <;>
    simp_all [same, latch, removeReport, apply_ite LocalPort.mask, apply_ite LocalPort.threshold,
      apply_ite LocalPort.startInhibit, apply_ite LocalPort.serial]

/-- Going on with the transaction in progress writes what the going on writes. -/
theorem within_unchangedBut (code : Nat) (f : Transaction → State → State) (named : List Block) (s : State)
    (hf : ∀ t, UnchangedBut named s (f t s)) : UnchangedBut named s (within code f s) := by
  intro b hb
  have id : same s s b := by cases b <;> simp [same]
  unfold within
  split
  · exact id
  · split
    · exact hf _ b hb
    · exact id

theorem closeTransaction_unchangedBut (t : Transaction) (s : State) :
    UnchangedBut serialBlocks s (closeTransaction t s) := by
  intro b hb
  have h := atRise_unchangedBut s.port.serial.bits.val t s b
  cases b <;> simp_all [serialBlocks, same, closeTransaction, State.onSerial]

/-- An edge of a transaction. -/
theorem portEdge_unchangedBut (code : Nat) (edge : PortEdge) (mosi : Bool) (s : State) :
    UnchangedBut serialBlocks s (portEdge code edge mosi s) := by
  cases edge with
  | csFall => exact fun b hb => openTransaction_unchangedBut s b (by simp_all [serialBlocks])
  | sckRise =>
    exact within_unchangedBut _ _ _ _ fun u b hb => clockIn_unchangedBut mosi u s b (by simp_all [serialBlocks])
  | sckFall => exact within_unchangedBut _ _ _ _ fun u b hb => clockOut_unchangedBut u s b (by simp_all [serialBlocks])
  | csRise => exact within_unchangedBut _ _ _ _ fun u => closeTransaction_unchangedBut u s

/-! ### The order handler -/

/-- An order at the head of the FIFO is removed, decided and answered, in this order. -/
theorem takeOrder_head (o : Order) (decide : State → State × Answer) (s : State) (h : s.port.orders.head? = some o) :
    takeOrder o decide s =
      answerOrder o s.port.orderNumber (decide ((removeOrder o s).setFed false)).2
        (publish (removeOrder o s) (decide ((removeOrder o s).setFed false)).1) := by
  simp [takeOrder, h]

/-- An order that does not stand at the head is not taken. -/
theorem takeOrder_other (o : Order) (decide : State → State × Answer) (s : State) (h : s.port.orders.head? ≠ some o) :
    takeOrder o decide s = s := by
  simp [takeOrder, h]

/-- An answer keeps what `fixed` gathers. -/
@[simp] theorem answerOrder_fixed (o : Order) (n : Byte) (a : Answer) (s : State) :
    (answerOrder o n a s).fixed = s.fixed := by
  unfold answerOrder
  split <;> simp

/-- The ORDER_RESULT is the last report. -/
theorem answerOrder_last (o : Order) (n : Byte) (a : Answer) (s : State) :
    lastReport (answerOrder o n a s)
      { kind := .orderResult, time := s.time, subject := byteOf (orderCode o), old := byteOf (outcomeCode a.outcome),
        new := byteOf (reasonCode a.reason), extra1 := byteOf a.extra, extra2 := n } := by
  have h := report_last .orderResult (orderCode o) (outcomeCode a.outcome) (reasonCode a.reason) a.extra n.toNat
    (if a.outcome = .refused then latch .orderRefused s else s)
  have ht : (if a.outcome = .refused then latch .orderRefused s else s).time = s.time := by split <;> rfl
  simpa [answerOrder, ht, byteOf] using h

/-- A refusal has latched ORDER_REFUSED. -/
theorem answerOrder_refused (o : Order) (n : Byte) (a : Answer) (s : State) (h : a.outcome = .refused) :
    (answerOrder o n a s).latched .orderRefused = true := by
  unfold answerOrder
  rw [if_pos h]
  exact submit_keeps _ _ _ (latch_latched _ _)

/-! ### The link -/

/-- The state with another link. -/
def State.withLink (s : State) (k : Link) : State := { s with link := k }

/-- An operation writes the link alone. -/
def LinkOnly (f : State → State) : Prop := ∀ s, f s = s.withLink (f s).link

/-- An operation that writes the link alone leaves every other part. -/
theorem LinkOnly.unchangedBut {f : State → State} (h : LinkOnly f) (s : State) : UnchangedBut [.link] s (f s) := by
  intro b hb
  rw [h s]
  cases b <;> simp_all [same, State.withLink]

/-- One operation after another. -/
theorem LinkOnly.comp {f g : State → State} (hf : LinkOnly f) (hg : LinkOnly g) : LinkOnly fun s => g (f s) := by
  intro s
  exact (hg (f s)).trans (congrArg (fun t => t.withLink (g (f s)).link) (hf s))

/-- A choice between two operations. -/
theorem LinkOnly.ite {f g : State → State} (p : State → Prop) [∀ s, Decidable (p s)] (hf : LinkOnly f) (hg : LinkOnly g) :
    LinkOnly fun s => if p s then f s else g s := by
  intro s
  by_cases h : p s
  · simpa [h] using hf s
  · simpa [h] using hg s

theorem linkOnly_id : LinkOnly fun s => s := fun _ => rfl

theorem onLink_linkOnly (f : State → Link → Link) : LinkOnly fun s => s.onLink (f s) := fun _ => rfl

theorem onLine_linkOnly (l : LinkLine) (f : State → LineUnit → LineUnit) : LinkOnly fun s => s.onLine l (f s) := by
  intro s; cases l <;> rfl

theorem startAttempt_linkOnly (l : LinkLine) : LinkOnly (startAttempt l) := by
  intro s; cases l <;> rfl

theorem enterDelay_linkOnly (l : LinkLine) : LinkOnly (enterDelay l) :=
  LinkOnly.ite (fun s => accessDelay s l = 0) (startAttempt_linkOnly l) (onLine_linkOnly l _)

theorem enterGap_linkOnly (l : LinkLine) : LinkOnly (enterGap l) :=
  LinkOnly.ite (fun s => (s.line l).idle = true) (enterDelay_linkOnly l) (onLine_linkOnly l _)

theorem releaseLine_linkOnly (l : LinkLine) (atFirst : Bool) : LinkOnly (releaseLine l atFirst) := onLine_linkOnly l _

/-- Below the jam limit a collision releases the line, counts and gains the line anew. -/
theorem collide_below (l : LinkLine) (atFirst : Bool) (s : State) (h : (s.line l).tx = .sending)
    (hc : (s.line l).collisions + 1 < jamLimit) :
    collide l atFirst s =
      enterGap l ((releaseLine l atFirst s).onLine l fun u => { u with collisions := u.collisions + 1 }) := by
  simp [collide, h, hc]

theorem fillSlot_linkOnly (l : LinkLine) : LinkOnly (fillSlot l) := by
  refine LinkOnly.ite (fun s => (s.line l).slot = .empty)
    (LinkOnly.ite (fun s => (s.line l).tx = .idle) (LinkOnly.ite (fun s => (s.line l).spacingTimer.isSome = true) ?_ ?_) ?_)
    linkOnly_id
  · exact (onLine_linkOnly l fun _ u => { u with slot := .full false }).comp
      (onLine_linkOnly l fun _ u => { u with tx := .spacing })
  · exact (onLine_linkOnly l fun _ u => { u with slot := .full false }).comp (enterGap_linkOnly l)
  · exact onLine_linkOnly l fun _ u => { u with slot := .full false }

theorem fillIfChanged_linkOnly (l : LinkLine) : LinkOnly (fillIfChanged l) :=
  LinkOnly.ite (fun s => (s.line l).changed = true ∧ (s.line l).spacingTimer = none) (fillSlot_linkOnly l) linkOnly_id

theorem fillBoth_linkOnly : LinkOnly fillBoth := (fillSlot_linkOnly .a).comp (fillSlot_linkOnly .b)

theorem contentChanged_linkOnly : LinkOnly contentChanged :=
  (((onLine_linkOnly .a fun _ u => { u with changed := true }).comp
    (onLine_linkOnly .b fun _ u => { u with changed := true })).comp (fillIfChanged_linkOnly .a)).comp
      (fillIfChanged_linkOnly .b)

/-- The end of an event writes the link alone, and leaves the mark of fed changes as the event found it. -/
theorem publish_unchangedBut (before after : State) :
    (publish before after).fed = before.fed ∧ UnchangedBut [.link, .feed] after (publish before after) := by
  refine ⟨rfl, fun b hb => ?_⟩
  have h := contentChanged_linkOnly.unchangedBut after b
  unfold publish
  split <;> cases b <;> simp_all [same]

/-- In CONFIG, and where no change was marked as fed and no field of the content has changed, the end of an event does nothing. -/
theorem publish_same (before after : State)
    (h : before.running = false ∨ after.running = false ∨ (after.fed = false ∧ before.ownContent = after.ownContent)) :
    publish before after = after.setFed before.fed := by
  unfold publish
  rw [if_neg]
  rintro ⟨h1, h2, h3⟩
  rcases h with h | h | h <;> simp_all

/-- A change that was marked as fed in RUN is a change of content, also where it has returned (R30). -/
theorem publish_fed (before after : State) (hb : before.running = true) (ha : after.running = true) (hf : after.fed = true) :
    publish before after = (contentChanged after).setFed before.fed := by
  unfold publish
  rw [if_pos ⟨hb, ha, .inl hf⟩]

end Sys2Proof.Machine
end

