-- ==== Sys2Proof/Laws/Receiver.lean ====
section
/-! SUPPORT. What a receiver makes of one character and of the end of a frame (R25, R26). -/

namespace Sys2Proof.Machine

/-- The data bits of a byte, least significant first. -/
def dataBits (b : Byte) : List Bool := [0, 1, 2, 3, 4, 5, 6, 7].map fun i => b.getLsbD i

/-- A byte is packed from its data bits. -/
theorem byteOfBits_dataBits (b : Byte) : byteOfBits (dataBits b) = b := by
  revert b; decide +kernel

/-- A receiver that waits on an idle line, with these characters behind it. -/
def waitingWith (idle : Nat) (r : Received) : Receiver := { level := true, idle := idle, bit := none, received := r }

/-- A waiting receiver takes in one whole character, with its stop bit at the idle level, and waits for the next. -/
theorem run_character (idle : Nat) (r : Received) (b : Byte) (rest : List Bool) :
    (waitingWith idle r).run (levelsOf (characterBits b) ++ rest) = (waitingWith 0 (r.add (dataBits b))).run rest := by
  simp [waitingWith, levelsOf, characterBits, charBits, List.replicate, Receiver.run, Receiver.sample, Receiver.ended, dataBits]

/-- Two bit times of idle line after a character end the frame. -/
theorem run_end (r : Received) (h : r.count ≠ 0) : (waitingWith 0 r).run (levelsOf [true, true]) = some r := by
  simp [waitingWith, levelsOf, List.replicate, Receiver.run, Receiver.sample, Receiver.ended, h]

end Sys2Proof.Machine
end

