-- ==== Sys2Proof/Laws/Roles.lean ====
section
/-! SUPPORT. What the shared operations of the role blocks do: lamps, arms, the drive, the bolt, the entries into a phase, and
the taking of a trip cause. -/

namespace Sys2Proof.Machine

/-! ### Reports leave the role blocks -/

@[simp] theorem report_motion (k : ReportKind) (a b c d e : Nat) (s : State) :
    (report k a b c d e s).motion = s.motion := by
  unfold report submit; split <;> rfl
@[simp] theorem report_closure (k : ReportKind) (a b c d e : Nat) (s : State) :
    (report k a b c d e s).closure = s.closure := by
  unfold report submit; split <;> rfl
@[simp] theorem report_channel (k : ReportKind) (a b c d e : Nat) (s : State) :
    (report k a b c d e s).channel = s.channel := by
  unfold report submit; split <;> rfl
@[simp] theorem report_desk (k : ReportKind) (a b c d e : Nat) (s : State) :
    (report k a b c d e s).desk = s.desk := by
  unfold report submit; split <;> rfl
@[simp] theorem report_signal (k : ReportKind) (a b c d e : Nat) (s : State) :
    (report k a b c d e s).signal = s.signal := by
  unfold report submit; split <;> rfl
@[simp] theorem report_trip (k : ReportKind) (a b c d e : Nat) (s : State) :
    (report k a b c d e s).trip = s.trip := by
  unfold report submit; split <;> rfl

/-! ### The signals write nothing but lamps, sounders and reports -/

/-- What the Signal Unit's operations never write. -/
def State.aside (s : State) : TripUnit × MotionUnit × ClosureUnit × ChannelUnit × DeskUnit :=
  (s.trip, s.motion, s.closure, s.channel, s.desk)

@[simp] theorem onLamp_aside (i : Fin 16) (f : Lamp → Lamp) (s : State) : (s.onLamp i f).aside = s.aside := rfl
@[simp] theorem feed_aside (s t : State) : (feed s t).aside = t.aside := rfl
@[simp] theorem latch_aside (c : Condition) (s : State) : (latch c s).aside = s.aside := rfl
@[simp] theorem report_aside (k : ReportKind) (a b c d e : Nat) (s : State) :
    (report k a b c d e s).aside = s.aside := by
  simp [State.aside]
@[simp] theorem setProving_aside (i : Fin 16) (p : Proving) (s : State) : (setProving i p s).aside = s.aside := by
  unfold setProving; dsimp only; (repeat' split) <;> simp
@[simp] theorem windowSucceeds_aside (i : Fin 16) (s : State) : (windowSucceeds i s).aside = s.aside := by
  simp [windowSucceeds]
@[simp] theorem windowFails_aside (i : Fin 16) (s : State) : (windowFails i s).aside = s.aside := by
  simp [windowFails]
@[simp] theorem beginOnPhase_aside (i : Fin 16) (s : State) : (beginOnPhase i s).aside = s.aside := by
  unfold beginOnPhase; dsimp only; (repeat' split) <;> simp
@[simp] theorem endOnPhase_aside (i : Fin 16) (b : Bool) (s : State) : (endOnPhase i b s).aside = s.aside := by
  unfold endOnPhase; dsimp only; (repeat' split) <;> simp
@[simp] theorem requestMode_aside (i : Fin 16) (m : LampMode) (s : State) : (requestMode i m s).aside = s.aside := by
  unfold requestMode; dsimp only; (repeat' split) <;> simp
@[simp] theorem requestAnew_aside (i : Fin 16) (s : State) : (requestAnew i s).aside = s.aside := by
  simp [requestAnew]
@[simp] theorem requestRow_aside (row : List (Fin 16 × LampMode)) (s : State) : (requestRow row s).aside = s.aside := by
  unfold requestRow
  induction row generalizing s with
  | nil => rfl
  | cons r rs ih => rw [List.foldl_cons, ih, requestMode_aside]
@[simp] theorem renewFailedReds_aside (s : State) : (renewFailedReds s).aside = s.aside := by
  unfold renewFailedReds; dsimp only; (repeat' split) <;> simp
@[simp] theorem requestSteady_aside (k : Fin 2) (on : Bool) (s : State) : (requestSteady k on s).aside = s.aside := rfl
@[simp] theorem requestPattern_aside (k : Fin 2) (p : Pattern) (s : State) : (requestPattern k p s).aside = s.aside := rfl

/-! ### Lamps -/

@[simp] theorem lamp_onLamp_same (i : Fin 16) (f : Lamp → Lamp) (s : State) : (s.onLamp i f).lamp i = f (s.lamp i) := by
  simp [State.lamp, State.onLamp, State.onSignal]
@[simp] theorem lamp_onLamp_other (i j : Fin 16) (f : Lamp → Lamp) (s : State) (h : j ≠ i) :
    (s.onLamp i f).lamp j = s.lamp j := by
  have h' : i.val ≠ j.val := fun e => h (Fin.ext e.symm)
  simp [State.lamp, State.onLamp, State.onSignal, h']
@[simp] theorem lamp_feed (s t : State) (i : Fin 16) : (feed s t).lamp i = t.lamp i := rfl
@[simp] theorem lamp_latch (c : Condition) (s : State) (i : Fin 16) : (latch c s).lamp i = s.lamp i := rfl
@[simp] theorem lamp_report (k : ReportKind) (a b c d e : Nat) (s : State) (i : Fin 16) :
    (report k a b c d e s).lamp i = s.lamp i := by
  simp [State.lamp]

/-- Setting a proving state sets it, and nothing else of a lamp. -/
theorem setProving_lamp (i j : Fin 16) (p : Proving) (s : State) :
    (setProving i p s).lamp j = if j = i then { s.lamp i with proving := p } else s.lamp j := by
  unfold setProving
  by_cases hj : j = i
  · subst hj
    dsimp only
    split
    · rename_i h
      rw [if_pos rfl, ← h]
    · split <;> simp
  · dsimp only
    (repeat' split) <;> simp_all

/-! ### Arms -/

@[simp] theorem arm_feed (s t : State) (i : Fin 4) : (feed s t).arm i = t.arm i := rfl
@[simp] theorem arm_onArm_same (i : Fin 4) (f : Arm → Arm) (s : State) : (s.onArm i f).arm i = f (s.arm i) := by
  simp [State.arm, State.onArm, State.onClosure]
@[simp] theorem arm_onArm_other (i j : Fin 4) (f : Arm → Arm) (s : State) (h : j ≠ i) :
    (s.onArm i f).arm j = s.arm j := by
  have h' : i.val ≠ j.val := fun e => h (Fin.ext e.symm)
  simp [State.arm, State.onArm, State.onClosure, h']

/-- After its outputs are brought up to date, an arm asserts UP in RAISING alone, DOWN in LOWERING without presence alone, both
only untripped, and never both. -/
theorem driveArm_safe (i : Fin 4) (s : State) :
    let t := driveArm i s
    (t.arm i).state = (s.arm i).state ∧
      ((t.arm i).up = true → (s.arm i).state = some .raising ∧ s.trip.flag = false) ∧
      ((t.arm i).down = true → (s.arm i).state = some .lowering ∧ s.presence i = false ∧ s.trip.flag = false) ∧
      ¬((t.arm i).up = true ∧ (t.arm i).down = true) := by
  dsimp only [driveArm]
  simp only [arm_onArm_same, Bool.and_eq_true, Bool.not_eq_true', beq_iff_eq]
  refine ⟨trivial, ?_, ?_, ?_⟩
  · rintro ⟨⟨h1, h2⟩, -⟩; exact ⟨h1, h2⟩
  · rintro ⟨⟨⟨h1, h2⟩, h3⟩, -⟩; exact ⟨h1, h3, h2⟩
  · rintro ⟨⟨⟨h1, -⟩, -⟩, ⟨⟨h2, -⟩, -⟩, -⟩
    simp [h1] at h2

/-- The other arms are not driven. -/
theorem driveArm_other (i j : Fin 4) (s : State) (h : j ≠ i) : (driveArm i s).arm j = s.arm j := by
  simp [driveArm, h]

/-! ### The drive and the bolt -/

/-- After V_OUT is set, each direction output is asserted only on its side of 0, so never both, and a V_OUT of 0 leaves both
off. -/
theorem applyOutput_safe (v : Int) (s : State) :
    let o := (applyOutput v s).motion.output
    o.vOut = v ∧ (o.up = true → 0 < v) ∧ (o.down = true → v < 0) ∧ ¬(o.up = true ∧ o.down = true) := by
  simp only [applyOutput, State.onOutput, State.onMotion_motion, Bool.and_eq_true, decide_eq_true_eq]
  refine ⟨trivial, fun h => h.1, fun h => h.1, ?_⟩
  rintro ⟨⟨h1, -⟩, ⟨h2, -⟩⟩
  omega

/-- Setting V_OUT writes the output stage alone. -/
theorem applyOutput_only (v : Int) (s : State) :
    applyOutput v s = s.onOutput fun _ => (applyOutput v s).motion.output := rfl

/-- No bolt operation leaves drive and withdraw asserted together. -/
theorem startDriving_safe (s : State) :
    (startDriving s).motion.bolt.state = .driving ∧ (startDriving s).motion.bolt.withdrawOut = false := ⟨rfl, rfl⟩
theorem startWithdrawing_safe (s : State) :
    (startWithdrawing s).motion.bolt.state = .withdrawing ∧ (startWithdrawing s).motion.bolt.driveOut = false := ⟨rfl, rfl⟩
theorem restBolt_safe (b : BoltState) (s : State) :
    (restBolt b s).motion.bolt = { state := b, driveOut := false, withdrawOut := false, travelTimer := none } := rfl

/-! ### Entries -/

@[simp] theorem releaseRequest_phase (s : State) : (releaseRequest s).motion.phase = s.motion.phase := by
  unfold releaseRequest; split <;> rfl
@[simp] theorem setRequest_phase (s : State) : (setRequest s).motion.phase = s.motion.phase := by
  unfold setRequest; split <;> rfl
@[simp] theorem applyOutput_phase (v : Int) (s : State) : (applyOutput v s).motion.phase = s.motion.phase := rfl
@[simp] theorem brakeOnEntry_phase (p : CornerPhase) (s : State) : (brakeOnEntry p s).motion.phase = s.motion.phase := by
  unfold brakeOnEntry; (repeat' split) <;> simp
@[simp] theorem driveBolt_phase (s : State) : (driveBolt s).motion.phase = s.motion.phase := by
  unfold driveBolt; (repeat' split) <;> rfl
@[simp] theorem withdrawBolt_phase (s : State) : (withdrawBolt s).motion.phase = s.motion.phase := by
  unfold withdrawBolt; (repeat' split) <;> rfl
@[simp] theorem boltOnEntry_phase (p : CornerPhase) (s : State) : (boltOnEntry p s).motion.phase = s.motion.phase := by
  unfold boltOnEntry; (repeat' split) <;> simp
@[simp] theorem homingOnEntry_phase (p : CornerPhase) (s : State) :
    (homingOnEntry p s).motion.phase = s.motion.phase := by
  unfold homingOnEntry; split <;> rfl

/-- An entered corner phase is the phase. -/
theorem enterCorner_phase (p : CornerPhase) (rel : Intent) (s : State) :
    (enterCorner p rel s).motion.phase = some p := by
  simp [enterCorner]

/-- An entered desk phase is the phase, with its held demand. -/
theorem enterDesk_desk (p : DeskPhase) (d : Demand) (s : State) :
    (enterDesk p d s).desk = { s.desk with phase := some p, heldDemand := d } := by
  simp [enterDesk]

/-! ### Trips -/

/-- A cause submitted in CONFIG, or recorded already, changes nothing. -/
theorem submitCause_absorbed (c : Cause) (s : State)
    (h : s.running = false ∨ (s.trip.flag = true ∧ c ∈ s.trip.causes)) : submitCause c s = s := by
  rcases h with h | ⟨h, hc⟩
  · simp [submitCause, h]
  · unfold submitCause; (repeat' split) <;> simp_all

end Sys2Proof.Machine
end

