-- ==== Sys2Proof/WellFormed.lean ====
section
/-! DEFINITION. Which commands the part's surroundings can produce. The operand types rule out all the rest
(a station number above 11, a lamp above 15, ...). -/

namespace Sys2Proof

/-- A level of MOSI is given only where SCK rises, since it is sampled there alone (R193). -/
def sampledOk (edge : PortEdge) (mosi : Bool) : Bool := edge == .sckRise || !mosi

/-- The command is one that the surroundings of the part can produce; a received frame ends with its last sample (R26). -/
def Instr.wellFormed : Instr → Bool
  | .order edge mosi => sampledOk edge mosi
  | .invalidTransaction edge mosi => sampledOk edge mosi
  | .readPeers edge mosi => sampledOk edge mosi
  | .readItem edge mosi => sampledOk edge mosi
  | .frameReceived _ levels => Machine.endsFrame levels
  | _ => true

end Sys2Proof
end

