-- ==== Sys2Proof/Tests/Slice0.lean ====
section
/-! SUPPORT. Tests. `test_refuses_…` smoke-tests WellFormed; `test_<what>` takes one command on a small state and looks at what
the spec gives (the source of each expected value is in its comment); `test_witness_<Statement>` shows that the hypotheses of
the statement of that name are met, clause by clause and at the ends of their ranges. -/

namespace Sys2Proof.Tests

open Sys2Proof.Machine

/-! ### States -/

/-- The nine-station bridge of the digest case (chapter 1): corners 0 to 3, approaches 4 and 5, channels 6 and 7, desk 8. -/
def roster : Vector (Option Role) 12 :=
  #v[some .corner, some .corner, some .corner, some .corner, some .approach, some .approach, some .channel, some .channel,
    some .desk, none, none, none]

/-- A station in CONFIG with that roster. -/
def config (n : Fin 16) (r : Role) : State :=
  { State.reset with
    straps := { number := n, role := r }, roster := roster, port := { State.reset.port with reports := [] }
    trip := { State.reset.trip with estopFiltered := false, estopRaw := false, estopTimer := none } }

/-- A station in RUN with the inhibit clear, before any phase is given. -/
def run (n : Fin 16) (r : Role) : State :=
  { config n r with running := true, digest := some 14, port := { (config n r).port with startInhibit := false } }

/-- A corner, number 0, in a phase, referenced. -/
def corner (p : CornerPhase) : State :=
  { run 0 .corner with motion := { State.reset.motion with
      phase := some p, controlTimer := some 100, position := 0
      encoder := { State.reset.motion.encoder with referenced := true } } }

/-- An arm in a state with a command. -/
def armIn (x : ArmState) (c : ArmCommand) : Arm := { Arm.atReset with state := some x, command := c }

/-- An approach, number 4, in a phase, its two arms fitted (items 35 and 36 ENTRY, 37 and 38 EXIT by default) in one state. -/
def approach (p : ApproachPhase) (x : ArmState) (c : ArmCommand) : State :=
  { run 4 .approach with closure := { State.reset.closure with phase := some p, arms := .replicate 4 (armIn x c) } }

/-- A channel, number 6, in a phase. -/
def channel (p : ChannelPhase) : State :=
  { run 6 .channel with channel := { State.reset.channel with phase := some p } }

/-- Desk 8 in a phase. -/
def desk (p : DeskPhase) : State := { run 8 .desk with desk := { State.reset.desk with phase := some p } }

/-- The content of a desk that shows a demand with its enable key on. -/
def deskContent (demand : Byte) : Content where
  tripped := false
  startInhibit := false
  phase := 0
  maint := false
  estopActive := false
  lineAOk := true
  lineBOk := true
  duplicateSeen := false
  payload := .desk demand 0 0 true false 0

/-- The content of a corner in a phase at a position. -/
def cornerContent (phase : Byte) (position : BitVec 16) : Content :=
  { deskContent 0 with phase := phase, payload := .corner position 0 0 0 0 false true 0 }

/-- A FRESH entry of this content. -/
def entryOf (c : Content) (age : Nat) : Entry where
  freshness := .fresh
  heard := some { content := c, lastSequence := 1, lastDigest := 14, digestOk := true, age := age }
  seenA := true
  seenB := true
  staleTimer := some 600
  lostTimer := some 2000
  seenTimerA := some 600
  seenTimerB := some 600

/-- With an entry in a slot. -/
def withEntry (j : Fin 12) (e : Entry) (s : State) : State := s.setPeer j (some e)

/-- With desk 8 demanding. -/
def demanding (d : Byte) (s : State) : State := withEntry 8 (entryOf (deskContent d) 0) s

/-- The content of an approach that is closed and intact. -/
def closedContent : Content := { deskContent 0 with phase := 6, payload := .approach 3 3 3 3 0 false true true 0 0 0 }

/-- The content of a channel that is closed, and of one that shows a vessel alert besides. -/
def channelContent : Content := { deskContent 0 with payload := .channel 0 false false true false 0 0 }

def alertContent : Content := { deskContent 0 with payload := .channel 0 true true true false 0 0 }

/-- A whole bridge about a corner 0: the other corners in this phase at position 0, the road and the channel closed, and desk 8
demanding. -/
def bridge (demand phase : Byte) (s : State) : State :=
  let c := entryOf (cornerContent phase 0) 0
  demanding demand (withEntry 1 c (withEntry 2 c (withEntry 3 c (withEntry 4 (entryOf closedContent 0)
    (withEntry 5 (entryOf closedContent 0) (withEntry 6 (entryOf channelContent 0)
      (withEntry 7 (entryOf channelContent 0) s)))))))

/-- With the four corners FRESH in this phase at this position. -/
def spanAt (phase : Byte) (position : BitVec 16) (s : State) : State :=
  let c := entryOf (cornerContent phase position) 0
  withEntry 0 c (withEntry 1 c (withEntry 2 c (withEntry 3 c s)))

/-- With this count now, and this one at the last expiry of the control period. -/
def moved (count sampled : Int) (s : State) : State :=
  s.onMotion fun m => { m with encoder := { m.encoder with count := BitVec.ofInt 32 count, sampled := sampled } }

/-- A corner that lifts to 12,000 from a position in millimetres at a speed, alone, its desk raising. -/
def rising (p v : Int) : State :=
  let count := (p * 8192 + 999) / 1000
  moved count count (demanding 1 ((corner .raising).onMotion fun m =>
    { m with
      pos := p, position := p, goal := 12000, workingGoal := some 12000
      brake := { m.brake with out := true, settled := true }
      output := { m.output with upBlocked := false, downBlocked := false }
      profile := { vPrev := v, braking := false, goal := some 12000, dir := some .up } }))

/-- A corner that lowers so, its desk lowering. -/
def descending (p v : Int) : State :=
  demanding 2 ((rising p v).onMotion fun m => { m with phase := some .lowering, goal := 0, workingGoal := none })

/-- With these inputs filtered active. -/
def withInputs (on : List (Fin 25)) (s : State) : State :=
  on.foldl (fun t i => t.setInput i { t.inputLine i with raw := true, filtered := true }) s

/-- With an order at the head of the FIFO. -/
def withOrder (o : Order) (s : State) : State := s.onPort fun p => { p with orders := [o] }

/-- Tripped, with these causes. -/
def tripped (causes : List Cause) (s : State) : State := s.onTrip fun t => { t with flag := true, causes := causes }

/-- With a transaction in progress. -/
def inTransaction (t : Transaction) (s : State) : State := s.onSerial fun p => { p with transaction := some t }

/-- Before the eighth clock of a byte, with these bits taken from MOSI. -/
def atEighth (t : Transaction) (bits : Byte) (s : State) : State :=
  s.onSerial fun p => { p with transaction := some t, sck := false, bits := 7, mosi := bits }

/-- Before the fall of SCK that starts a byte. -/
def atStart (t : Transaction) (s : State) : State :=
  s.onSerial fun p => { p with transaction := some t, sck := true, bits := 0 }

/-- An input whose filter timer runs after a raw change to this level. -/
def changing (i : Fin 25) (level : Bool) (s : State) : State :=
  s.setInput i { raw := level, filtered := !level, filterTimer := some 30, bounce := 1 }

/-- The state after a command. -/
def after (c : Instr) (s : State) : State :=
  match exec c s with
  | .next t => t
  | _ => s

/-- One whole byte in a row of the port, the most significant bit first, with the levels of MISO at its rises of SCK. -/
def clocked (row : PortEdge → Bool → Instr) (b : Byte) (s : State) : State × List (Option Bool) :=
  [7, 6, 5, 4, 3, 2, 1, 0].foldl (fun x n =>
    (after (row .sckFall false) (after (row .sckRise (b.getLsbD n)) x.1), x.2 ++ [x.1.misoLevel])) (s, [])

/-- A transaction from the fall of CS through these bytes. -/
def through (row : PortEdge → Bool → Instr) (bytes : List Byte) (s : State) : State :=
  bytes.foldl (fun t b => (clocked row b t).1) (after (row .csFall false) s)

/-! ### WellFormed refuses what the surroundings cannot produce -/

/-- A level of MOSI stands with a rise of SCK alone. -/
theorem test_refuses_unsampled_level :
    ∀ edge ∈ [PortEdge.csFall, .sckFall, .csRise],
      Instr.wellFormed (.order edge true) = false ∧ Instr.wellFormed (.invalidTransaction edge true) = false ∧
        Instr.wellFormed (.readPeers edge true) = false ∧ Instr.wellFormed (.readItem edge true) = false := by decide

/-- Levels that end no frame, or end one before their last sample, are no received frame. -/
theorem test_refuses_unended_frame :
    Instr.wellFormed (.frameReceived .a []) = false ∧
      Instr.wellFormed (.frameReceived .a (frameLevels [0xC3]).dropLast) = false ∧
      Instr.wellFormed (.frameReceived .a (frameLevels [0xC3] ++ [true])) = false := by decide +kernel

/-- What the surroundings can produce is well formed. -/
theorem test_accepts_commands :
    Instr.wellFormed (.order .sckRise true) = true ∧ Instr.wellFormed (.invalidTransaction .csRise false) = true ∧
      Instr.wellFormed (.readReport .sckRise) = true ∧
      Instr.wellFormed (.frameReceived .a (frameLevels [0xC3])) = true := by decide +kernel

/-- The table gives no word any bits, so no word spells a command. -/
theorem test_no_word_spells_a_command : decodeTableWord 8 0x03 = none := by decide

/-! ### Arithmetic and layouts -/

/-- The reference of R29: the nine bytes 31h to 39h give 29B1h. -/
theorem test_check_reference : crc [0x31, 0x32, 0x33, 0x34, 0x35, 0x36, 0x37, 0x38, 0x39] = 0x29B1 := by decide +kernel

/-- The digest case of chapter 1. -/
theorem test_digest : ownDigest (config 0 .corner) = 14 := by decide

/-- Byte 1 of a record: station 4, an approach, sends 14h and station 2, a corner, 02h (the collision example of chapter 2). -/
theorem test_record_byte_1 :
    (recordBody 4 .approach 0 0 (deskContent 0)).head? = some 0x14 ∧
      (recordBody 2 .corner 0 0 (deskContent 0)).head? = some 0x02 := by decide

/-- R44: counts −8 to 8 give P = 0 at 8,192 counts per metre, and 17 counts give 2. -/
theorem test_position :
    positionOfCount State.reset (-8) = 0 ∧ positionOfCount State.reset 8 = 0 ∧ positionOfCount State.reset 17 = 2 ∧
      positionOfCount State.reset (-9) = -1 := by decide

/-- R45: P = 30,412 publishes 30,000, P = −1,430 publishes −1,000. -/
theorem test_published_position :
    publishedPosition true 30412 = 30000 ∧ publishedPosition true (-1430) = -1000 ∧
      publishedPosition false 5 = -32768 := by decide

/-- The stopping distances of the raise of 200 mm (chapter 3). -/
theorem test_stopping_distance : stoppingDistance 80 20 = 20 ∧ stoppingDistance 100 20 = 30 := by decide

/-- A corner in RAISING of the raise of 200 mm (chapter 3): at P with V_prev and BRAKING, a = 20, VTOP = 100. -/
def raising (p v : Int) (braking : Bool) : State :=
  { corner .raising with
    config := storeItem (storeItem ConfigStore.defaults 10 100) 11 20
    motion := { (corner .raising).motion with
      pos := p, profile := { vPrev := v, braking := braking, goal := some 200, dir := some .up } } }

/-- Expiries 1, 20, 24 and 29 of that case. -/
theorem test_raise_of_200_mm :
    (profileStep (raising 0 0 false) 200).1.vPrev = 20 ∧
      (profileStep (raising 170 100 false) 200).1.vPrev = 80 ∧
      (profileStep (raising 170 100 false) 200).1.braking = true ∧
      (profileStep (raising 190 20 true) 200).1.vPrev = 10 ∧
      (profileStep (raising 195 10 true) 200).2 = true := by decide

/-- A corner at a position among three others at these (the levelling case of chapter 3). -/
def among (own : Int) (a b c : BitVec 16) (kl vcorr : Nat) : State :=
  withEntry 1 (entryOf (cornerContent 8 a) 0) (withEntry 2 (entryOf (cornerContent 8 b) 0)
    (withEntry 3 (entryOf (cornerContent 8 c) 0)
      { corner .raising with
        config := storeItem (storeItem (storeItem ConfigStore.defaults 14 kl) 15 vcorr) 9 400
        motion := { (corner .raising).motion with position := own } }))

/-- The levelling case of chapter 3: corrections, V_OUT and duty. -/
theorem test_levelling :
    levellingCorrection (among 1000 1012 995 1003 8 20) = 2 ∧ levellingCorrection (among 1012 1000 995 1003 8 20) = -10 ∧
      levellingCorrection (among 995 1000 1012 1003 8 20) = 7 ∧ levellingCorrection (among 1003 1000 1012 995 8 20) = -1 ∧
      levellingCorrection (among 995 1000 1012 1003 5 4) = 4 ∧ levellingCorrection (among 1012 1000 995 1003 5 4) = -4 ∧
      dutyOf (among 0 0 0 0 8 20) 107 = 267 := by decide

/-- The access delays of the collision example of chapter 2. -/
theorem test_access_delays :
    accessDelay ((config 2 .corner).onLine .a fun u => { u with collisions := 1 }) .a = 32 ∧
      accessDelay (config 4 .approach) .a = 32 := by decide

/-! ### One command each -/

/-- R211, R202: a strapped number of 12 latches STRAP_FAULT, one of 11 does not. -/
theorem test_power_on_strap_fault :
    (after (.powerOnReset { number := 12, role := .desk }) State.reset).port.conditions = 0x800000 ∧
      (after (.powerOnReset { number := 11, role := .desk }) State.reset).port.conditions = 0 := by decide

/-- R193, R194: clocked bit by bit, SET_GOAL's frame carries its height high byte first; a frame of another length is dropped. -/
theorem test_order_frame :
    (after (.order .csRise false) (through .order [0x01, 0x10, 0x25, 0x1C] State.reset)).port.orders = [.setGoal 9500] ∧
      (after (.order .csRise false) (through .order [0x01, 0x10, 0x25] State.reset)).port.conditions = 0x000002 := by
  decide +kernel

/-- R193: the code byte is read the most significant bit first, whatever row its edges stand in: 06h is READ_ITEM, 60h no code. -/
theorem test_code_byte :
    (through .order [0x06] State.reset).port.serial.transaction = some .itemNumber ∧
      (through .order [0x60] State.reset).port.serial.transaction = some .invalid := by decide +kernel

/-- R193: 1 to 7 clocks latch PORT_FRAMING, no clock does not. -/
theorem test_short_transaction :
    let open0 := after (.invalidTransaction .csFall false) State.reset
    (after (.invalidTransaction .csRise false) (after (.invalidTransaction .sckRise true) open0)).port.conditions = 0x000002 ∧
      (after (.invalidTransaction .csRise false) open0).port.conditions = 0 ∧ State.reset.misoLevel = none ∧
      open0.misoLevel = some false := by decide

/-- R193: a reset abandons an order frame in progress, and its rise of CS then queues nothing and latches nothing. -/
theorem test_reset_abandons_a_transaction :
    let s := after (.powerOnReset { number := 0, role := .corner }) (inTransaction (.order [0x03]) State.reset)
    s.port.serial.transaction = some .abandoned ∧ (after (.order .csRise false) s).port.orders = [] ∧
      (after (.order .csRise false) s).port.conditions = 0 := by decide

/-- R193, R196, R211: after a power-on reset the RESTART report stands alone; behind the zeros of the code byte its first byte
is 1, the most significant bit first, and once 8 are shifted the rise of CS removes it. -/
theorem test_read_report :
    let row := fun edge (_ : Bool) => Instr.readReport edge
    let s := through row [0] State.reset
    (clocked row 0 (after (.readReport .csFall) State.reset)).2 = List.replicate 8 (some false) ∧
      (clocked row 0 s).2 = List.replicate 7 (some false) ++ [some true] ∧
      (after (.readReport .csRise) (through row (List.replicate 9 0) State.reset)).port.reports = [] ∧
      (after (.readReport .csRise) (through row (List.replicate 8 0) State.reset)).port.reports =
        State.reset.port.reports := by decide +kernel

/-- R198: a condition that is latched after the code byte stays where it was sent as 0, and is cleared where it was sent as 1. -/
theorem test_conditions_between_bytes :
    let s := fun t => t.onPort fun p => { p with conditions := 0xC00001 }
    (after (.readConditions .sckRise) (s (atEighth (.conditions 0x400000 0) 0 State.reset))).port.conditions = 0x800001 ∧
      (after (.readConditions .sckFall) (s (atStart (.conditions 0x400000 0) State.reset))).port.serial.miso = 0x40 := by decide

/-- R203: after station 11 comes station 0, an absent one's image being its number and zeros. -/
theorem test_peers_wrap :
    (after (.readPeers .sckRise false) (atEighth (.peers 11 [0]) 0 State.reset)).port.serial.transaction = some (.peers 0 []) ∧
      (after (.readPeers .sckFall false) (atStart (.peers 11 []) State.reset)).port.serial.miso = 11 := by decide

/-- R204: the open height reads back as 12,000 (2EE0h), an absent roster entry as 15. -/
theorem test_read_item :
    (after (.readItem .sckRise false) (atEighth .itemNumber 2 State.reset)).port.serial.transaction =
        some (.item [0, 0, 0x2E, 0xE0]) ∧
      (after (.readItem .sckRise false) (atEighth .itemNumber 32 State.reset)).port.serial.transaction =
        some (.item [0, 0, 0, 15]) := by decide

/-- R25, R26: the byte 01h has its first data bit alone idle; a change to the active level gone half a bit later is noise; the
stop bit at the active level is a framing error. -/
theorem test_receiver :
    received (levelsOf [false, true, false, false, false, false, false, false, false, true, true, true]) =
        some { chars := [0x01], count := 1, framingError := false } ∧
      received ([true, false, false, true, true] ++ frameLevels [0x96]) =
        some { chars := [0x96], count := 1, framingError := false } ∧
      received (levelsOf [false, true, false, false, false, false, false, false, false, false, true, true]) =
        some { chars := [0x01], count := 1, framingError := true } := by decide +kernel

/-- R26: of 17 characters the first 16 are kept, and all are counted. -/
theorem test_receiver_keeps_16 :
    received (frameLevels (List.replicate 16 0xC3 ++ [0x01])) =
      some { chars := List.replicate 16 0xC3, count := 17, framingError := false } := by decide +kernel

/-- R204: the refresh interval is kept in steps of 10 ms, and the open height draws the clearance height down with it. -/
theorem test_set_item :
    (after (.setItem 2 555) (withOrder (.setItem 2 555) (config 0 .corner))).config.item 2 = 550 ∧
      (after (.setItem 4 9000) (withOrder (.setItem 4 9000) (config 0 .corner))).config.item 5 = 9000 := by decide

/-- R206: RUN takes a station with the roster of the digest case to RUN with digest 14 and the inhibit set. -/
theorem test_run :
    (after .run (withOrder .run (config 8 .desk))).digest = some 14 ∧
      (after .run (withOrder .run (config 8 .desk))).port.startInhibit = true ∧
      (after .run (withOrder .run (config 8 .desk))).desk.phase = some .inactive := by decide

/-- The session of chapter 9: SET_GOAL 8,000 at a clearance height of 9,500 is clamped to it. -/
theorem test_set_goal_clamps :
    (after (.setGoal 8000) (withOrder (.setGoal 8000) (desk .active))).desk.requestedGoal = 9500 ∧
      (after (.setGoal 0) (withOrder (.setGoal 0) (desk .active))).desk.requestedGoal = 0 := by decide

/-- The same session: RAISE pressed with the key on gives the published RAISE, and a key turned off INACTIVE and NONE. -/
theorem test_desk_session :
    (deliverDesk 0 true (desk .active)).publishedDemand = .raise ∧
      (deliverDesk 4 false (deliverDesk 2 true (desk .active))).desk.phase = some .inactive ∧
      (deliverDesk 4 false (deliverDesk 2 true (desk .active))).publishedDemand = .none := by decide

/-- The overflowing record of chapter 10: its TRIP report has SUBJECT 2, OLD 0, NEW 1, and the phase before the trip, 8. -/
theorem test_trip_report :
    (submitCause .driveFault (corner .raising)).port.reports.head? =
      some { kind := .trip, time := 0, subject := 2, old := 0, new := 1, extra1 := 8, extra2 := 0 } := by decide

/-- The arm that gives up (chapter 6): at a retry count of 3 above the limit of 2, the end of a reversal is OBSTRUCTED. -/
theorem test_arm_gives_up :
    ((endRaise 0 (({ approach .entryLowering .raising .lower with
        config := storeItem ConfigStore.defaults 30 2 }).onArm 0 fun a =>
          { a with reversing := true, retry := 3 })).arm 0).state = some (.fault .obstructed) := by decide

/-- The closure of chapter 5: the amber timer's expiry gives RED_CLEARANCE. -/
theorem test_amber_expiry :
    (after .amberTimerExpiry (demanding 1 ((approach .amber .raised .none).onClosure fun c =>
      { c with amberTimer := some 5000 }))).closure.phase = some .redClearance := by decide

/-- The seat capture of chapter 3: 17 counts are within the tolerance, so the count is 0 and the corner sets its brake. -/
theorem test_seat_capture :
    let s := (corner .lowering).onMotion fun m =>
      { m with encoder := { m.encoder with count := 17 }, brake := { m.brake with out := true } }
    (seatCapture s).motion.encoder.count = 0 ∧ (seatCapture s).motion.phase = some .seated ∧
      (seatCapture s).motion.brake.out = false := by decide

/-- The horn case of chapter 7: ALERT over LONG discards the LONG; LONG over ALERT waits. -/
theorem test_horn_requests :
    let s := requestPattern horn .alert (requestPattern horn .long (channel .closing))
    (s.sounder 1).running = some (.alert, 0) ∧ (s.sounder 1).waiting = none ∧
      ((requestPattern horn .long s).sounder 1).waiting = some .long := by decide

/-- R62, R80, R184: a trip of a lifting corner drops both direction outputs and sets the brake at once. -/
theorem test_trip_stops_the_drive :
    let s := (corner .raising).onMotion fun m =>
      { m with brake := { m.brake with out := true }, output := { m.output with vOut := 300, up := true, upBlocked := false } }
    (submitCause .estop s).motion.output.up = false ∧ (submitCause .estop s).motion.output.vOut = 0 ∧
      (submitCause .estop s).motion.brake.out = false ∧
      (submitCause .estop s).motion.output.deadTimer = some 500 := by decide

/-- R163: CHANNEL_CLOSED needs a red that is not FAILED, or the manual stop. -/
theorem test_channel_closed :
    (channel .closedToVessels).channelClosed = true ∧ (channel .closing).channelClosed = false := by decide

/-! ### Witnesses -/

theorem test_witness_StepTakesTheFrontCommand :
    { State.reset with pending := [.run, .home] }.pending = .run :: [.home] ∧ State.reset.pending = [] := by decide

theorem test_witness_PowerOnResetLeaves :
    (config 0 .corner).straps = { number := 0, role := .corner } ∧ 12 ≤ (12 : Fin 16).val := by decide

theorem test_witness_ResetOrderObeysItsEnable :
    (withOrder .reset State.reset).port.orders.head? = some .reset ∧
      (withOrder .reset State.reset).port.resetEnable = false ∧
      ((withOrder .reset State.reset).onPort fun p => { p with resetEnable := true }).port.resetEnable = true := by decide

/-- A corner that lifts under its outputs, with a command waiting. -/
def lifting : State :=
  { (corner .raising).onMotion fun m =>
      { m with brake := { m.brake with out := true }, output := { m.output with vOut := 300, up := true } } with
    pending := [.stallTimerExpiry] }

/-- An approach that lowers its arms under their outputs, with a command waiting. -/
def lowering : State :=
  { (approach .entryLowering .lowering .lower).onClosure fun c =>
      { c with arms := .replicate 4 { armIn .lowering .lower with down := true, travelTimer := some 8000 } } with
    pending := [.armTravelTimeout 0] }

/-- A step that completes. -/
theorem completes_of_front {c : Instr} {rest : List Instr} {s t : State} (hp : s.pending = c :: rest)
    (h : exec c { s with pending := rest } = .next t) : step s = .next t := by
  simp only [step, hp, h]

theorem test_witness_OutputsStayExclusive : OutputsExclusive lifting ∧ Completes lifting := by
  refine ⟨by unfold OutputsExclusive; decide, _, completes_of_front rfl rfl⟩

theorem test_witness_ArmsStaySafe : ArmsSafe lowering ∧ Completes lowering := by
  refine ⟨by unfold ArmsSafe ArmQuiet; decide, _, completes_of_front rfl rfl⟩

theorem test_witness_CornerStaysSafeAtRest :
    let s := { corner .seated with pending := [.controlPeriod] }
    CornerStandsSafe s ∧ s.cornerIn forcesOff = true ∧ Completes s := by
  refine ⟨by unfold CornerStandsSafe; decide, by decide, _, completes_of_front rfl rfl⟩

/-- The second invariant: a corner in RAISING with its bolt WITHDRAWN, and a desk, which has no corner phase. -/
theorem test_witness_CornerStaysSafeAtRest_bolt :
    (TripFlagIsPhase lifting ∧ BoltClearOfMotion lifting ∧ lifting.motion.phase = some .raising ∧ Completes lifting) ∧
      let s := { desk .active with pending := [.stationTimeTick] }
      TripFlagIsPhase s ∧ BoltClearOfMotion s ∧ Completes s := by
  refine ⟨⟨?_, by unfold BoltClearOfMotion; decide, by decide, _, completes_of_front rfl rfl⟩,
    ?_, by unfold BoltClearOfMotion; decide, _, completes_of_front rfl rfl⟩
  · show lifting.motion.phase.isSome = true ∧ (lifting.trip.flag = true ↔ lifting.motion.phase = some .tripped)
    decide
  · show (desk .active).desk.phase.isSome = true ∧ ((desk .active).trip.flag = true ↔ (desk .active).desk.phase = some .tripped)
    decide

/-- A tripped corner, with a command waiting. -/
def stopped : State := { tripped [.stall] (corner .tripped) with pending := [.estopEvent] }

theorem test_witness_TripFlagStaysWithPhase :
    TripFlagIsPhase stopped ∧ Completes stopped ∧ TripFlagIsPhase lifting ∧ TripFlagIsPhase lowering := by
  refine ⟨?_, ⟨_, completes_of_front rfl rfl⟩, ?_, ?_⟩
  · show stopped.motion.phase.isSome = true ∧ (stopped.trip.flag = true ↔ stopped.motion.phase = some .tripped)
    decide
  · show lifting.motion.phase.isSome = true ∧ (lifting.trip.flag = true ↔ lifting.motion.phase = some .tripped)
    decide
  · show lowering.closure.phase.isSome = true ∧ (lowering.trip.flag = true ↔ lowering.closure.phase = some .tripped) ∧
      (lowering.trip.flag = true → lowering.closure.amberTimer = none ∧ lowering.closure.redTimer = none ∧
        lowering.closure.deckClearTimer = none) ∧
      (∀ p, lowering.closure.heldStage = some p →
        p = .amber ∨ p = .redClearance ∨ p = .entryLowering ∨ p = .deckClearing ∨ p = .exitLowering ∨ p = .closed)
    refine ⟨by decide, by decide, by decide, fun p hp => ?_⟩
    cases hp

theorem test_witness_ConfigStaysQuiet :
    let s := { config 4 .approach with pending := [.run] }
    QuietInConfig s ∧ s.running = false ∧ Completes s := by
  refine ⟨by unfold QuietInConfig LineQuiet ArmQuiet; decide, by decide, _, completes_of_front rfl rfl⟩

/-- A channel that counts desk 8, with a command waiting. -/
def counting : State := { demanding 1 (channel .closing) with pending := [.staleTimerExpiry 8] }

theorem counting_other : ∀ j : Fin 12, j ≠ 8 → counting.peer j = none := by decide

theorem test_witness_PeerTableStaysLegal : PeerTableLegal counting ∧ Completes counting ∧ (counting.peer 8).isSome = true := by
  refine ⟨?_, ⟨_, completes_of_front rfl rfl⟩, by decide⟩
  intro j e he
  by_cases h : j = 8
  · subst h
    cases he
    exact ⟨by decide, by decide, by decide, by decide, by decide, fun x hx => by cases hx; decide⟩
  · rw [counting_other j h] at he
    cases he

/-- A line whose transmitter sends with a full slot. -/
def sending (collisions : Nat) (s : State) : State :=
  s.onLine .a fun u =>
    { u with tx := .sending, slot := .full true, sending := some [0xC3], collisions := collisions, health := some .ok }

theorem test_witness_LinesAndQueuesStayLegal :
    (let s := { sending 7 (channel .closing) with pending := [.collision { line := .a, bit := 12 }] }
     (LineLegal s.link.lineA ∧ LineLegal s.link.lineB) ∧ Completes s) ∧
    let s := { tripped [.estop, .stall, .skew, .brake] (corner .tripped) with pending := [.encoderTransition true true] }
    (PortInRange s ∧ TripRecordLegal s) ∧ Completes s := by
  refine ⟨⟨by unfold LineLegal; decide, _, completes_of_front rfl rfl⟩, by unfold PortInRange TripRecordLegal; decide, _,
    completes_of_front rfl rfl⟩

/-- The default items keep to their ranges, and a SET_ITEM that clamps item 2 to its maximum changes them. -/
theorem test_witness_LinesAndQueuesStayLegal_config :
    let s := { withOrder (.setItem 2 5000) (config 0 .corner) with pending := [.setItem 2 5000] }
    ConfigInRange s.config ∧ Completes s ∧ (after (.setItem 2 5000) s).config.item 2 = 1000 ∧ s.config.item 2 ≠ 1000 := by
  refine ⟨fun n range h => ?_, ⟨_, completes_of_front rfl rfl⟩, by decide, by decide⟩
  unfold itemRange at h
  split at h <;> first | (cases h; decide) | cases h

theorem test_witness_OnlyAResetLeavesRun : lifting.running = true ∧ Completes lifting :=
  ⟨by decide, _, completes_of_front rfl rfl⟩

/-- Each role, at the ends of the station numbers; a short frame and a framing error; the ends of the noise. -/
theorem test_witness_RecordReadsAsSent :
    (0 < 12 ∧ (cornerContent 8 0x2EE0).payload.role = .corner) ∧ (11 < 12 ∧ (deskContent 3).payload.role = .desk) ∧
      (4 < 12 ∧ (approach .closed .lowered .lower).ownContent.payload.role = .approach) ∧
      (6 < 12 ∧ (channel .closing).ownContent.payload.role = .channel) ∧ [0xC3#8] ≠ [] ∧
      ({ chars := [], count := 17, framingError := false } : Received).count ≠ 16 ∧
      ({ chars := [], count := 16, framingError := true } : Received).framingError = true ∧ (1 ≤ 1 ∧ 2 ≤ 2) := by decide

/-- R38, log entry 13: seven idle samples, 7/4 bit times, come short of the 2 bit times that end a receiver's ignoring. -/
theorem test_idle_before_a_frame :
    idleFirst (List.replicate 7 true ++ frameLevels [0x01]) = false ∧
      idleFirst (List.replicate 8 true ++ frameLevels [0x01]) = true := by decide +kernel

/-- A FIFO of this many orders. -/
def orders (n : Nat) : State := State.reset.onPort fun p => { p with orders := List.replicate n .run }

/-- A FIFO of this many reports, this many lost. -/
def reports (n lost : Nat) : State :=
  State.reset.onPort fun p =>
    { p with
      reports := List.replicate n { kind := .peer, time := 5, subject := 1, old := 2, new := 3, extra1 := 4, extra2 := 5 }
      lostCount := lost, lostFirstKind := 7, lostFirstTime := 7, lostLastKind := 8 }

theorem test_witness_TransactionsAreFramed :
    State.reset.port.serial.transaction = none ∧
      (∀ t ∈ [Transaction.code, .invalid, .abandoned],
        AtEighthClock t (atEighth t 0 State.reset) ∧ AtByteStart t (atStart t State.reset) ∧
          (inTransaction t State.reset).port.serial.transaction = some t) ∧
      (let s := fun code => atEighth .code (code / 2) State.reset
       (∀ row ∈ [2#8, 4, 6], (bitsWith (s row) false).toNat = row.toNat) ∧
         (∀ row ∈ [1#8, 3, 5, 7, 255], (bitsWith (s row) true).toNat = row.toNat) ∧ bitsWith (s 0) false = 0) ∧
      ((Transaction.order []).hasCode 2 = false ∧ (Transaction.status []).hasCode 0 = false ∧
        Transaction.invalid.hasCode 0 = true ∧ Transaction.code.hasCode 6 = true) ∧
      ((atStart .code State.reset).port.serial.bits = 0 ∧ (atEighth .code 0 State.reset).port.serial.bits ≠ 0 ∧
        (inTransaction .code State.reset).port.serial.bits ≠ 7) ∧
      (let s := (withOrder .reset State.reset).onPort fun p => { p with resetEnable := true }
       s.port.orders.head? = some .reset ∧ s.port.resetEnable = true) := by
  unfold AtEighthClock AtByteStart
  decide

theorem test_witness_OrderFramesAreExamined :
    ((inTransaction (.order [0x03]) (orders 7)).port.serial.transaction = some (.order [0x03]) ∧
      (inTransaction (.order [0x03]) (orders 7)).port.serial.bits = 0) ∧
      (AtEighthClock (.order []) (atEighth (.order []) 1 (orders 0)) ∧ AtByteStart (.order []) (atStart (.order []) (orders 0))) ∧
      (atEighth (.order [0x03]) 1 (orders 0)).port.serial.bits ≠ 0 ∧
      [0x03#8].head?.bind orderLength = some 1 ∧ ([] : List Byte).head?.bind orderLength ≠ some 0 ∧
      [0x00#8].head?.bind orderLength ≠ some 1 ∧ [0x12#8].head?.bind orderLength ≠ some 1 ∧
      [0x11#8, 0].head?.bind orderLength ≠ some 2 ∧ [0x01#8, 0, 0, 0, 0].head?.bind orderLength ≠ some 5 ∧
      8 ≤ (orders 8).port.orders.length ∧ (orders 0).port.orders.length < 8 ∧ (orders 7).port.orders.length < 8 := by
  unfold AtEighthClock AtByteStart
  decide

theorem test_witness_ReportsAreKeptAndRead :
    let head := (reports 2 0).port.reports.head?
    ((reports 31 0).port.reports.length < 32 ∧ 32 ≤ (reports 32 65535).port.reports.length) ∧
      (AtEighthClock .code (atEighth .code 1 (reports 1 0)) ∧ bitsWith (atEighth .code 1 (reports 1 0)) false = 2) ∧
      (∀ k ∈ [0, 7, 8], AtEighthClock (.report none k) (atEighth (.report none k) 0 (reports 0 0)) ∧
        AtEighthClock (.report head k) (atEighth (.report head k) 0 (reports 2 0)) ∧
        AtByteStart (.report none k) (atStart (.report none k) (reports 0 0)) ∧
        AtByteStart (.report head k) (atStart (.report head k) (reports 2 0))) ∧
      (inTransaction (.report none 0) (reports 0 0)).port.serial.transaction = some (.report none 0) ∧
      (inTransaction (.report head 7) (reports 2 0)).port.serial.transaction =
        some (.report (some { kind := .peer, time := 5, subject := 1, old := 2, new := 3, extra1 := 4, extra2 := 5 }) 7) ∧
      7 < 8 ∧ 8 ≤ 8 ∧ (reports 2 0).port.lostCount = 0 ∧ (reports 32 65535).port.lostCount ≠ 0 := by
  unfold AtEighthClock AtByteStart
  decide

theorem test_witness_AttnFollowsReportsAndConditions :
    let s := (withOrder .reset State.reset).onPort fun p => { p with resetEnable := true }
    s.port.orders.head? = some .reset ∧ s.port.resetEnable = true ∧ 23 < 24 ∧
      (∃ t, exec (.powerOnReset { number := 12, role := .desk }) s = .next t) ∧
      ∃ t, exec (.reset { number := 12, role := .desk }) s = .next t :=
  ⟨by decide, by decide, by decide, ⟨_, rfl⟩, _, rfl⟩

theorem test_witness_StatusAndItemsAreRead :
    (AtEighthClock .code (atEighth .code 1 State.reset) ∧ bitsWith (atEighth .code 1 State.reset) true = 3 ∧
      bitsWith (atEighth .code 3 State.reset) false = 6) ∧
      (∀ t ∈ [Transaction.status [1], .status [], .item [1], .item [], .itemNumber],
        AtEighthClock t (atEighth t 0 State.reset) ∧ AtByteStart t (atStart t State.reset)) ∧
      (let item := fun n => (bitsWith (atEighth .itemNumber (n / 2) State.reset) (n.getLsbD 0)).toNat
       (1 ≤ item 1 ∧ item 39 ≤ 39) ∧ (item 64 = 64 + (0 : Fin 12).val ∧ item 75 = 64 + (11 : Fin 12).val) ∧
         item 0 = 0 ∧ (39 < item 40 ∧ item 63 < 64) ∧ 75 < item 76 ∧ 75 < item 255) := by
  unfold AtEighthClock AtByteStart
  decide

theorem test_witness_ConditionsAreReadAndCleared :
    (AtEighthClock .code (atEighth .code 2 State.reset) ∧ bitsWith (atEighth .code 2 State.reset) false = 4) ∧
      (∀ k ∈ [0, 2, 3], let t := Transaction.conditions 0x800001 k
        AtEighthClock t (atEighth t 0 State.reset) ∧ AtByteStart t (atStart t State.reset)) ∧
      (2 < 3 ∧ 23 / 8 = 2 - 0 ∧ 0 / 8 = 2 - 2 ∧ (0x800001#24).getLsbD 23 = true) := by
  unfold AtEighthClock AtByteStart
  decide

theorem test_witness_PeerImagesAreShiftedOut :
    let s := demanding 1 (corner .held)
    (AtEighthClock .code (atEighth .code 2 s) ∧ bitsWith (atEighth .code 2 s) true = 5) ∧
      (∀ t ∈ [Transaction.peersStart, .peers 11 [], .peers 11 [1], .peers 0 [1, 2]],
        AtEighthClock t (atEighth t 0 s) ∧ AtByteStart t (atStart t s) ∧ t.hasCode 5 = true) ∧
      ((bitsWith (atEighth .peersStart 5 s) true).toNat < 12 ∧ ¬(bitsWith (atEighth .peersStart 6 s) false).toNat < 12) ∧
      s.peer 7 = none ∧ s.peer 8 = some (entryOf (deskContent 1) 0) ∧
      (entryOf (deskContent 1) 0).heard.isSome = true ∧ newEntry.heard = none := by
  unfold AtEighthClock AtByteStart
  decide

theorem test_witness_OrdersAreAnsweredOnce :
    orderTaken (.setMask 5) = some (.setMask 5) ∧ (withOrder (.setMask 5) State.reset).port.orders.head? = some (.setMask 5) ∧
      orderTaken (.reset { number := 0, role := .desk }) = some .reset ∧
      (withOrder .reset State.reset).port.resetEnable = false := by decide

theorem test_witness_SetItemStoresClamped :
    (withOrder (.setItem 2 555) (config 0 .corner)).port.orders.head? = some (.setItem 2 555) ∧
      (withOrder (.setItem 2 555) (run 0 .corner)).running = true ∧ (config 0 .corner).running = false ∧
      (40#8).toNat > 39 ∧ itemRange (config 0 .corner).config (1#8).toNat = some (0, 1) ∧
      itemRange (config 0 .corner).config (24#8).toNat = some (500, 12000) ∧
      itemRange (config 0 .corner).config (39#8).toNat = some (0, 0x1FFFFFF) := by decide

theorem test_witness_SetRosterReplacesTheRoster :
    (withOrder (.setRoster 0x000011223FFF) (config 0 .corner)).port.orders.head? = some (.setRoster 0x000011223FFF) ∧
      (run 0 .corner).running = true ∧ (config 0 .corner).running = false ∧
      (∀ j : Fin 12, (0x000011223FFF#48).toNat / 16 ^ (11 - j.val) % 16 < 4 ∨
        (0x000011223FFF#48).toNat / 16 ^ (11 - j.val) % 16 = 15) ∧
      (∃ j : Fin 12, 4 ≤ (0x000011224FFF#48).toNat / 16 ^ (11 - j.val) % 16 ∧
        (0x000011224FFF#48).toNat / 16 ^ (11 - j.val) % 16 ≤ 14) ∧
      ∃ j : Fin 12, 4 ≤ (0x00001122EFFF#48).toNat / 16 ^ (11 - j.val) % 16 ∧
        (0x00001122EFFF#48).toNat / 16 ^ (11 - j.val) % 16 ≤ 14 := by decide

/-- A station in CONFIG with a roster of these codes. -/
def rostered (n : Fin 16) (r : Role) (codes : BitVec 48) : State := { config n r with roster := rosterOf codes }

theorem test_witness_RunMakesItsChecksInOrder :
    12 ≤ (config 12 .corner).straps.number.val ∧ (config 11 .corner).rosterRole 11 = none ∧
      (config 4 .corner).rosterRole 4 = some .approach ∧
      ((rostered 0 .corner 0x000F11223FFF).roleCount .corner = 3 ∧ (rostered 0 .corner 0x000F11223FFF).rosterRole 0 = some .corner) ∧
      ((rostered 0 .corner 0x0000FF223FFF).roleCount .corner = 4 ∧ (rostered 0 .corner 0x0000FF223FFF).roleCount .approach = 0) ∧
      (rostered 0 .corner 0x000011111233).roleCount .approach = 5 ∧
      ((rostered 0 .corner 0x00001FFF3FFF).roleCount .approach = 1 ∧ (rostered 0 .corner 0x00001FFF3FFF).roleCount .channel = 0) ∧
      ((rostered 0 .corner 0x000011112223).roleCount .approach = 4 ∧ (rostered 0 .corner 0x000011112223).roleCount .channel = 3) ∧
      ((rostered 0 .corner 0x00001122FFFF).roleCount .channel = 2 ∧ (rostered 0 .corner 0x00001122FFFF).roleCount .desk = 0) ∧
      ((rostered 0 .corner 0x000012333FFF).roleCount .channel = 1 ∧ (rostered 0 .corner 0x000012333FFF).roleCount .desk = 3) ∧
      (withOrder .run (config 12 .corner)).port.orders.head? = some .run := by decide

theorem test_witness_RunStartsTheStation :
    (withOrder .run (config 0 .corner)).port.orders.head? = some .run ∧ (withOrder .run (config 0 .corner)).running = false ∧
      (withOrder .run (config 0 .corner)).failedCheck = none := by decide

/-- A station in CONFIG with its ESTOP input filtered active. -/
def estopped (s : State) : State := s.onTrip fun t => { t with estopFiltered := true }

theorem test_witness_RunTakesTheFirstPhase :
    (∀ p ∈ [(0, Role.corner), (4, .approach), (6, .channel), (8, .desk)],
      (withOrder .run (config p.1 p.2)).failedCheck = none ∧ (config p.1 p.2).trip.flag = false ∧
        (config p.1 p.2).trip.causes = [] ∧ (config p.1 p.2).trip.estopFiltered = false ∧
        (estopped (config p.1 p.2)).trip.estopFiltered = true) ∧
      ((withInputs [0, 2] (config 0 .corner)).filtered 0 = true ∧ (withInputs [0, 2] (config 0 .corner)).boltPattern = .atSecond) ∧
      (withInputs [0, 1] (config 0 .corner)).boltPattern = .atFirst ∧ (config 0 .corner).boltPattern = .travelling ∧
      (withInputs [1, 2] (config 0 .corner)).boltPattern = .invalid ∧ (withInputs [3] (config 0 .corner)).filtered 3 = true ∧
      ((config 4 .approach).config.item 35 = 0 ∧ (config 4 .approach).config.item 37 = 1) := by decide

theorem test_witness_PortAndInhibitOrdersTakeEffect :
    (withOrder .enableReset State.reset).port.orders.head? = some .enableReset ∧
      (withOrder (.setMask 1) State.reset).port.orders.head? = some (.setMask 1) ∧
      (withOrder (.setThreshold 32) State.reset).port.orders.head? = some (.setThreshold 32) ∧
      (withOrder (.setThreshold 33) State.reset).port.orders.head? = some (.setThreshold 33) ∧
      (withOrder .setInhibit (config 0 .corner)).port.orders.head? = some .setInhibit ∧ (config 0 .corner).running = false ∧
      (run 0 .corner).running = true ∧ (config 0 .corner).port.startInhibit = true ∧ (run 0 .corner).port.startInhibit = false ∧
      (withOrder .clearInhibit (run 0 .corner)).port.orders.head? = some .clearInhibit ∧
      (tripped [.stall] (corner .tripped)).trip.flag = true ∧ (corner .held).trip.flag = false := by decide

/-- What waits for the inhibit at an approach and at a channel, with the inhibit set and clear. -/
def inhibited (s : State) : State := s.onPort fun p => { p with startInhibit := true }

/-- An approach that holds for a stage, its arms raised. -/
def holding (stage : ApproachPhase) : State :=
  (approach .holding .raised .none).onClosure fun c => { c with heldStage := some stage }

/-- The invariants of its first clause: an approach that lowers its arms, one that keeps a hold pending behind its amber, and
one in CONFIG, its arm 3 not fitted, that is about to run. -/
theorem test_witness_PortAndInhibitOrdersTakeEffect_legal :
    (ArmsSafe lowering ∧ ClosureLegal lowering ∧ Completes lowering) ∧
      (let s := (approach .amber .raised .none).onClosure fun c => { c with holdPending := true }
       ArmsSafe s ∧ ClosureLegal s ∧ s.closure.holdPending = true) ∧
      let s := { withOrder .run (config 4 .approach) with
        config := storeItem ConfigStore.defaults 38 2, pending := [.run] }
      ArmsSafe s ∧ ClosureLegal s ∧ s.isFitted 3 = false ∧ Completes s ∧ (after .run s).running = true := by
  refine ⟨⟨?_, ?_, _, completes_of_front rfl rfl⟩, ⟨?_, ?_, by decide⟩, ?_, ?_, by decide,
    ⟨_, completes_of_front rfl rfl⟩, by decide +kernel⟩ <;>
    first | (unfold ArmsSafe ArmQuiet; decide) | (unfold ClosureLegal; decide)

/-- Approaches that wait for the inhibit: in each phase, and holding for each stage. -/
def waitingApproaches : List State :=
  [approach .opened .raised .none, approach .closed .lowered .lower, holding .amber, holding .redClearance,
    holding .entryLowering, holding .deckClearing, holding .exitLowering, holding .closed]

/-- They meet the invariant, with the inhibit set and RAISE standing too. -/
theorem test_witness_PortAndInhibitOrdersTakeEffect_legalWaiting :
    (∀ s ∈ waitingApproaches, ClosureLegal (inhibited s)) ∧
      ∀ s ∈ waitingApproaches, ClosureLegal (demanding 1 (inhibited s)) := by
  unfold ClosureLegal
  exact ⟨by decide, by decide⟩

/-- The clauses on the approach and the channel, each demand and each held stage. -/
theorem test_witness_PortAndInhibitOrdersTakeEffect_waiting :
    (∀ s ∈ waitingApproaches,
      s.straps.role = .approach ∧ s.running = true ∧ s.trip.flag = false ∧ s.closure.holdPending = false ∧
        (inhibited s).port.startInhibit = true ∧ s.demandView ≠ .raise ∧ (demanding 1 s).demandView = .raise ∧
        (demanding 2 (spanAt 4 0 s)).demandView = .lower ∧ (demanding 2 (spanAt 4 0 s)).spanSeatedLocked = true ∧
        (demanding 2 s).spanSeatedLocked = false ∧ s.isFitted 0 = true ∧ (s.arm 0).state ≠ some .manual) ∧
      (let s := channel .closedToVessels
       s.straps.role = .channel ∧ s.channel.phase = some .closedToVessels ∧ (inhibited s).port.startInhibit = true ∧
         s.demandView ≠ .raise ∧ (demanding 1 s).demandView = .raise ∧ (spanAt 9 9500 s).spanClear = true ∧
         s.spanClear = false) := by decide

theorem test_witness_ClearTripIsDecided :
    (withOrder .clearTrip (config 0 .corner)).port.orders.head? = some .clearTrip ∧ (corner .held).trip.flag = false ∧
      (tripped [.stall, .estop] (estopped (corner .tripped))).firstPersisting = some .estop ∧
      (∀ p ∈ [tripped [.stall] (corner .tripped), tripped [.estop] (approach .tripped .raised .none),
          tripped [.estop] (channel .tripped), tripped [.estop] (desk .tripped)],
        p.running = true ∧ p.trip.flag = true ∧ p.firstPersisting = none ∧ p.demandView ≠ .raise ∧ p.demandView ≠ .lower) ∧
      (withInputs [0] (tripped [.stall] (corner .tripped))).onSeat = true ∧
      (demanding 3 (tripped [.stall] (corner .tripped))).demandView = .halt := by decide

theorem test_witness_HomeStartsHoming :
    (withOrder .home (corner .held)).port.orders.head? = some .home ∧ (corner .seated).motion.phase = some .seated ∧
      ((corner .held).motion.phase = some .held ∧ (corner .held).maint = false) ∧
      ((withInputs [24] (corner .unreferenced)).maint = true ∧ (corner .unreferenced).motion.phase = some .unreferenced ∧
        (corner .unreferenced).demandView = .none ∧ (corner .unreferenced).motion.bolt.state = .withdrawn) ∧
      (demanding 1 (corner .held)).demandView = .raise ∧ (demanding 2 (corner .held)).demandView = .lower ∧
      ((withInputs [24, 0] (corner .held)).seat = true ∧ (withInputs [24] (corner .held)).seat = false) := by decide

theorem test_witness_ArmOrdersTakeEffect_accept :
    let s := approach .entryLowering (.fault .obstructed) .lower
    (withOrder (.armAccept 3) s).port.orders.head? = some (.armAccept 3) ∧ s.straps.role = .approach ∧
      (config 4 .approach).running = false ∧ 3 < (4#8).toNat ∧ (0 : Fin 4).val = (0#8).toNat ∧ (3 : Fin 4).val = (3#8).toNat ∧
      s.isFitted 0 = true ∧ s.isFitted 3 = true ∧ (s.arm 0).state = some (.fault .obstructed) ∧
      { s with config := storeItem s.config 35 2 }.isFitted 0 = false ∧
      (∀ c, ((approach .opened .raised .none).arm 0).state ≠ some (.fault c)) ∧
      (approach .opened (.fault .disturbed) .none).closure.phase = some .opened := by
  refine ⟨by decide, by decide, by decide, by decide, by decide, by decide, by decide, by decide, by decide, by decide, ?_,
    by decide⟩
  intro c; cases c <;> decide

theorem test_witness_ArmOrdersTakeEffect_reset :
    let s := approach .entryLowering .manual .lower
    (withOrder (.armReset 3) s).port.orders.head? = some (.armReset 3) ∧ (s.arm 0).state = some .manual ∧
      (withInputs [0, 1] s).armPattern 0 = .invalid ∧ (approach .raisingArms .manual .raise).closure.phase = some .raisingArms ∧
      ((approach .tripped .manual .none).closure.phase = some .tripped ∧ ((approach .tripped .manual .none).arm 0).command = .none ∧
        (approach .tripped .manual .none).armPattern 0 = .travelling) ∧
      ((withInputs [0] s).armPattern 0 = .atFirst ∧ ((withInputs [0] s).arm 0).command = .lower ∧
        (withInputs [0] s).presence 0 = false ∧ (withInputs [0] s).config.item 35 = 0 ∧
        (demanding 1 (withInputs [0] s)).demandView = .raise ∧ s.closure.holdPending = false ∧ s.trip.flag = false ∧
        (s.arm 0).gapTimer = none ∧ (s.arm 0).up = false) ∧
      (s.onPort fun p => { p with startInhibit := true }).port.startInhibit = true := by decide

/-- A channel whose red lamps have both failed. -/
def darkReds (s : State) : State :=
  (s.onLamp 0 fun l => { l with proving := .failed }).onLamp 1 fun l => { l with proving := .failed }

theorem test_witness_NavAcceptClosesTheChannel :
    let s := darkReds (channel .closing)
    (withOrder .navAccept s).port.orders.head? = some .navAccept ∧ s.straps.role = .channel ∧
      (channel .opening).channel.phase = some .opening ∧ s.channel.phase = some .closing ∧
      (s.lamp 0).proving = .failed ∧ (s.lamp 1).proving = .failed ∧ ((channel .closing).lamp 0).proving ≠ .failed ∧
      s.channel.manualStop = false ∧ s.demandView ≠ .raise ∧
      (darkReds (channel .closedToVessels)).channel.phase = some .closedToVessels ∧
      (s.onChannel fun c => { c with manualStop := true }).channel.manualStop = true := by decide

theorem test_witness_DeskOrdersTakeEffect :
    (withOrder (.demand 3) (desk .active)).port.orders.head? = some (.demand 3) ∧ (config 8 .desk).running = false ∧
      (3 < (4#8).toNat ∧ (3#8).toNat ≤ 3) ∧ (desk .active).desk.phase = some .active ∧ (desk .inactive).desk.phase = some .inactive ∧
      (desk .tripped).desk.phase = some .tripped ∧
      (withOrder (.setGoal 8000) (desk .active)).port.orders.head? = some (.setGoal 8000) ∧
      (withOrder .clearRequest (desk .active)).port.orders.head? = some .clearRequest ∧
      ((tripped [.estop] (desk .tripped)).trip.flag = true ∧ (tripped [.estop] (desk .tripped)).firstPersisting = none) ∧
      (tripped [.estop] (estopped (desk .tripped))).firstPersisting ≠ none ∧ (desk .active).trip.flag = false := by decide

/-- R177: a desk with the whole bridge in view, its road closed, its span clear and a channel at PROCEED, lights LO0, LO2, LO3
and, once RAISE is its demand, LO6. -/
theorem test_desk_indicators :
    let open6 := { channelContent with payload := .channel 2 false false false false 0 0 }
    let s := spanAt 9 9500 (withEntry 4 (entryOf closedContent 0) (withEntry 5 (entryOf closedContent 0)
      (withEntry 6 (entryOf open6 0) (withOrder (.demand 1) (desk .active)))))
    (List.finRange 16).filter (fun i => ((after (.demand 1) s).lamp i).mode == .steady) = [0, 2, 3, 6] := by decide

theorem test_witness_RoleOrdersRefusedElsewhere :
    (withOrder .home (desk .active)).port.orders.head? = some .home ∧ (desk .active).straps.role ≠ .corner ∧
      (withOrder (.armAccept 0) (desk .active)).port.orders.head? = some (.armAccept 0) ∧
      (withOrder (.armReset 0) (config 8 .desk)).port.orders.head? = some (.armReset 0) ∧
      (withOrder .navAccept (desk .active)).port.orders.head? = some .navAccept ∧
      (withOrder (.demand 0) (corner .held)).port.orders.head? = some (.demand 0) ∧ (corner .held).straps.role ≠ .desk ∧
      (withOrder (.setGoal 0) (corner .held)).port.orders.head? = some (.setGoal 0) ∧
      (withOrder .clearRequest (corner .held)).port.orders.head? = some .clearRequest := by decide

/-- What line A carries for a record of desk 8. -/
def deskLevels : List Bool := frameLevels (recordFrame 8 .desk 7 14 (deskContent 1))

/-- What a receiver hands over of it. -/
def deskReceived : Received :=
  { chars := recordFrame 8 .desk 7 14 (deskContent 1), count := 16, framingError := false }

theorem deskLevels_received : received deskLevels = some deskReceived := by decide +kernel

/-- The same after 8 samples, 2 bit times, of idle line, and after 7. -/
theorem deskLevels_behind_idle :
    (received (List.replicate 8 true ++ deskLevels) = some deskReceived ∧
        idleFirst (List.replicate 8 true ++ deskLevels) = true) ∧
      received (List.replicate 7 true ++ deskLevels) = some deskReceived ∧
      idleFirst (List.replicate 7 true ++ deskLevels) = false := by decide +kernel

theorem deskReceived_reads : readFrame deskReceived =
    some { source := 8, role := .desk, sequence := 7, digest := 14, content := deskContent 1 } := by decide +kernel

/-- The content of a desk whose clear counter stands at 3. -/
def pressedContent : Content := { deskContent 2 with payload := .desk 2 0 3 true false 0 }

/-- A tripped channel that has heard of desk 8 with its clear counter at 3. -/
def pressed : State := withEntry 8 (entryOf pressedContent 0) (tripped [.estop] (channel .tripped))

/-- A corner's record of a trip, new to a corner that lifts beside it. -/
def trippedCorner : Content := { cornerContent 13 1000 with tripped := true }

theorem trippedCorner_received :
    received (frameLevels (recordFrame 1 .corner 7 14 trippedCorner)) =
      some { chars := recordFrame 1 .corner 7 14 trippedCorner, count := 16, framingError := false } := by decide +kernel

theorem test_witness_FrameIsAcceptedIntoItsEntry :
    let s := demanding 2 (channel .closing)
    s.running = true ∧ (s.line .a).ignoring = false ∧ received deskLevels = some deskReceived ∧
      ((s.line .a).tx ≠ .sending ∧ idleFirst (List.replicate 8 true ++ deskLevels) = true ∧
        received (List.replicate 8 true ++ deskLevels) = some deskReceived) ∧
      (readFrame deskReceived).isSome = true ∧ (8 : Nat) ≠ s.straps.number.val ∧
      s.rosterRole 8 = some .desk ∧ s.peer 8 = some (entryOf (deskContent 2) 0) ∧
      (pressed.peer 8 = some (entryOf pressedContent 0) ∧ pressed.trip.flag = true ∧ pressed.firstPersisting = none ∧
        (estopped pressed).firstPersisting ≠ none ∧ (3#8) ≠ 0 ∧ (1#8) ≠ 7 ∧ pressed.straps.role ≠ .corner) ∧
      ((lifting.setPeer 1 (some (entryOf (cornerContent 8 1000) 0))).isMoving = true ∧
        cornerContent 8 1000 ≠ trippedCorner ∧ trippedCorner.tripped = true) := by
  exact ⟨by decide, by decide, deskLevels_received,
    ⟨by decide, deskLevels_behind_idle.1.2, deskLevels_behind_idle.1.1⟩, by rw [deskReceived_reads]; rfl, by decide, by decide,
    by decide, by decide, by decide⟩

theorem test_witness_OtherFramesAreDropped :
    received deskLevels = some deskReceived ∧ (config 6 .channel).running = false ∧
      ((channel .closing).onLine .a fun u => { u with ignoring := true, tx := .sending }).link.lineA.ignoring = true ∧
      idleFirst (List.replicate 7 true ++ deskLevels) = false ∧
      readFrame { deskReceived with count := 17 } = none ∧
      (desk .active).straps.number.val = 8 ∧ (rostered 6 .channel 0x000011233FFF).rosterRole 8 = some .desk ∧
      (rostered 6 .channel 0x00001123FFFF).rosterRole 8 = none ∧ (rostered 6 .channel 0x000011232FFF).rosterRole 8 = some .channel ∧
      Role.channel ≠ .desk ∧ (readFrame deskReceived).isSome = true :=
  ⟨deskLevels_received, by decide, by decide, deskLevels_behind_idle.2.2, by decide, by decide, by decide, by decide, by decide,
    by decide, by rw [deskReceived_reads]; rfl⟩

/-- R37, R38: a receiver that ignores the line past a collision drops the frame that won it, and takes the next one that comes
behind an idle line. -/
theorem test_receiver_ignores_the_winner :
    let s := (channel .closing).onLine .a fun u => { u with ignoring := true, tx := .gap, slot := .full false }
    let t := after (.frameReceived .a (List.replicate 7 true ++ deskLevels)) (demanding 2 s)
    t.peers = (demanding 2 s).peers ∧ (t.line .a).ignoring = false ∧
      (after (.frameReceived .a (List.replicate 8 true ++ deskLevels)) (demanding 2 s)).peers ≠ t.peers := by decide +kernel

/-- A corner that lifts beside corner 1, whose AGE is this. -/
def beside (age : Nat) : State := withEntry 1 (entryOf (cornerContent 8 1000) age) (corner .raising)

theorem test_witness_EntriesAgeAndExpire :
    ((beside 0).peer 1 = some (entryOf (cornerContent 8 1000) 0) ∧ (entryOf (cornerContent 8 1000) 0).freshness = .fresh ∧
      (entryOf (cornerContent 8 1000) 0).staleTimer.isSome = true ∧ (beside 0).running = true ∧ (beside 0).isMoving = true ∧
      (beside 0).rosterRole 1 = some .corner ∧
      { entryOf (cornerContent 8 1000) 0 with freshness := .stale, staleTimer := none }.lostTimer.isSome = true ∧
      (entryOf (cornerContent 8 1000) 0).seenTimerA.isSome = true ∧
      (entryOf (cornerContent 8 1000) 0).seenTimerB.isSome = true) ∧
    (beside 29).running = true ∧ (beside 29).isMoving = true ∧
      (∃ j e h, (beside 29).peer j = some e ∧ e.heard = some h ∧ (beside 29).rosterRole j = some .corner ∧
        j.val ≠ (beside 29).straps.number.val ∧ h.content.phase.toNat ∈ [7, 8, 10, 11] ∧ 29 ≤ h.age) :=
  ⟨by decide, by decide, by decide, 1, _, _, rfl, rfl, by decide, by decide, by decide, by decide⟩

/-- Line A in a transmitter state with a slot and a spacing timer. -/
def lineIn (tx : TxState) (slot : Slot) (spacing refresh : Timer) (changed : Bool) : State :=
  (channel .closing).onLine .a fun u =>
    { u with tx := tx, slot := slot, spacingTimer := spacing, refreshTimer := refresh, changed := changed }

theorem test_witness_SlotTimersExpire :
    ((lineIn .spacing (.full false) (some 20) none false).link.lineA.spacingTimer.isSome = true ∧
      (lineIn .spacing (.full false) (some 20) none false).link.lineA.tx = .spacing) ∧
      ((lineIn .idle .empty (some 20) none true).link.lineA.slot = .empty ∧
        (lineIn .idle .empty (some 20) none true).link.lineA.changed = true) ∧
      (lineIn .idle .empty (some 20) none false).link.lineA.changed = false ∧
      ((lineIn .idle .empty none (some 200) false).link.lineA.refreshTimer.isSome = true ∧
        (lineIn .idle .empty none (some 200) false).link.lineA.spacingTimer = none) ∧
      (lineIn .idle .empty (some 20) (some 200) false).link.lineA.spacingTimer.isSome = true ∧
      (lineIn .gap (.full true) none (some 200) false).link.lineA.slot ≠ .empty := by decide

theorem test_witness_IdleGapsAndDeferrals :
    (lineIn .gap (.full false) none none false).link.lineA.tx = .gap ∧
      delayBits (lineIn .gap (.full false) none none false) .a = 48 ∧ delayBits (config 0 .corner) .a = 0 ∧
      (lineIn .delay (.full false) none none false).link.lineA.tx = .delay ∧
      (lineIn .idle .empty none none false).link.lineA.tx = .idle := by decide

theorem test_witness_AttemptsSendTheNumberedRecord :
    let s := (lineIn .delay (.full false) none none true).onLine .a fun u => { u with delayTimer := some 48 }
    s.link.lineA.tx = .delay ∧ s.link.lineA.delayTimer.isSome = true ∧ s.link.reference = none ∧
      (s.onLink fun k => { k with reference := some s.ownContent }).link.reference = some s.ownContent ∧
      s.ownContent ≠ deskContent 1 ∧
      (sending 6 (channel .closing)).link.lineA.tx = .sending ∧ (sending 6 (channel .closing)).link.lineA.collisions < 7 ∧
      (sending 7 (channel .closing)).link.lineA.collisions = 7 ∧ (sending 7 (channel .closing)).link.lineA.changed = false ∧
      ((sending 7 (channel .closing)).onLine .a fun u => { u with changed := true }).link.lineA.changed = true ∧
      (sending 7 (channel .closing)).link.lineA.spacingTimer = none ∧ (1 : Fin 160) ≠ 0 ∧ (159 : Fin 160) ≠ 0 := by decide

/-- A collision on the start bit that the line did not follow finds the gap met (R35, R37): station 6's second attempt is
delayed by 6 × 8 + 1 × 16 bit times. One on a later bit waits for the gap. -/
theorem test_collision :
    (after (.collision { line := .a, bit := 0 }) (sending 0 (channel .closing))).link.lineA.delayTimer = some 64 ∧
      (after (.collision { line := .a, bit := 1 }) (sending 0 (channel .closing))).link.lineA.tx = .gap := by decide

theorem test_witness_SilentLinesAreFound :
    let s := (channel .closing).onLine .b fun u => { u with health := some .ok, healthTimer := some 600 }
    (s.line .b).healthTimer.isSome = true ∧ (s.line .b).health ≠ some .silent ∧
      ((channel .closing).line .a).health ≠ some .ok := by decide

/-- An approach whose red clearance ends, with both STOP lamps dark, a hold pending and a standing RAISE. -/
def returning : State :=
  darkReds (demanding 1 ((approach .redClearance .raised .none).onClosure fun c =>
    { c with redTimer := some 10000, holdPending := true }))

/-- R30, R104, R111, R112: it goes to HOLDING and back in one event, and that is a change of content. -/
theorem test_change_and_return :
    (after .redClearanceExpiry returning).closure.phase = some .redClearance ∧
      ((after .redClearanceExpiry returning).line .a).changed = true ∧
      ((after .redClearanceExpiry returning).line .b).changed = true := by decide

/-- A tripped approach in half A, one of whose warning lamps has gone dark while the other, FAILED, carries current again. -/
def swapping : State :=
  ((tripped [.estop] (approach .tripped .lowered .none)).onLamp 4 fun l =>
    { l with mode := .flashA, proving := .proven, window := some 300 }).onLamp 5 fun l =>
      { l with mode := .flashB, proving := .failed, sensed := true }

/-- R30, R100, R143, R147: its half ends, one lamp joins LAMP_SUMMARY as the other leaves it, and that is a change of content. -/
theorem test_lamps_change_and_return :
    let t := after .flashHalfExpiry swapping
    (t.lamp 4).proving = .failed ∧ (t.lamp 5).proving = .proven ∧ t.lampSummary = swapping.lampSummary ∧
      (t.line .a).changed = true ∧ (t.line .b).changed = true ∧ (swapping.line .a).changed = false := by decide +kernel

/-- The expiry of MAINT's filter changes the content of a corner, that of an ended stall window in CONFIG changes none; the
amber timer's expiry submits a PHASE report, an arm that arrives an ARM report, a lamp that fails a LAMP report. -/
theorem test_witness_ContentChangesAreSent :
    (let s := changing 24 true (corner .held)
     exec (.filterTimerExpiry 24) s = .next (after (.filterTimerExpiry 24) s) ∧ s.running = true ∧
       (after (.filterTimerExpiry 24) s).running = true ∧ s.ownContent ≠ (after (.filterTimerExpiry 24) s).ownContent) ∧
      (exec .stallTimerExpiry (corner .held) = .next (corner .held) ∧ ((corner .held).line .a).changed = false) ∧
      (let s := demanding 1 ((approach .amber .raised .none).onClosure fun c => { c with amberTimer := some 5000 })
       exec .amberTimerExpiry s = .next (after .amberTimerExpiry s) ∧ s.port.reports = [] ∧
         ∃ r ∈ (after .amberTimerExpiry s).port.reports, r.kind = .phase) ∧
      (let s := changing 1 true (demanding 1 (approach .entryLowering .lowering .lower))
       exec (.filterTimerExpiry 1) s = .next (after (.filterTimerExpiry 1) s) ∧ s.port.reports = [] ∧
         ∃ r ∈ (after (.filterTimerExpiry 1) s).port.reports, r.kind = .arm ∧ r.old ≠ r.new) ∧
      (exec .flashHalfExpiry swapping = .next (after .flashHalfExpiry swapping) ∧ swapping.port.reports = [] ∧
        ∃ r ∈ (after .flashHalfExpiry swapping).port.reports, r.kind = .lamp ∧ r.subject.toNat < 16 ∧ r.old = 1 ∧ r.new = 2) ∧
      (returning.running = true ∧ returning.straps.role = .approach ∧ returning.closure.phase = some .redClearance ∧
        returning.closure.redTimer.isSome = true ∧ returning.stopSignalOk = false ∧ returning.closure.holdPending = true ∧
        returning.demandView = .raise ∧ returning.port.startInhibit = false ∧ (returning.line .a).changed = false) ∧
      (lifting.running = true ∧ lifting.straps.role = .corner ∧ lifting.motion.controlTimer.isSome = true) ∧
      (after .controlPeriod (rising 1000 20)).motion.phase = some .raising := by
  refine ⟨⟨rfl, by decide, by decide, by decide⟩, ⟨rfl, by decide⟩, ⟨rfl, by decide, by decide⟩, ⟨rfl, by decide, by decide⟩,
    ⟨rfl, by decide, by decide +kernel⟩, by decide, by decide, by decide +kernel⟩

/-- The clause on the flash half. -/
theorem test_witness_ContentChangesAreSent_lamps :
    (swapping.running = true ∧ swapping.straps.role = .approach ∧ swapping.closure.phase = some .tripped ∧
      swapping.signal.halfTimer.isSome = true ∧ swapping.signal.half = .a) ∧
      ((swapping.lamp 4).mode = .flashA ∧ (swapping.lamp 4).window.isSome = true ∧ (swapping.lamp 4).proving = .proven) ∧
      ((swapping.lamp 5).mode = .flashB ∧ (swapping.lamp 5).sensed = true ∧ (swapping.lamp 5).proving = .failed) ∧
      ∀ k, k ≠ 4 → k ≠ 5 → (swapping.lamp k).mode = .off ∨ (swapping.lamp k).mode = .steady := by decide

theorem test_witness_InputsAreFiltered :
    ((changing 17 true (corner .held)).inputLine 17).filterTimer.isSome = true ∧ (changing 17 true (corner .held)).running = true ∧
      ((changing 17 true (corner .held)).inputLine 17).raw ≠ ((changing 17 true (corner .held)).inputLine 17).filtered ∧
      (reports 32 0).port.reports.length = 32 ∧ (changing 0 true (config 0 .corner)).running = false ∧ 17 ≤ (17 : Fin 25).val ∧ (23 : Fin 25).val ≤ 23 ∧
      ((corner .held).config.item 39).testBit 17 = false ∧ (storeItem (corner .held).config 39 0x820000).item 39 = 0x820000 ∧
      Nat.testBit 0x820000 17 = true ∧ Nat.testBit 0x820000 23 = true := by decide

theorem test_witness_EmergencyStopTrips :
    let s := (corner .raising).onTrip fun t => { t with estopRaw := true, estopTimer := some 2 }
    s.trip.estopTimer.isSome = true ∧ s.running = true ∧ s.trip.estopRaw = true ∧ s.trip.estopFiltered = false ∧
      s.trip.flag = false ∧ State.reset.running = false ∧ State.reset.trip.estopTimer.isSome = true := by decide

theorem test_witness_CausesAreTakenAndOutputsForced :
    (corner .raising).running = true ∧ (corner .raising).trip.flag = false ∧ (approach .closed .lowered .lower).trip.flag = false ∧
      (channel .opening).trip.flag = false ∧ (desk .active).trip.flag = false ∧
      (tripped [.stall] (corner .tripped)).trip.flag = true ∧ Cause.stall ∈ (tripped [.stall] (corner .tripped)).trip.causes ∧
      Cause.estop ∉ (tripped [.stall, .skew, .brake] (corner .tripped)).trip.causes ∧
      (tripped [.stall, .skew, .brake] (corner .tripped)).trip.causes.length < 4 ∧
      4 ≤ (tripped [.stall, .skew, .brake, .bolt] (corner .tripped)).trip.causes.length ∧
      (tripped [.stall, .skew, .brake, .bolt] (corner .tripped)).trip.more = false ∧
      ((tripped [.stall, .skew, .brake, .bolt] (corner .tripped)).onTrip fun t => { t with more := true }).trip.more = true := by
  decide

/-- The five outcomes of the view, over desk 8 as another station counts it and as desk 8 counts itself. -/
theorem test_witness_DemandViewCombinesTheDesks :
    (demanding 3 (corner .held)).peer 8 = some (entryOf (deskContent 3) 0) ∧ (demanding 3 (corner .held)).demandView = .halt ∧
      (demanding 1 (corner .held)).demandView = .raise ∧ (demanding 2 (corner .held)).demandView = .lower ∧
      (corner .held).demandView = .none ∧
      (withEntry 7 (entryOf (deskContent 2) 0) (demanding 1 (corner .held))).demandView = .halt ∧
      (withInputs [4] (tripped [.estop] (desk .tripped))).demandView = .halt ∧
      (withInputs [4] (tripped [.estop] (desk .tripped))).filtered 4 = true := by decide

theorem test_witness_ViewsCombineTheRecords :
    (corner .held).demandView ≠ .raise ∧ (demanding 1 (corner .held)).demandView = .raise ∧
      (withEntry 8 (entryOf { deskContent 1 with payload := .desk 1 9500 0 true false 0 } 0) (corner .held)).demandView = .raise ∧
      (bridge 1 6 (corner .unlocked)).approachesClosed = true ∧ (bridge 1 6 (corner .unlocked)).channelsClosed = true ∧
      (bridge 1 6 (corner .unlocked)).cornersReady = true ∧ (bridge 2 4 (corner .seatedLocked)).spanSeatedLocked = true ∧
      (bridge 2 9 ((corner .raised).onMotion fun m => { m with position := 9500 })).spanClear = false := by decide

theorem test_witness_EncoderCountsItsEdges :
    let s := corner .raising
    s.motion.encoder.a = false ∧ s.motion.encoder.b = false ∧ true ≠ s.motion.encoder.a ∧ (desk .active).straps.role ≠ .corner ∧
      (config 0 .corner).straps.role = .corner ∧ (config 0 .corner).running = false ∧ s.running = true ∧ s.trip.flag = false ∧
      (tripped [.encoder] (corner .tripped)).trip.flag = true ∧ Cause.encoder ∈ (tripped [.encoder] (corner .tripped)).trip.causes ∧
      Cause.encoder ∉ (tripped [.stall, .skew, .brake] (corner .tripped)).trip.causes ∧
      4 ≤ (tripped [.stall, .skew, .brake, .bolt] (corner .tripped)).trip.causes.length := by
  decide

/-- Expiries of the control period: too fast, beyond a margin, low without its seat, with a partner too far, with the stall
window at its ends, and halting on the seat under LOWER. -/
theorem test_witness_ControlPeriodSupervises :
    (lifting.running = true ∧ lifting.straps.role = .corner ∧ lifting.motion.controlTimer.isSome = true ∧
      lifting.trip.flag = false) ∧
      (let s := moved 4096 0 (rising 1000 20)
       ((s.config.item 9 : Int) * 5).tdiv 4 < ((4096 * 1000 : Int).tdiv (s.config.item 3)).natAbs * 10) ∧
      (let s := moved 104858 104858 (rising 1000 20)
       s.motion.encoder.referenced = true ∧ s.filtered 24 = false ∧
         (s.config.item 4 : Int) + s.config.item 8 < ((104858 * 1000 : Int).tdiv (s.config.item 3))) ∧
      (let s := moved (-123) (-123) (corner .lowering)
       s.motion.phase = some .lowering ∧ s.filtered 0 = false ∧
         ((-123 * 1000 : Int).tdiv (s.config.item 3)) ≤ -(s.config.item 7 : Int)) ∧
      (let s := withEntry 1 (entryOf (cornerContent 8 1101) 0) (rising 1000 20)
       s.motion.phase = some .raising ∧ (s.config.item 16 : Int) < s.skewNow) ∧
      (let s := (rising 1000 20).onMotion fun m => { m with stall := { timer := some 3000, start := some 997 } }
       (after .controlPeriod s).motion.phase = s.motion.phase ∧ s.motion.stall.start = some 997 ∧
         3 ≤ (1000 - 997 : Int).natAbs ∧ (1000 - 998 : Int).natAbs < 3 ∧
         0 < min (s.config.item 12) (min (s.config.item 9) (s.config.item 10))) ∧
      (let s := withInputs [0] (moved 41 41 (bridge 2 9 ((corner .halting).onMotion fun m =>
          { m with intent := .up, brake := { m.brake with out := true, settled := true } })))
       s.filtered 0 = true ∧ (after .controlPeriod s).motion.phase = some .locking ∧
         (after .controlPeriod s).motion.encoder.count = 0) := by decide +kernel

/-- Expiries that leave the corner in its phase, brake it off, arrive, halt and home. -/
theorem test_witness_ProfileDrivesTheSpan :
    ((rising 1000 20).trip.flag = false ∧ 0 < (rising 1000 20).config.item 11) ∧
      ((after .controlPeriod (rising 1000 20)).motion.phase = some .raising ∧
        (rising 1000 20).config.item 13 < (12000 - 1000 : Int).natAbs) ∧
      (after .controlPeriod (rising 1000 (-20))).motion.phase = some .raising ∧
      ((after .controlPeriod (rising 12000 0)).motion.phase = some .raised ∧ (12000 - 12000 : Int).natAbs ≤ 10) ∧
      (after .controlPeriod (descending 10 (-20))).motion.phase = some .lowering ∧
      (after .controlPeriod (descending 5000 (-20))).motion.phase = some .lowering ∧
      (let s := (rising 1000 20).onMotion fun m => { m with phase := some .halting }
       (after .controlPeriod s).motion.phase = some .halting ∨ (after .controlPeriod s).motion.phase = some .held) ∧
      (let s := withInputs [24] ((corner .homing).onMotion fun m => { m with homingStart := some 0 })
       s.motion.homingStart = some 0 ∧ (after .controlPeriod s).motion.phase = some .homing ∧
         (after .controlPeriod (s.onMotion fun m => { m with homingStart := some 20000 })).motion.phase =
           some .unreferenced) := by decide +kernel

theorem test_witness_DriveTimersExpire :
    State.reset.motion.output.deadTimer.isSome = true ∧
      (let s := (corner .raising).onMotion fun m => { m with stall := { timer := some 3000, start := some 0 } }
       s.running = true ∧ s.trip.flag = false ∧ s.motion.stall.timer.isSome = true) ∧
      (startDriving (corner .locking)).motion.bolt.travelTimer.isSome = true ∧
      (startDriving (corner .locking)).motion.bolt.state = .driving ∧
      (startWithdrawing (corner .unlocking)).motion.bolt.state = .withdrawing := by decide

/-- A corner released up, its brake timer running. -/
def releasing (feedback : Bool) : State :=
  let s := demanding 1 ((corner .releasing).onMotion fun m =>
    { m with intent := .up, goal := 12000, brake := { m.brake with out := true, brakeTimer := some 500 } })
  if feedback then withInputs [3] s else s

/-- A corner released down from its raised stand, its brake timer running. -/
def releasingDown (demand : Byte) : State :=
  withInputs [3] (bridge demand 9 ((corner .releasing).onMotion fun m =>
    { m with intent := .down, brake := { m.brake with out := true, brakeTimer := some 500 } }))

theorem test_witness_BrakeTimersExpire :
    ((releasing false).motion.brake.brakeTimer.isSome = true ∧ (releasing false).motion.phase = some .releasing ∧
      (releasing false).brakeFeedback = false ∧ (releasing false).trip.flag = false) ∧
      ((releasing true).brakeFeedback = true ∧ (releasing true).motion.intent = .up ∧ (releasing true).demandView = .raise ∧
        (releasing true).someCornerTripped = false ∧ (releasing true).someCornerSilent = false ∧
        (releasing true).leftBehindFound = false) ∧
      ((releasingDown 2).brakeFeedback = true ∧ (releasingDown 2).motion.intent = .down ∧
        (releasingDown 2).demandView = .lower ∧ (releasingDown 2).channelsClosed = true ∧
        (releasingDown 2).motion.bolt.state = .withdrawn ∧ (releasingDown 2).vesselAlertAny = false ∧
        (∀ j ∈ [1, 2, 3], (releasingDown 2).peer j = some (entryOf (cornerContent 9 0) 0)) ∧
        (releasingDown 2).someCornerTripped = false ∧ (releasingDown 2).someCornerSilent = false ∧
        (releasingDown 2).filtered 0 = false) ∧
      ((releasingDown 0).demandView ≠ .lower ∧ (releasingDown 0).demandView ≠ .raise ∧
        (releasingDown 0).motion.bolt.state = .withdrawn ∧ (releasingDown 0).motion.brake.out = true) ∧
      (let s := (corner .homing).onMotion fun m => { m with brake := { m.brake with out := true, brakeTimer := some 500 } }
       s.motion.brake.brakeTimer.isSome = true ∧ s.motion.phase = some .homing ∧ s.brakeFeedback = false ∧
         (withInputs [3] s).brakeFeedback = true) ∧
      ((setRequest (releasing true)).motion.brake.setCheckTimer.isSome = true ∧
        (setRequest (releasing true)).brakeFeedback = true ∧ (setRequest (releasing false)).brakeFeedback = false) ∧
      (let s := (corner .raised).onMotion fun m => { m with holdTimer := some 5000, brake := { m.brake with out := true } }
       s.motion.holdTimer.isSome = true ∧ s.motion.brake.out = true) := by decide

/-- Input by input: a lowering, a homing and a raised corner at the seat, the bolt's limits, the brake feedback against its
output, and the drive fault. -/
theorem test_witness_CornerInputsAct :
    (∀ i ∈ [0, 1, 2, 3, 4], FilteredChange i true (changing i true (corner .lowering)) ∧
      FilteredChange i false (changing i false (corner .lowering))) ∧
      ((corner .lowering).straps.role = .corner ∧ (corner .lowering).trip.flag = false ∧
        (corner .lowering).motion.phase = some .lowering ∧ (corner .lowering).demandView ≠ .raise ∧
        (corner .lowering).motion.bolt.state = .withdrawn ∧
        ((90 * 1000 : Int).tdiv ((corner .lowering).config.item 3)).natAbs ≤ (corner .lowering).config.item 7 ∧
        ¬((91 * 1000 : Int).tdiv ((corner .lowering).config.item 3)).natAbs ≤ (corner .lowering).config.item 7) ∧
      ((corner .homing).motion.phase = some .homing ∧ (corner .raised).motion.phase ≠ some .lowering ∧
        (corner .raised).motion.phase ≠ some .homing) ∧
      (let s := startDriving (corner .locking)
       s.motion.bolt.state = .driving ∧ s.motion.phase = some .locking ∧ s.unlockPermission = false ∧
         (after (.filterTimerExpiry 2) (changing 2 true s)).filtered 2 = true ∧
         (after (.filterTimerExpiry 2) (changing 2 true s)).filtered 1 = false) ∧
      ((after (.filterTimerExpiry 1) (changing 1 true (withInputs [2] (corner .held)))).filtered 2 = true ∧
        (after (.filterTimerExpiry 1) (changing 1 false (corner .held))).filtered 1 = false) ∧
      ((startWithdrawing (corner .held)).motion.bolt.state = .withdrawing ∧
        (startWithdrawing (corner .held)).demandView ≠ .raise ∧ (startWithdrawing (corner .held)).demandView ≠ .lower) ∧
      ((corner .held).motion.brake.out = false ∧ (corner .held).motion.brake.setCheckTimer = none ∧
        (releasing true).motion.brake.out = true ∧ (releasing true).motion.brake.settled = false ∧
        (after .brakeTimerExpiry (releasing true)).motion.brake.settled = true) := by
  unfold FilteredChange
  exact ⟨by decide, by decide, by decide, by decide, by decide, by decide, by decide⟩

/-- Phase by phase: the permissions as a whole bridge gives them, a partner that is behind, and a vessel under a raised span. -/
theorem test_witness_CornerMovesUnderItsPermissions :
    (FilteredChange 24 true (changing 24 true (bridge 1 6 (corner .unlocked))) ∧
      FilteredChange 24 false (changing 24 false (bridge 1 6 (corner .homing)))) ∧
      ((∀ p ∈ [CornerPhase.seated, .locking, .seatedLocked, .unlocking, .unlocked],
        (corner p).motion.phase = some p ∧ (corner p).demandView ≠ .raise ∧
        (bridge 1 4 (corner p)).demandView = .raise ∧ (bridge 1 4 (corner p)).approachesClosed = true ∧
        (bridge 1 4 (corner p)).cornersReady = true ∧ (corner p).motion.position ≠ -32768 ∧
        (corner p).port.startInhibit = false ∧ (demanding 1 (corner p)).unlockPermission = false)) ∧
      ((restBolt .driven (corner .locking)).motion.bolt.state = .driven ∧
        (startDriving (corner .seated)).motion.bolt.state = .driving ∧
        (startWithdrawing (corner .unlocking)).motion.bolt.state = .withdrawing ∧
        (corner .unlocked).motion.bolt.state = .withdrawn) ∧
      ((∀ j : Fin 12, (corner .held).rosterRole j = some .corner → j.val ≠ 0 → j ∈ [1, 2, 3]) ∧
        ∀ j ∈ [1, 2, 3], (bridge 1 6 (corner .unlocked)).peer j = some (entryOf (cornerContent 6 0) 0)) ∧
      ((bridge 1 6 (corner .unlocked)).someCornerTripped = false ∧ (bridge 1 6 (corner .unlocked)).someCornerSilent = false ∧
        (bridge 1 6 (corner .unlocked)).skewNow ≤ (corner .unlocked).config.item 16 ∧
        (corner .unlocked).motion.brake.out = false) ∧
      ((releasing true).motion.intent = .up ∧ (demanding 0 (releasing true)).demandView = .none ∧
        (demanding 3 (releasing true)).demandView = .halt ∧ (releasing true).onSeat = false ∧
        (withInputs [0] (demanding 0 (releasing true))).onSeat = true ∧ (releasingDown 2).motion.intent = .down) ∧
      ((releasingDown 1).demandView = .raise ∧ (releasingDown 1).onSeat = false ∧ (releasingDown 1).cornersReady = true ∧
        (releasingDown 1).port.startInhibit = false ∧ (releasingDown 1).motion.leftBehind = false ∧
        (releasingDown 1).motion.pos ≤ (releasingDown 1).config.item 7 ∧
        ((releasingDown 1).onMotion fun m => { m with leftBehind := true }).motion.leftBehind = true ∧
        (withInputs [0] (releasingDown 1)).onSeat = true ∧ (releasing true).motion.bolt.state = .withdrawn ∧
        ((releasingDown 1).onPort fun p => { p with startInhibit := true }).unlockPermission = false) ∧
      (let s := (bridge 1 4 (corner .raising)).onMotion fun m => { m with pos := 16 }
       s.demandView = .raise ∧ (s.config.item 7 : Int) < s.motion.pos ∧
         s.peer 1 = some (entryOf (cornerContent 4 0) 0) ∧ (bridge 0 8 (corner .raising)).demandView ≠ .raise) ∧
      (let s := (withEntry 6 (entryOf alertContent 0) (bridge 2 9 (corner .lowering))).onMotion fun m => { m with pos := 9500 }
       s.demandView = .lower ∧ s.vesselAlertAny = true ∧ (s.config.item 5 : Int) ≤ s.motion.pos) ∧
      ((bridge 2 9 (corner .raised)).demandView = .lower ∧ (bridge 2 9 (corner .raised)).channelsClosed = true ∧
        (bridge 2 9 (corner .raised)).vesselAlertAny = false ∧ (corner .raised).filtered 0 = false) ∧
      ((bridge 1 9 (corner .held)).demandView = .raise ∧ (bridge 1 9 (corner .held)).cornersReady = true ∧
        (bridge 1 9 (corner .held)).motion.leftBehind = false) ∧
      ((corner .homing).motion.phase = some .homing ∧ (corner .unreferenced).motion.phase = some .unreferenced ∧
        (corner .halting).motion.phase = some .halting ∧ (demanding 1 (corner .homing)).demandView = .raise ∧
        (demanding 2 (corner .homing)).demandView = .lower ∧ (corner .homing).demandView = .none) := by
  unfold FilteredChange
  exact ⟨by decide, by decide, by decide, by decide, by decide, by decide, by decide, by decide, by decide, by decide, by decide, by decide⟩

/-- An approach in a phase with its arms raised, its stage timers running and a desk that raises. -/
def staged (p : ApproachPhase) : State :=
  demanding 1 (withInputs [0, 2, 4, 6] ((approach p .raised .none).onClosure fun c =>
    { c with amberTimer := some 5000, redTimer := some 10000, deckClearTimer := some 20000, deckLimitTimer := some 80000 }))

theorem test_witness_StageTimersExpire :
    let s := staged .redClearance
    s.closure.deckLimitTimer.isSome = true ∧ s.straps.role = .approach ∧ s.demandView = .raise ∧ s.closure.holdPending = false ∧
      s.closure.amberTimer.isSome = true ∧ s.closure.redTimer.isSome = true ∧ s.closure.deckClearTimer.isSome = true ∧
      (s.stopSignalOk = true ∧ (darkReds s).stopSignalOk = false) ∧
      (s.config.item 35 = 0 ∧ s.config.item 37 = 1 ∧ (s.arm 0).state = some .raised ∧ (s.arm 0).command = .none ∧
        (s.arm 0).retry ≤ s.config.item 30 ∧ s.presence 0 = false ∧ s.armPattern 0 ≠ .atSecond ∧ s.trip.flag = false ∧
        (s.arm 0).gapTimer = none ∧ (s.arm 0).up = false ∧ s.presence 2 = false ∧ s.armPattern 2 ≠ .atSecond) ∧
      ((s.onClosure fun c => { c with holdPending := true }).closure.holdPending = true ∧
        (s.onPort fun p => { p with startInhibit := true }).port.startInhibit = true ∧
        (demanding 0 s).demandView = .none ∧ (demanding 3 s).demandView = .halt ∧
        ((demanding 2 s).demandView = .lower ∧ (demanding 2 s).spanSeatedLocked = false)) := by decide

/-- An approach in a phase, its arms in a state under a command with a retry count, and a desk that raises. -/
def armed (p : ApproachPhase) (x : ArmState) (c : ArmCommand) (retry : Nat) : State :=
  demanding 1 ((approach p x c).onClosure fun u => { u with arms := .replicate 4 { armIn x c with retry := retry } })

/-- The limits, presence and deck events, clause by clause; the retry limit is 3. -/
theorem test_witness_ApproachInputsAct :
    (∀ i ∈ [0, 7, 8, 15, 16], FilteredChange i true (changing i true (armed .entryLowering .lowering .lower 0)) ∧
      FilteredChange i false (changing i false (armed .entryLowering .lowering .lower 0))) ∧
      (let s := armed .entryLowering .lowering .lower 0
       s.straps.role = .approach ∧ s.trip.flag = false ∧ s.closure.holdPending = false ∧ s.demandView = .raise ∧
         s.closure.phase = some .entryLowering ∧ s.isFitted 0 = true ∧ s.isFitted 3 = true ∧ s.config.item 30 = 3) ∧
      (let t := after (.filterTimerExpiry 1) (changing 1 true (armed .entryLowering .lowering .lower 0))
       t.armPattern 0 = .atSecond ∧ t.entryArmsDown = false) ∧
      (let t := after (.filterTimerExpiry 1) (changing 1 true (withInputs [0] (armed .entryLowering .waiting .lower 0)))
       t.armPattern 0 = .invalid) ∧
      (let t := after (.filterTimerExpiry 0) (changing 0 true (armed .raisingArms .raising .raise 4))
       t.armPattern 0 = .atFirst ∧ t.armsReopened = false) ∧
      ((armed .entryLowering .raising .lower 3).arm 0).retry ≤ 3 ∧
      (3 < ((armed .entryLowering .raising .lower 4).arm 0).retry ∧
        ((armed .entryLowering .raising .lower 4).arm 0).reversing = false) ∧
      (let s := changing 1 false (armed .closed .lowered .lower 0)
       s.armPattern 0 = .travelling ∨ s.armPattern 0 = .atSecond) ∧
      ((armed .entryLowering .lowering .lower 2).presence 0 = false ∧
        ((armed .entryLowering .lowering .lower 2).arm 0).retry < 3 ∧
        3 ≤ ((armed .entryLowering .lowering .lower 3).arm 0).retry) ∧
      (let t := after (.filterTimerExpiry 8) (changing 8 true (armed .entryLowering .raised .lower 0))
       t.presence 0 = true ∧ ((armed .entryLowering .raised .lower 0).arm 0).held = false) ∧
      (let t := after (.filterTimerExpiry 12) (changing 12 false (armed .entryLowering .raised .lower 0))
       t.presence 0 = false) ∧
      (let s := armed .deckClearing .lowered .lower 0
       s.closure.phase = some .deckClearing ∧ s.deckClear = true ∧ (withInputs [16] s).deckClear = false) ∧
      ((demanding 3 (armed .amber .raised .none 0)).demandView ≠ .raise ∧
        (armed .redClearance .raised .none 0).closure.served = false ∧
        ((armed .exitLowering .lowering .lower 0).arm 0).state = some .lowering ∧
        (armed .exitLowering .lowering .lower 0).config.item 35 = 0 ∧
        ((armed .exitLowering .lowering .lower 0).arm 2).state = some .lowering ∧
        (armed .exitLowering .lowering .lower 0).isFitted 2 = true) := by
  unfold FilteredChange
  decide

/-- Arm 0 of an approach in ENTRY_LOWERING, with every timer of an arm running. -/
def timed (x : ArmState) (gap : Timer) : State :=
  demanding 1 (withInputs [0] ((approach .entryLowering x .lower).onArm 0 fun a =>
    { a with travelTimer := some 8000, retryTimer := some 3000, laneTimer := some 30000, gapTimer := gap }))

theorem test_witness_ArmTimersExpire :
    (((timed .lowering (some 300)).arm 0).gapTimer.isSome = true ∧ ((timed .lowering (some 300)).arm 0).up = false ∧
      ((timed .lowering (some 300)).arm 0).down = false ∧ (timed .lowering (some 300)).trip.flag = false) ∧
      (((timed .raising none).arm 0).travelTimer.isSome = true ∧ ((timed .raising none).arm 0).state = some .raising) ∧
      (((timed .waiting none).arm 0).retryTimer.isSome = true ∧ ((timed .waiting none).arm 0).state = some .waiting ∧
        ((timed .waiting none).arm 0).command = .lower ∧
        ((timed .waiting none).arm 0).retry ≤ (timed .waiting none).config.item 30 ∧ (timed .waiting none).presence 0 = false ∧
        (timed .waiting none).armPattern 0 ≠ .atSecond ∧ ((timed .waiting none).arm 0).gapTimer = none ∧
        (timed .waiting none).config.item 35 = 0 ∧ (timed .waiting none).closure.phase = some .entryLowering ∧
        (timed .waiting none).closure.holdPending = false ∧ (timed .waiting none).demandView = .raise) ∧
      ((timed .raised none).arm 0).laneTimer.isSome = true := by decide

theorem test_witness_ChannelClosesBehindVessels :
    (let s := (channel .closing).onChannel fun c => { c with clearingTimer := some 120000 }
     s.channel.clearingTimer.isSome = true ∧ s.channel.phase = some .closing ∧ s.demandView ≠ .raise ∧
       (inhibited s).port.startInhibit = true) ∧
      (FilteredChange 0 true (changing 0 true (channel .closing)) ∧ FilteredChange 0 false (changing 0 false (channel .closing))) ∧
      ((channel .closedToVessels).demandView ≠ .raise ∧
        ((channel .opening).demandView ≠ .lower ∧ (channel .opening).spanClear = false) ∧
        (let t := spanAt 9 9500 (channel .openToVessels)
         t.demandView ≠ .lower ∧ t.spanClear = true ∧ (t.lamp 3).proving ≠ .failed ∧ (t.lamp 4).proving ≠ .failed)) ∧
      ((channel .closing).port.startInhibit = false ∧ (demanding 1 (channel .closing)).demandView = .raise) ∧
      (((channel .closing).channel.vesselAlert = false ∧ ((channel .closing).sounder 1).running = none)) := by
  unfold FilteredChange
  decide

/-- R159, R160, R161 and R156: each way of moving at a vessel's arrival and departure. -/
theorem test_witness_ChannelClosesBehindVessels_moves :
    ∀ level ∈ [true, false],
      (let s := demanding 1 (changing 0 level (channel .closedToVessels))
       FilteredChange 0 level s ∧ s.channel.phase = some .closedToVessels ∧ s.port.startInhibit = false ∧
         s.demandView = .raise ∧ s.spanClear = false ∧ (spanAt 9 9500 s).spanClear = true) ∧
      (let s := changing 0 level (channel .opening)
       s.channel.phase = some .opening ∧ (demanding 2 s).demandView = .lower ∧ (demanding 1 s).demandView ≠ .lower ∧
         (spanAt 9 9500 s).spanClear = true) ∧
      let s := changing 0 level (channel .openToVessels)
      s.channel.phase = some .openToVessels ∧ (demanding 2 s).demandView = .lower ∧ s.spanClear = false ∧
        (s.sounder 1).running = none ∧ s.channel.greenFallback = false ∧
        (let t := (spanAt 9 9500 s).onLamp 4 fun l => { l with proving := .failed }
         (t.lamp 4).proving = .failed ∧ t.spanClear = true ∧ t.demandView ≠ .lower) := by
  unfold FilteredChange
  decide

/-- R161, R165: a channel at PROCEED that loses SPAN_CLEAR as a vessel arrives sounds ALERT, and LONG behind it. -/
theorem test_channel_withdraws :
    let t := after (.filterTimerExpiry 0) (changing 0 true (channel .openToVessels))
    t.channel.phase = some .closing ∧ (t.sounder 1).running = some (.alert, 0) ∧ (t.sounder 1).waiting = some .long := by
  decide

/-- A desk that has heard no peer and holds no demand, with a command waiting. -/
def idleDesk : State := { desk .active with pending := [.filterTimerExpiry 0] }

theorem idleDesk_sees_none (test : Content → Prop) : ¬SomeQualifying idleDesk test := by
  rintro ⟨j, e, h, he, -⟩
  rw [(by decide : ∀ k, idleDesk.peer k = none) j] at he
  cases he

/-- Each of its indicators is dark, as its test gives. -/
theorem test_witness_DeskInputsAct_indicators : (ArmsSafe idleDesk ∧ ChannelAtRest idleDesk ∧ IndicatorsShow idleDesk) ∧
    Completes idleDesk := by
  refine ⟨⟨by unfold ArmsSafe ArmQuiet; decide, by unfold ChannelAtRest; decide, fun _ _ => ⟨by decide, by decide, by decide, ?_, ?_, by decide, by decide,
    by decide, by decide⟩⟩, _, completes_of_front rfl rfl⟩
  · exact ⟨fun h => absurd h (idleDesk_sees_none _), fun _ => by decide⟩
  · exact ⟨fun h => h.elim (fun f => by cases f) fun f => absurd f (idleDesk_sees_none _), fun _ => by decide⟩

theorem test_witness_DeskInputsAct :
    (∀ i ∈ [0, 2, 3, 4, 5, 24], FilteredChange i true (changing i true (desk .active)) ∧
      FilteredChange i false (changing i false (desk .active))) ∧
      ((desk .active).straps.role = .desk ∧ (desk .active).desk.phase = some .active ∧
        (desk .inactive).desk.phase = some .inactive ∧ (desk .tripped).desk.phase = some .tripped ∧
        (desk .active).trip.flag = false) ∧
      (let s := tripped [.estop, .duplicate] (desk .tripped)
       s.trip.flag = true ∧ (∀ c ∈ s.trip.causes, c = .estop ∨ c = .duplicate) ∧ s.trip.estopFiltered = false ∧
         s.duplicateTimer = none ∧ (estopped s).trip.estopFiltered = true ∧ Cause.estop ∈ s.trip.causes ∧
         Cause.duplicate ∈ s.trip.causes ∧ { s with duplicateTimer := some 600 }.duplicateTimer.isSome = true) := by
  unfold FilteredChange
  decide

/-- An approach in CONFIG, in half A, whose lamp 4 flashes with a window open. -/
def flashing (m : LampMode) : State := (config 4 .approach).onLamp 4 fun l => { l with mode := m, window := some 300 }

theorem test_witness_TimebaseAndPatternsAdvance :
    State.reset.signal.halfTimer.isSome = true ∧ (corner .held).straps.role = .corner ∧
      ((requestPattern horn .alert (channel .closing)).sounder 1).stepTimer.isSome = true ∧
      ((requestPattern horn .alert (channel .closing)).sounder 1).running = some (.alert, 0) ∧
      ((requestPattern horn .long (channel .closing)).sounder 1).running = some (.long, 0) ∧
      ((requestPattern horn .long (requestPattern horn .alert (channel .closing))).sounder 1).waiting = some .long ∧
      (∀ step ∈ [8, 9], let s := (channel .closing).onSounder 1 fun x =>
          { x with running := some (.alert, step), stepTimer := some 500 }
        (s.sounder 1).stepTimer.isSome = true ∧ (s.sounder 1).running = some (.alert, step)) ∧ (8 < 9 ∧ 9 ≤ 9) ∧
      ((config 4 .approach).running = false ∧ (config 4 .approach).straps.role = .approach ∧ (4 : Fin 16).val < 6 ∧
        (flashing .flashA).signal.half = .a ∧ ((flashing .flashA).lamp 4).mode = .flashA ∧
        ((flashing .flashA).lamp 4).window.isSome = true ∧ ((flashing .flashB).lamp 4).mode = .flashB ∧
        ((flashing .flashB).lamp 4).sensed = false ∧ (approach .tripped .raised .none).closure.phase = some .tripped) := by
  decide

/-- A channel in TRIPPED whose lamp 0 is lit, or lamp 3 dark, in this state. -/
def lampIn (i : Fin 16) (l : Lamp) : State := (tripped [.estop] (channel .tripped)).onLamp i fun _ => l

theorem test_witness_LampsAreProved :
    let lit : Lamp := { mode := .steady, proving := .unproven, sensed := false, window := some 300, watched := false,
                        watchTimer := none, darkTimer := none }
    let dark : Lamp := { lit with mode := .off, window := none }
    (channel .tripped).straps.role = .channel ∧ (4 : Fin 16).val < 5 ∧ (channel .tripped).channel.phase = some .tripped ∧
      (config 4 .approach).running = false ∧ (5 : Fin 16).val < 6 ∧
      ((lampIn 0 lit).lampOn 0 = true ∧ ((lampIn 0 lit).lamp 0).window.isSome = true) ∧
      ((lampIn 0 { lit with sensed := true, watched := true }).lampOn 0 = true) ∧
      ((lampIn 4 dark).lampOn 4 = false ∧ ((lampIn 4 dark).lamp 4).sensed = false ∧ ((lampIn 4 dark).lamp 4).proving ≠ .stuckOn) ∧
      ((lampIn 0 { lit with watchTimer := some 300 }).lamp 0).watchTimer.isSome = true ∧
      ((lampIn 4 { dark with darkTimer := some 200, proving := .stuckOn }).lamp 4).darkTimer.isSome = true ∧
      ((approach .opened .raised .none).demandView ≠ .raise ∧ (demanding 1 (approach .amber .raised .none)).demandView = .raise ∧
        (approach .closed .lowered .lower).demandView ≠ .lower ∧
        ((approach .holding .raised .none).onPort fun p => { p with startInhibit := true }).port.startInhibit = true ∧
        (channel .opening).spanClear = false ∧ (channel .closedToVessels).demandView ≠ .raise) ∧
      (let c := entryOf (cornerContent 9 9500) 0
       let s := (withEntry 0 c (withEntry 1 c (withEntry 2 c (withEntry 3 c (channel .openToVessels))))).onLamp 3 fun _ => lit
       s.channel.phase = some .openToVessels ∧ s.channel.greenFallback = false ∧ (s.lamp 3).window.isSome = true ∧
         s.demandView ≠ .lower ∧ s.spanClear = true ∧ s.running = true) ∧
      (let s := ((demanding 1 (approach .redClearance (.fault .disturbed) .none)).onLamp 0 fun _ =>
          { lit with proving := .failed }).onClosure fun c => { c with served := true }
       s.closure.phase = some .redClearance ∧ s.closure.served = true ∧ s.closure.holdPending = false ∧
         s.demandView = .raise ∧ s.lampOn 0 = true ∧ (s.lamp 0).proving = .failed ∧ (s.lamp 0).window.isSome = true ∧
         s.isEntryArm 0 = true ∧ s.armFaulted 0 = true) := by decide

end Sys2Proof.Tests
end

section
/-! PROOFS. How a command is executed: every command is a reset, an edge at the serial port, an order from the FIFO, an event
taken whole, or an expiry of the control period; and what its work can write beside the role blocks. -/

namespace Sys2Proof.Machine

/-! ### Commands by kind -/

/-- What a command that `event` takes whole makes of the state. -/
def eventWork : Instr → Option (State → State)
  | .frameReceived line levels => some (receiveFrame line levels)
  | .staleTimerExpiry j => some (staleExpiry j)
  | .lostTimerExpiry j => some (lostExpiry j)
  | .seenTimerExpiry j line => some (seenExpiry j line)
  | .duplicateTimerExpiry => some duplicateExpiry
  | .stationTimeTick => some timeTick
  | .spacingTimerExpiry line => some (spacingExpiry line)
  | .refreshTimerExpiry line => some (refreshExpiry line)
  | .idleGapMet line => some (idleGap line)
  | .deferral line => some (deferLine line)
  | .attemptStart line => some (delayExpiry line)
  | .collision point => some (collide point.line (point.bit == 0))
  | .transmissionComplete line => some (completeTransmission line)
  | .healthTimerExpiry line => some (lineSilent line)
  | .inputRawChange i active => some (sampleInput i active)
  | .filterTimerExpiry i => some (filterExpiry i)
  | .estopRawChange active => some (sampleEstop active)
  | .estopEvent => some estopExpiry
  | .encoderTransition a b => some (encoderSample a b)
  | .deadTimeExpiry => some deadExpiry
  | .stallTimerExpiry => some stallExpiry
  | .boltTravelTimeout => some boltTimeout
  | .brakeTimerExpiry => some brakeExpiry
  | .setCheckExpiry => some setCheckExpiry
  | .holdTimerExpiry => some holdExpiry
  | .amberTimerExpiry => some amberExpiry
  | .redClearanceExpiry => some redExpiry
  | .deckClearExpiry => some deckClearExpiry
  | .deckLimitExpiry => some deckLimitExpiry
  | .gapTimerExpiry i => some (gapExpiry i)
  | .armTravelTimeout i => some fun t => approachReact (armTravelExpiry i t)
  | .retryTimerExpiry i => some fun t => approachReact (retryExpiry i t)
  | .laneTimerExpiry i => some (laneExpiry i)
  | .clearingTimerExpiry => some clearingExpiry
  | .flashHalfExpiry => some fun t => lampReact (flashExpiry t)
  | .lampSenseEvent i sensed => some fun t => lampReact (senseEvent i sensed t)
  | .provingTimerExpiry i => some fun t => lampReact (provingExpiry i t)
  | .watchTimerExpiry i => some fun t => lampReact (watchExpiry i t)
  | .darkTimerExpiry i => some fun t => lampReact (darkExpiry i t)
  | .stepTimerExpiry k => some (stepExpiry k)
  | _ => none

/-- What the order handler decides on the order of a command; RESET stands apart, since it may reset the station. -/
def orderDecision : Instr → Option (State → State × Answer)
  | .setItem item value => some (orderSetItem item value)
  | .setRoster codes => some (orderSetRoster codes)
  | .run => some orderRun
  | .enableReset => some orderEnableReset
  | .setMask mask => some (orderSetMask mask)
  | .setThreshold threshold => some (orderSetThreshold threshold)
  | .clearInhibit => some orderClearInhibit
  | .setInhibit => some orderSetInhibit
  | .clearTrip => some orderClearTrip
  | .home => some orderHome
  | .armAccept arm => some (orderArmAccept arm)
  | .armReset arm => some (orderArmReset arm)
  | .navAccept => some orderNavAccept
  | .demand value => some (orderDemand value)
  | .setGoal height => some (orderSetGoal height)
  | .clearRequest => some orderClearRequest
  | _ => none

/-- The state that a command leaves, by the kind of the command. -/
inductive Executes (c : Instr) (s : State) : State → Prop where
  | powerOn (straps : Straps) : c = .powerOnReset straps → Executes c s (powerOnReset straps s)
  | reset (straps : Straps) : c = .reset straps → Executes c s (takeReset straps s)
  | port (code : Nat) (edge : PortEdge) (mosi : Bool) : Executes c s (portEdge code edge mosi s)
  | order (o : Order) (d : State → State × Answer) :
      orderTaken c = some o → orderDecision c = some d → Executes c s (takeOrder o d s)
  | event (f : State → State) : eventWork c = some f → Executes c s (publish s (f (s.setFed false)))
  | period : Executes c s (controlPeriod s)

theorem exec_of_eventWork {c : Instr} {f : State → State} (s : State) (h : eventWork c = some f) :
    exec c s = .next (publish s (f (s.setFed false))) := by
  cases c <;> cases h <;> rfl

theorem exec_of_orderDecision {c : Instr} {o : Order} {d : State → State × Answer} (s : State)
    (ho : orderTaken c = some o) (hd : orderDecision c = some d) : exec c s = .next (takeOrder o d s) := by
  cases c <;> cases hd <;> cases ho <;> rfl

/-- Every command that completes is executed in one of these ways. -/
theorem executes_of_exec {c : Instr} {s t : State} (h : exec c s = .next t) : Executes c s t := by
  cases hf : eventWork c with
  | some f =>
    rw [exec_of_eventWork s hf] at h
    cases h
    exact .event f hf
  | none =>
    cases hd : orderDecision c with
    | some d =>
      cases ho : orderTaken c with
      | some o =>
        rw [exec_of_orderDecision s ho hd] at h
        cases h
        exact .order o d ho hd
      | none => cases c <;> cases hd <;> cases ho
    | none =>
      cases c
      case powerOnReset straps => cases h; exact .powerOn straps rfl
      case reset straps => cases h; exact .reset straps rfl
      case controlPeriod => cases h; exact .period
      case order edge mosi => cases h; exact .port _ _ _
      case invalidTransaction edge mosi => cases h; exact .port _ _ _
      case readReport edge => cases h; exact .port _ _ _
      case readStatus edge => cases h; exact .port _ _ _
      case readConditions edge => cases h; exact .port _ _ _
      case readPeers edge mosi => cases h; exact .port _ _ _
      case readItem edge mosi => cases h; exact .port _ _ _
      all_goals first | (cases hf; done) | cases hd

/-! ### Frames -/

theorem UnchangedBut.mono {l m : List Block} {s t : State} (h : UnchangedBut l s t) (hl : l ⊆ m) : UnchangedBut m s t :=
  fun b hb => h b fun hm => hb (hl hm)

theorem same_trans {s t u : State} {b : Block} (h : same s t b) (k : same t u b) : same s u b := by
  cases b <;> simp_all [same]

theorem UnchangedBut.trans {l : List Block} {s t u : State} (h : UnchangedBut l s t) (k : UnchangedBut l t u) :
    UnchangedBut l s u :=
  fun b hb => same_trans (h b hb) (k b hb)

theorem setFed_unchangedBut (b : Bool) (s : State) : UnchangedBut [.feed] s (s.setFed b) := by
  intro x hx
  cases x <;> simp_all [same]

theorem latch_unchangedBut (c : Condition) (s : State) : UnchangedBut [.reports] s (latch c s) := by
  intro x hx
  cases x <;> simp_all [same, latch]

theorem removeOrder_unchangedBut (o : Order) (s : State) : UnchangedBut [.orderQueue] s (removeOrder o s) := by
  intro x hx
  cases x <;> simp_all [same, removeOrder]

theorem answerOrder_unchangedBut (o : Order) (n : Byte) (a : Answer) (s : State) :
    UnchangedBut [.reports] s (answerOrder o n a s) := by
  unfold answerOrder
  split
  · exact (latch_unchangedBut _ s).trans (submit_unchangedBut _ _)
  · exact submit_unchangedBut _ _

/-! ### What the link operations write -/

/-- The fixed part without the link. -/
def Fixed.unlinked (x : Fixed) : Fixed := { x with link := State.reset.link }

/-- States that agree in the fixed part but for the link differ only in the link and the role blocks' part. -/
theorem unchangedBut_of_unlinked {s t : State} (h : t.fixed.unlinked = s.fixed.unlinked) :
    UnchangedBut (.link :: roleBlocks) s t := by
  simp only [State.fixed, Fixed.unlinked, Fixed.mk.injEq] at h
  intro b hb
  cases b <;> simp_all [roleBlocks, same]

theorem LinkOnly.unlinked {f : State → State} (h : LinkOnly f) (s : State) :
    (f s).fixed.unlinked = s.fixed.unlinked := by
  rw [h s]; rfl

@[simp] theorem onLine_unlinked (l : LinkLine) (f : LineUnit → LineUnit) (s : State) :
    (s.onLine l f).fixed.unlinked = s.fixed.unlinked := by cases l <;> rfl
@[simp] theorem enterGap_unlinked (l : LinkLine) (s : State) : (enterGap l s).fixed.unlinked = s.fixed.unlinked :=
  (enterGap_linkOnly l).unlinked s
@[simp] theorem enterDelay_unlinked (l : LinkLine) (s : State) : (enterDelay l s).fixed.unlinked = s.fixed.unlinked :=
  (enterDelay_linkOnly l).unlinked s
@[simp] theorem startAttempt_unlinked (l : LinkLine) (s : State) :
    (startAttempt l s).fixed.unlinked = s.fixed.unlinked :=
  (startAttempt_linkOnly l).unlinked s
@[simp] theorem fillSlot_unlinked (l : LinkLine) (s : State) : (fillSlot l s).fixed.unlinked = s.fixed.unlinked :=
  (fillSlot_linkOnly l).unlinked s
@[simp] theorem fillIfChanged_unlinked (l : LinkLine) (s : State) :
    (fillIfChanged l s).fixed.unlinked = s.fixed.unlinked :=
  (fillIfChanged_linkOnly l).unlinked s
@[simp] theorem fillBoth_unlinked (s : State) : (fillBoth s).fixed.unlinked = s.fixed.unlinked :=
  fillBoth_linkOnly.unlinked s
@[simp] theorem releaseLine_unlinked (l : LinkLine) (b : Bool) (s : State) :
    (releaseLine l b s).fixed.unlinked = s.fixed.unlinked := onLine_unlinked _ _ _

@[simp] theorem publish_unlinked (before after : State) :
    (publish before after).fixed.unlinked = after.fixed.unlinked := by
  unfold publish
  dsimp only
  split
  · rw [State.setFed_fixed]
    exact contentChanged_linkOnly.unlinked after
  · rfl

@[simp] theorem setHealth_unlinked (l : LinkLine) (h : Health) (x : Nat) (s : State) :
    (setHealth l h x s).fixed.unlinked = s.fixed.unlinked := by
  unfold setHealth
  dsimp only
  split <;> simp
@[simp] theorem validFrame_unlinked (l : LinkLine) (x : Nat) (s : State) :
    (validFrame l x s).fixed.unlinked = s.fixed.unlinked := by simp [validFrame]
@[simp] theorem healthExpiry_unlinked (l : LinkLine) (s : State) :
    (healthExpiry l s).fixed.unlinked = s.fixed.unlinked := by
  unfold healthExpiry
  split <;> simp
@[simp] theorem collide_unlinked (l : LinkLine) (b : Bool) (s : State) :
    (collide l b s).fixed.unlinked = s.fixed.unlinked := by
  unfold collide
  dsimp only
  (repeat' split) <;> simp

/-! ### What no event writes -/

/-- The fixed part without what the peer table, the link, the inputs and station time write in an event. -/
def Fixed.setup (x : Fixed) : Fixed :=
  { x.unlinked with
    time := 0, inputs := State.reset.inputs, peers := State.reset.peers, duplicateTimer := none }

theorem Fixed.setup_of_unlinked {x y : Fixed} (h : x.unlinked = y.unlinked) : x.setup = y.setup :=
  (congrArg Fixed.setup h : x.unlinked.setup = y.unlinked.setup)

theorem running_of_setup {s t : State} (h : t.fixed.setup = s.fixed.setup) : t.running = s.running :=
  congrArg Fixed.running h

theorem running_of_fixed {s t : State} (h : t.fixed = s.fixed) : t.running = s.running := congrArg Fixed.running h

@[simp] theorem onLine_setup (l : LinkLine) (f : LineUnit → LineUnit) (s : State) :
    (s.onLine l f).fixed.setup = s.fixed.setup := Fixed.setup_of_unlinked (by simp)
@[simp] theorem setPeer_setup (j : Fin 12) (e : Option Entry) (s : State) :
    (s.setPeer j e).fixed.setup = s.fixed.setup := rfl
@[simp] theorem setInput_setup (i : Fin 25) (x : InputLine) (s : State) :
    (s.setInput i x).fixed.setup = s.fixed.setup := rfl
@[simp] theorem publish_setup (before after : State) : (publish before after).fixed.setup = after.fixed.setup :=
  Fixed.setup_of_unlinked (by simp)
@[simp] theorem fillBoth_setup (s : State) : (fillBoth s).fixed.setup = s.fixed.setup :=
  Fixed.setup_of_unlinked (by simp)
@[simp] theorem validFrame_setup (l : LinkLine) (x : Nat) (s : State) :
    (validFrame l x s).fixed.setup = s.fixed.setup := Fixed.setup_of_unlinked (by simp)

@[simp] theorem healthReact_fixed (s : State) : (healthReact s).fixed = s.fixed := by
  unfold healthReact
  split <;> simp
@[simp] theorem peerReport_fixed (j : Fin 12) (old : Freshness) (e : Entry) (s : State) :
    (peerReport j old e s).fixed = s.fixed := report_fixed _ _ _ _ _ _ _
@[simp] theorem lampReact_fixed (s : State) : (lampReact s).fixed = s.fixed := by
  unfold lampReact
  (repeat' split) <;> simp

theorem acceptFrame_setup (line : LinkLine) (j : Fin 12) (f : Frame) (s : State) :
    (acceptFrame line j f s).fixed.setup = s.fixed.setup := by
  unfold acceptFrame
  split
  · rfl
  · dsimp only
    (repeat' split) <;> simp

theorem checkFrame_setup (line : LinkLine) (f : Frame) (s : State) :
    (checkFrame line f s).fixed.setup = s.fixed.setup := by
  unfold checkFrame
  (repeat' split)
  · unfold ownNumberFrame
    rw [submitCause_fixed]
    rfl
  · rfl
  · rfl
  · exact acceptFrame_setup _ _ _ _
  · rfl

theorem receiveFrame_setup (line : LinkLine) (levels : List Bool) (s : State) :
    (receiveFrame line levels s).fixed.setup = s.fixed.setup := by
  unfold receiveFrame takeFrame
  dsimp only
  (repeat' split) <;> simp [checkFrame_setup]

theorem staleExpiry_setup (j : Fin 12) (s : State) : (staleExpiry j s).fixed.setup = s.fixed.setup := by
  unfold staleExpiry
  dsimp only
  (repeat' split) <;> simp
theorem lostExpiry_setup (j : Fin 12) (s : State) : (lostExpiry j s).fixed.setup = s.fixed.setup := by
  unfold lostExpiry
  dsimp only
  (repeat' split) <;> simp
theorem seenExpiry_setup (j : Fin 12) (line : LinkLine) (s : State) :
    (seenExpiry j line s).fixed.setup = s.fixed.setup := by
  unfold seenExpiry
  (repeat' split) <;> simp
theorem timeTick_setup (s : State) : (timeTick s).fixed.setup = s.fixed.setup := by
  rw [timeTick, silentTest_fixed]
  rfl

@[simp] theorem deliverInput_fixed (i : Fin 25) (active : Bool) (before s : State) :
    (deliverInput i active before s).fixed = s.fixed := by
  unfold deliverInput
  split
  · unfold deliverCorner
    split <;> simp
  · unfold deliverApproach
    (repeat' split) <;> simp
  · unfold deliverChannel
    split <;> simp
  · unfold deliverDesk
    (repeat' split) <;> simp

theorem filterExpiry_setup (i : Fin 25) (s : State) : (filterExpiry i s).fixed.setup = s.fixed.setup := by
  unfold filterExpiry
  dsimp only
  (repeat' split) <;> simp

/-- The commands whose event writes neither the peer table nor an input nor station time. -/
def linkOrRoleEvent : Instr → Bool
  | .frameReceived _ _ | .staleTimerExpiry _ | .lostTimerExpiry _ | .seenTimerExpiry _ _ | .duplicateTimerExpiry
  | .stationTimeTick | .inputRawChange _ _ | .filterTimerExpiry _ => false
  | _ => true

/-- Every other event leaves the fixed part but for the link. -/
theorem eventWork_unlinked {c : Instr} {f : State → State} (h : eventWork c = some f) (hc : linkOrRoleEvent c = true)
    (s : State) : (f s).fixed.unlinked = s.fixed.unlinked := by
  cases c <;> cases hc <;> cases h
  case spacingTimerExpiry l => unfold spacingExpiry; dsimp only; (repeat' split) <;> simp
  case refreshTimerExpiry l => unfold refreshExpiry; split <;> simp
  case idleGapMet l => unfold idleGap; dsimp only; (repeat' split) <;> simp
  case deferral l => exact onLine_unlinked _ _ _
  case attemptStart l => unfold delayExpiry; split <;> simp
  case transmissionComplete l => unfold completeTransmission; split <;> simp
  case healthTimerExpiry l => simp [lineSilent]
  case estopRawChange active => unfold sampleEstop; split <;> simp
  case estopEvent => unfold estopExpiry; dsimp only; split <;> simp
  all_goals simp

/-- No event writes the queue, the mode, the straps, the configuration, the roster, the digest, or of the local port more than
the reports and the conditions. -/
theorem eventWork_setup {c : Instr} {f : State → State} (h : eventWork c = some f) (s : State) :
    (f s).fixed.setup = s.fixed.setup := by
  have table (hc : linkOrRoleEvent c = false) : (f s).fixed.setup = s.fixed.setup := by
    cases c <;> cases hc <;> cases h
    case frameReceived line levels => exact receiveFrame_setup _ _ _
    case staleTimerExpiry j => exact staleExpiry_setup _ _
    case lostTimerExpiry j => exact lostExpiry_setup _ _
    case seenTimerExpiry j line => exact seenExpiry_setup _ _ _
    case stationTimeTick => exact timeTick_setup s
    case duplicateTimerExpiry => rfl
    case filterTimerExpiry i => exact filterExpiry_setup i s
    case inputRawChange i active => unfold sampleInput; dsimp only; split <;> simp
  cases hc : linkOrRoleEvent c with
  | true => exact Fixed.setup_of_unlinked (eventWork_unlinked h hc s)
  | false => exact table hc

end Sys2Proof.Machine
end

section
/-! PROOFS. The principle by which an invariant is kept by every step, and what RUN keeps. -/

namespace Sys2Proof.Machine

/-! ### Invariants of every step -/

/-- What the handling of a command writes outside its work: the queue, the port's FIFOs and the mark of fed changes. -/
def handlingBlocks : List Block := [.queue, .serial, .orderQueue, .reports, .feed]

/-- A predicate that the handling of commands and the work of each kind of command keep. -/
structure KeptByCommands (Inv : State → Prop) : Prop where
  handled : ∀ s t, UnchangedBut handlingBlocks s t → Inv s → Inv t
  published : ∀ before after, Inv after → Inv (publish before after)
  filled : ∀ s, s.running = true → Inv s → Inv (fillBoth s)
  powerOn : ∀ straps s, Inv s → Inv (powerOnReset straps s)
  orderReset : ∀ straps s, Inv s → Inv (orderReset straps s)
  order : ∀ c d s, orderDecision c = some d → Inv s → Inv (d s).1
  event : ∀ c f s, eventWork c = some f → Inv s → Inv (f s)
  period : ∀ s, s.running = true → s.role = .corner → Inv s → Inv (controlWork s)

namespace KeptByCommands

variable {Inv : State → Prop} (h : KeptByCommands Inv)
include h

theorem setFed (b : Bool) (s : State) (hs : Inv s) : Inv (s.setFed b) :=
  h.handled _ _ ((setFed_unchangedBut b s).mono (by simp [handlingBlocks])) hs

theorem takeOrder (o : Order) (d : State → State × Answer) (s : State) (hd : ∀ u, Inv u → Inv (d u).1) (hs : Inv s) :
    Inv (takeOrder o d s) := by
  unfold Sys2Proof.Machine.takeOrder
  split
  · have hr : Inv (removeOrder o s) :=
      h.handled _ _ ((removeOrder_unchangedBut o s).mono (by simp [handlingBlocks])) hs
    exact h.handled _ _ ((answerOrder_unchangedBut _ _ _ _).mono (by simp [handlingBlocks]))
      (h.published _ _ (hd _ (h.setFed _ _ hr)))
  · exact hs

theorem controlPeriod (s : State) (hs : Inv s) : Inv (controlPeriod s) := by
  unfold Sys2Proof.Machine.controlPeriod
  split
  · rename_i hc
    obtain ⟨hrun, hrole, -⟩ := hc
    have hw : Inv (controlWork (s.setFed false)) := h.period (s.setFed false) hrun hrole (h.setFed _ _ hs)
    have hp := h.published s _ hw
    dsimp only
    split
    · refine h.filled _ ?_ hp
      have hwork : (controlWork (s.setFed false)).running = s.running := running_of_fixed (controlWork_fixed _)
      exact (running_of_setup (publish_setup _ _)).trans (hwork.trans hrun)
    · exact hp
  · exact hs

/-- Every command keeps the predicate. -/
theorem exec {c : Instr} {s t : State} (he : exec c s = .next t) (hs : Inv s) : Inv t := by
  cases executes_of_exec he with
  | powerOn straps _ => exact h.powerOn straps s hs
  | reset straps _ =>
    unfold takeReset
    split
    · split
      · exact h.orderReset straps s hs
      · exact h.takeOrder _ _ s (fun _ hu => hu) hs
    · exact hs
  | port code edge mosi =>
    exact h.handled _ _ ((portEdge_unchangedBut code edge mosi s).mono (by simp [handlingBlocks, serialBlocks])) hs
  | order o d _ hd => exact h.takeOrder o d s (fun u hu => h.order c d u hd hu) hs
  | event f hf => exact h.published _ _ (h.event c f _ hf (h.setFed _ _ hs))
  | period => exact h.controlPeriod s hs

/-- Every step keeps the predicate. -/
theorem kept : Kept Inv := by
  intro s t hs hst
  unfold step at hst
  split at hst
  · cases hst
    exact hs
  · refine h.exec hst (h.handled s _ (fun b hb => ?_) hs)
    cases b <;> simp_all [same, handlingBlocks]

end KeptByCommands

/-! ### What a decision of the order handler writes -/

/-- The mode, the straps, the configuration, the roster and the digest. -/
def Fixed.frame (x : Fixed) : Bool × Straps × ConfigStore × Vector (Option Role) 12 × Option Byte :=
  (x.running, x.straps, x.config, x.roster, x.digest)

theorem Fixed.frame_of_setup {x y : Fixed} (h : x.setup = y.setup) : x.frame = y.frame :=
  (congrArg Fixed.frame h : x.setup.frame = y.setup.frame)

@[simp] theorem orderClearTrip_fixed (s : State) : (orderClearTrip s).1.fixed = s.fixed := by
  unfold orderClearTrip; (repeat' split) <;> simp
@[simp] theorem orderHome_fixed (s : State) : (orderHome s).1.fixed = s.fixed := by
  unfold orderHome; (repeat' split) <;> simp
@[simp] theorem orderArmAccept_fixed (arm : Byte) (s : State) : (orderArmAccept arm s).1.fixed = s.fixed := by
  unfold orderArmAccept; dsimp only; (repeat' split) <;> simp
@[simp] theorem orderArmReset_fixed (arm : Byte) (s : State) : (orderArmReset arm s).1.fixed = s.fixed := by
  unfold orderArmReset; dsimp only; (repeat' split) <;> simp
@[simp] theorem orderNavAccept_fixed (s : State) : (orderNavAccept s).1.fixed = s.fixed := by
  unfold orderNavAccept; (repeat' split) <;> simp
@[simp] theorem orderDemand_fixed (value : Byte) (s : State) : (orderDemand value s).1.fixed = s.fixed := by
  unfold orderDemand; (repeat' split) <;> simp
@[simp] theorem orderSetGoal_fixed (height : BitVec 16) (s : State) : (orderSetGoal height s).1.fixed = s.fixed := by
  unfold orderSetGoal; (repeat' split) <;> simp
@[simp] theorem orderClearRequest_fixed (s : State) : (orderClearRequest s).1.fixed = s.fixed := by
  unfold orderClearRequest; (repeat' split) <;> simp

/-- Setting the inhibit writes the inhibit and the role block. -/
theorem setInhibit_fixed (on : Bool) (s : State) :
    (setInhibit on s).fixed = { s.fixed with startInhibit := on } := by
  unfold setInhibit
  split
  · rename_i h
    rw [← h]
    rfl
  · rw [roleReact_fixed]
    rfl

@[simp] theorem orderSetItem_running (item : Byte) (value : BitVec 32) (s : State) (h : s.running = true) :
    (orderSetItem item value s).1 = s := by simp [orderSetItem, h]
@[simp] theorem orderSetRoster_running (codes : BitVec 48) (s : State) (h : s.running = true) :
    (orderSetRoster codes s).1 = s := by simp [orderSetRoster, h]
@[simp] theorem orderRun_running (s : State) (h : s.running = true) : (orderRun s).1 = s := by simp [orderRun, h]

/-- An order writes the frame of the station or its peer table in CONFIG alone, where it is SET_ITEM, SET_ROSTER or RUN. -/
theorem orderDecision_frame {c : Instr} {d : State → State × Answer} (h : orderDecision c = some d) (s : State) :
    ((d s).1.fixed.frame = s.fixed.frame ∧ (d s).1.peers = s.peers) ∨
      (s.running = false ∧ ((∃ item value, c = .setItem item value) ∨ (∃ codes, c = .setRoster codes) ∨ c = .run)) := by
  have of_fixed : ∀ {t : State}, t.fixed = s.fixed → t.fixed.frame = s.fixed.frame ∧ t.peers = s.peers :=
    fun ht => ⟨congrArg Fixed.frame ht, congrArg Fixed.peers ht⟩
  have inhibit : ∀ on, (setInhibit on s).fixed.frame = s.fixed.frame ∧ (setInhibit on s).peers = s.peers :=
    fun on => ⟨(congrArg Fixed.frame (setInhibit_fixed on s)).trans rfl,
      (congrArg Fixed.peers (setInhibit_fixed on s)).trans rfl⟩
  cases c <;> cases h
  case setItem item value =>
    cases hrun : s.running with
    | false => exact .inr ⟨rfl, .inl ⟨_, _, rfl⟩⟩
    | true => exact .inl (of_fixed (by rw [orderSetItem_running item value s hrun]))
  case setRoster codes =>
    cases hrun : s.running with
    | false => exact .inr ⟨rfl, .inr (.inl ⟨_, rfl⟩)⟩
    | true => exact .inl (of_fixed (by rw [orderSetRoster_running codes s hrun]))
  case run =>
    cases hrun : s.running with
    | false => exact .inr ⟨rfl, .inr (.inr rfl)⟩
    | true => exact .inl (of_fixed (by rw [orderRun_running s hrun]))
  case enableReset => exact .inl ⟨rfl, rfl⟩
  case setMask => exact .inl ⟨rfl, rfl⟩
  case setThreshold => exact .inl ⟨rfl, rfl⟩
  case clearInhibit =>
    left
    unfold orderClearInhibit
    (repeat' split) <;> first | exact inhibit _ | exact ⟨rfl, rfl⟩
  case setInhibit =>
    left
    unfold orderSetInhibit
    split <;> first | exact inhibit _ | exact ⟨rfl, rfl⟩
  all_goals exact .inl (of_fixed (by simp))

/-! ### Only a reset leaves RUN (O12) -/

theorem takeOrder_frame {o : Order} {d : State → State × Answer} (s : State)
    (hd : ∀ t, t.running = true → (d t).1.fixed.frame = t.fixed.frame) (hrun : s.running = true) :
    (takeOrder o d s).fixed.frame = s.fixed.frame := by
  unfold takeOrder
  split
  · rw [answerOrder_fixed, Fixed.frame_of_setup (publish_setup _ _)]
    exact hd ((removeOrder o s).setFed false) hrun
  · rfl

theorem frame_of_unchangedBut {l : List Block} {s t : State} (h : UnchangedBut l s t)
    (hl : ∀ b ∈ [Block.running, .straps, .config, .roster, .digest], b ∉ l) : t.fixed.frame = s.fixed.frame := by
  have hrun : t.running = s.running := h .running (hl _ (by simp))
  have hstraps : t.straps = s.straps := h .straps (hl _ (by simp))
  have hconfig : t.config = s.config := h .config (hl _ (by simp))
  have hroster : t.roster = s.roster := h .roster (hl _ (by simp))
  have hdigest : t.digest = s.digest := h .digest (hl _ (by simp))
  simp [Fixed.frame, State.fixed, hrun, hstraps, hconfig, hroster, hdigest]

/-- In RUN every command but a reset keeps the mode, the straps, the configuration, the roster and the digest. -/
theorem exec_frame {c : Instr} {s t : State} (h : exec c s = .next t) (hrun : s.running = true)
    (hp : ∀ straps, c ≠ .powerOnReset straps) (hr : ∀ straps, c ≠ .reset straps) : t.fixed.frame = s.fixed.frame := by
  cases executes_of_exec h with
  | powerOn straps hc => exact absurd hc (hp straps)
  | reset straps hc => exact absurd hc (hr straps)
  | port code edge mosi =>
    exact frame_of_unchangedBut (portEdge_unchangedBut code edge mosi s) (by decide)
  | order o d _ hd =>
    refine takeOrder_frame s (fun u hu => ?_) hrun
    rcases orderDecision_frame hd u with ⟨hf, -⟩ | ⟨hc, -⟩
    · exact hf
    · rw [hu] at hc
      cases hc
  | event f hf => exact Fixed.frame_of_setup ((publish_setup _ _).trans (eventWork_setup hf _))
  | period =>
    have hw : ∀ u, (publish s (controlWork u)).fixed.setup = u.fixed.setup := fun u =>
      (publish_setup _ _).trans (congrArg _ (controlWork_fixed u))
    unfold controlPeriod
    dsimp only
    (repeat' split)
    · exact Fixed.frame_of_setup ((fillBoth_setup _).trans (hw _))
    · exact Fixed.frame_of_setup (hw _)
    · rfl

/-- Settles O12: in RUN only a reset leads out of RUN or writes configuration, roster, straps or digest. -/
theorem onlyAResetLeavesRun : Obligations.OnlyAResetLeavesRun := by
  unfold Obligations.OnlyAResetLeavesRun
  intro s t hrun hst
  unfold step at hst
  split at hst
  · cases hst
    exact .inl ⟨hrun, rfl, rfl, rfl, rfl⟩
  · rename_i c rest hq
    by_cases hp : ∃ straps, c = .powerOnReset straps
    · obtain ⟨straps, rfl⟩ := hp
      exact .inr ⟨straps, rest, .inl hq⟩
    by_cases hr : ∃ straps, c = .reset straps
    · obtain ⟨straps, rfl⟩ := hr
      exact .inr ⟨straps, rest, .inr hq⟩
    · have hf := exec_frame hst hrun (fun straps e => hp ⟨straps, e⟩) (fun straps e => hr ⟨straps, e⟩)
      simp only [Fixed.frame, State.fixed, Prod.mk.injEq] at hf
      obtain ⟨hrun', hstraps, hconfig, hroster, hdigest⟩ := hf
      exact .inl ⟨hrun'.trans hrun, hconfig, hroster, hstraps, hdigest⟩

end Sys2Proof.Machine
end

section
/-! PROOFS. The peer table keeps its form (O10). -/

namespace Sys2Proof.Machine

/-- The form of one entry (R8 to R10). -/
def Entry.Legal (e : Entry) : Prop :=
  (e.freshness = .absent ↔ e.heard = none) ∧ (e.staleTimer.isSome = true ↔ e.freshness = .fresh) ∧
    ∀ h, e.heard = some h → h.age ≤ 65535

theorem peerTableLegal_iff (s : State) :
    PeerTableLegal s ↔ ∀ j e, s.peer j = some e →
      (s.running = true ∧ (s.rosterRole j).isSome = true ∧ j.val ≠ s.number) ∧ e.Legal := by
  simp only [PeerTableLegal, Entry.Legal, and_assoc]

theorem PeerTableLegal.congr {s t : State} (h : PeerTableLegal s) (hf : t.fixed.frame = s.fixed.frame)
    (hp : t.peers = s.peers) : PeerTableLegal t := by
  simp only [Fixed.frame, State.fixed, Prod.mk.injEq] at hf
  obtain ⟨hrun, hstraps, -, hroster, -⟩ := hf
  simp only [PeerTableLegal, State.peer, State.rosterRole, State.number, hp, hrun, hstraps, hroster]
  exact h

theorem PeerTableLegal.of_unlinked {s t : State} (h : PeerTableLegal s) (ht : t.fixed.unlinked = s.fixed.unlinked) :
    PeerTableLegal t :=
  h.congr (Fixed.frame_of_setup (Fixed.setup_of_unlinked ht)) (congrArg Fixed.peers ht : t.fixed.unlinked.peers = _)

theorem PeerTableLegal.of_fixed {s t : State} (h : PeerTableLegal s) (ht : t.fixed = s.fixed) : PeerTableLegal t :=
  h.of_unlinked (congrArg _ ht)

/-- An entry may give way to a legal one. -/
theorem PeerTableLegal.setPeer {s : State} {j : Fin 12} {e e' : Entry} (h : PeerTableLegal s) (hj : s.peer j = some e)
    (he : e'.Legal) : PeerTableLegal (s.setPeer j (some e')) := by
  rw [peerTableLegal_iff] at h ⊢
  intro k x hk
  by_cases hkj : k = j
  · subst hkj
    rw [State.peer_setPeer] at hk
    cases hk
    exact ⟨(h k e hj).1, he⟩
  · rw [State.peer_setPeer_ne hkj] at hk
    exact h k x hk

theorem PeerTableLegal.entry {s : State} {j : Fin 12} {e : Entry} (h : PeerTableLegal s) (hj : s.peer j = some e) :
    e.Legal := ((peerTableLegal_iff s).mp h j e hj).2

/-- In CONFIG there is no entry. -/
theorem PeerTableLegal.config {s : State} (h : PeerTableLegal s) (hrun : s.running = false) (j : Fin 12) :
    s.peer j = none := by
  cases hj : s.peer j with
  | none => rfl
  | some e =>
    have := (h j e hj).1
    simp [hrun] at this

theorem Entry.legal_accept (line : LinkLine) (f : Frame) (ok : Bool) (st lt : Nat) (e : Entry) :
    (e.accept line f ok st lt).Legal := by
  simp [Entry.Legal, Entry.accept]

theorem Entry.legal_grow {e : Entry} (h : e.Legal) : e.grow.Legal := by
  obtain ⟨habsent, hstale, -⟩ := h
  refine ⟨?_, hstale, ?_⟩
  · simpa [Entry.grow] using habsent
  · intro x hx
    simp only [Entry.grow, Option.map_eq_some_iff] at hx
    obtain ⟨h, -, rfl⟩ := hx
    exact Nat.min_le_left _ _

theorem acceptFrame_peerTable (line : LinkLine) (j : Fin 12) (f : Frame) (s : State) (h : PeerTableLegal s) :
    PeerTableLegal (acceptFrame line j f s) := by
  unfold acceptFrame
  split
  · exact h
  · rename_i e hj
    refine (h.setPeer hj (Entry.legal_accept line f (s.digest == some f.digest) s.staleTime s.lostTime e)).of_fixed ?_
    dsimp only
    (repeat' split) <;> simp

theorem ownNumberFrame_peerTable (s : State) (h : PeerTableLegal s) : PeerTableLegal (ownNumberFrame s) := by
  have hl : PeerTableLegal { latch .duplicateStation s with duplicateTimer := some s.staleTime } := h.congr rfl rfl
  exact hl.of_fixed (submitCause_fixed _ _)

theorem checkFrame_peerTable (line : LinkLine) (f : Frame) (s : State) (h : PeerTableLegal s) :
    PeerTableLegal (checkFrame line f s) := by
  unfold checkFrame
  (repeat' split)
  · exact ownNumberFrame_peerTable s h
  · exact h.of_fixed (by simp)
  · exact h.of_fixed (by simp)
  · exact acceptFrame_peerTable _ _ _ _ h
  · exact h

theorem receiveFrame_peerTable (line : LinkLine) (levels : List Bool) (s : State) (h : PeerTableLegal s) :
    PeerTableLegal (receiveFrame line levels s) := by
  unfold receiveFrame takeFrame
  dsimp only
  (repeat' split)
  · exact h
  · exact h.of_unlinked (by simp)
  · exact h.of_unlinked (by simp)
  · exact checkFrame_peerTable _ _ _ (h.of_unlinked (by simp))

theorem staleExpiry_peerTable (j : Fin 12) (s : State) (h : PeerTableLegal s) : PeerTableLegal (staleExpiry j s) := by
  unfold staleExpiry
  split
  · exact h
  · rename_i e hj
    dsimp only
    split
    · rename_i hfresh
      obtain ⟨habsent, -, hage⟩ := h.entry hj
      have he : Entry.Legal { e with freshness := .stale, staleTimer := none } :=
        ⟨by simpa [hfresh.1] using habsent, by simp, hage⟩
      exact (h.setPeer hj he).of_fixed (by simp)
    · exact h

theorem lostExpiry_peerTable (j : Fin 12) (s : State) (h : PeerTableLegal s) : PeerTableLegal (lostExpiry j s) := by
  unfold lostExpiry
  split
  · exact h
  · rename_i e hj
    dsimp only
    split
    · rename_i hstale
      obtain ⟨habsent, htimer, hage⟩ := h.entry hj
      have he : Entry.Legal { e with freshness := .lost, lostTimer := none } :=
        ⟨by simpa [hstale.1] using habsent, by simpa [hstale.1] using htimer, hage⟩
      exact (h.setPeer hj he).of_fixed (by simp)
    · exact h

theorem seenExpiry_peerTable (j : Fin 12) (line : LinkLine) (s : State) (h : PeerTableLegal s) :
    PeerTableLegal (seenExpiry j line s) := by
  unfold seenExpiry
  split
  · exact h
  · rename_i e hj
    have he : e.Legal := h.entry hj
    (repeat' split)
    · exact h.setPeer hj he
    · exact h
    · exact h.setPeer hj he
    · exact h

theorem timeTick_peer (s : State) (j : Fin 12) : (timeTick s).peer j = (s.peer j).map Entry.grow := by
  have hp : (timeTick s).peers = s.peers.map fun e => e.map Entry.grow :=
    congrArg Fixed.peers (silentTest_fixed { s with time := s.time + 1, peers := s.peers.map fun e => e.map Entry.grow })
  simp [State.peer, hp]

theorem timeTick_peerTable (s : State) (h : PeerTableLegal s) : PeerTableLegal (timeTick s) := by
  have hf : (timeTick s).fixed.frame = s.fixed.frame := Fixed.frame_of_setup (timeTick_setup s)
  simp only [Fixed.frame, State.fixed, Prod.mk.injEq] at hf
  obtain ⟨hrun, hstraps, -, hroster, -⟩ := hf
  rw [peerTableLegal_iff] at h ⊢
  intro j e hj
  rw [timeTick_peer, Option.map_eq_some_iff] at hj
  obtain ⟨e0, hj, rfl⟩ := hj
  obtain ⟨hplace, he⟩ := h j e0 hj
  simp only [State.rosterRole, State.number, hrun, hroster, hstraps]
  exact ⟨hplace, Entry.legal_grow he⟩

theorem filterExpiry_peers (i : Fin 25) (s : State) : (filterExpiry i s).peers = s.peers := by
  have hd : ∀ active before t, (deliverInput i active before t).peers = t.peers := fun active before t =>
    congrArg Fixed.peers (deliverInput_fixed i active before t)
  have hr : ∀ k a b c d e t, (report k a b c d e t).peers = t.peers := fun k a b c d e t =>
    congrArg Fixed.peers (report_fixed k a b c d e t)
  unfold filterExpiry
  dsimp only
  (repeat' split) <;> simp [hd, hr, State.setInput]

theorem eventWork_peerTable {c : Instr} {f : State → State} (hf : eventWork c = some f) (s : State)
    (h : PeerTableLegal s) : PeerTableLegal (f s) := by
  have hframe := Fixed.frame_of_setup (eventWork_setup hf s)
  have table (hc : linkOrRoleEvent c = false) : PeerTableLegal (f s) := by
    cases c <;> cases hc <;> cases hf
    case frameReceived line levels => exact receiveFrame_peerTable _ _ s h
    case staleTimerExpiry j => exact staleExpiry_peerTable j s h
    case lostTimerExpiry j => exact lostExpiry_peerTable j s h
    case seenTimerExpiry j line => exact seenExpiry_peerTable j line s h
    case stationTimeTick => exact timeTick_peerTable s h
    case duplicateTimerExpiry => exact h.congr hframe rfl
    case inputRawChange i active => exact h.congr hframe (by unfold sampleInput; dsimp only; split <;> rfl)
    case filterTimerExpiry i => exact h.congr hframe (filterExpiry_peers i s)
  cases hc : linkOrRoleEvent c with
  | true => exact h.of_unlinked (eventWork_unlinked hf hc s)
  | false => exact table hc

/-! ### The accepted RUN order -/

theorem runPeers_peer (s t : State) (ht : t.peers = runPeers s) (j : Fin 12) : t.peer j = runSlot s j := by
  unfold State.peer
  rw [ht]
  fin_cases j <;> rfl

/-- The accepted RUN order leaves, in the fixed part but for the link, RUN, the digest, the new table and the inhibit. -/
theorem startRun_unlinked (s : State) :
    (startRun s).fixed.unlinked =
      { s.fixed.unlinked with
        running := true, digest := some (ownDigest s), peers := runPeers s, startInhibit := true } := by
  have hnp : ∀ t, (setNotProved t).fixed = t.fixed := fun t => by
    simp [setNotProved, foldl_fixed, apply_ite State.fixed]
  unfold startRun startBlocks runLine
  simp only [fillBoth_unlinked, onLine_unlinked, runRole_fixed, hnp]
  rfl

theorem startRun_peerTable (s : State) : PeerTableLegal (startRun s) := by
  have h := startRun_unlinked s
  simp only [Fixed.unlinked, State.fixed, Fixed.mk.injEq] at h
  obtain ⟨-, hrun, hstraps, -, -, hroster, -, -, hpeers, -⟩ := h
  rw [peerTableLegal_iff]
  intro j e hj
  rw [runPeers_peer s _ hpeers, runSlot] at hj
  split at hj
  · rename_i hplace
    cases hj
    simp only [State.rosterRole, State.number, hrun, hroster, hstraps]
    exact ⟨⟨trivial, hplace⟩, by simp [Entry.Legal, newEntry]⟩
  · cases hj

theorem powerOnReset_peer (straps : Straps) (s : State) (j : Fin 12) : (powerOnReset straps s).peer j = none := by
  simp [State.peer, powerOnReset, State.afterPowerOn, State.afterReset]
theorem orderReset_peer (straps : Straps) (s : State) (j : Fin 12) : (orderReset straps s).peer j = none := by
  simp [State.peer, orderReset, State.afterReset]

/-- SET_ITEM and SET_ROSTER leave the peer table, which stays legal in CONFIG, where it is empty. -/
theorem peerTableLegal_of_empty {s : State} (h : ∀ j, s.peer j = none) : PeerTableLegal s := by
  intro j e hj
  rw [h j] at hj
  cases hj

theorem orderDecision_peerTable {c : Instr} {d : State → State × Answer} (hd : orderDecision c = some d) (s : State)
    (h : PeerTableLegal s) : PeerTableLegal (d s).1 := by
  rcases orderDecision_frame hd s with ⟨hframe, hpeers⟩ | ⟨hrun, hc⟩
  · exact h.congr hframe hpeers
  · have hempty := h.config hrun
    rcases hc with ⟨item, value, rfl⟩ | ⟨codes, rfl⟩ | rfl <;> cases hd
    · refine peerTableLegal_of_empty fun j => ?_
      unfold orderSetItem
      (repeat' split) <;> exact hempty j
    · refine peerTableLegal_of_empty fun j => ?_
      unfold orderSetRoster
      (repeat' split) <;> exact hempty j
    · unfold orderRun
      (repeat' split)
      · exact h
      · exact h
      · exact startRun_peerTable s

theorem peerTable_keptByCommands : KeptByCommands PeerTableLegal where
  handled s t hu h := h.congr (frame_of_unchangedBut hu (by decide)) (hu .peers (by decide))
  published before after h := h.of_unlinked (publish_unlinked before after)
  filled s _ h := h.of_unlinked (fillBoth_unlinked s)
  powerOn straps s _ := peerTableLegal_of_empty (powerOnReset_peer straps s)
  orderReset straps s _ := peerTableLegal_of_empty (orderReset_peer straps s)
  order c d s hd h := orderDecision_peerTable hd s h
  event c f s hf h := eventWork_peerTable hf s h
  period s _ _ h := h.of_fixed (controlWork_fixed s)

/-- Settles O10: entries stand only in RUN, for other rostered stations, and every command that writes one keeps its form. -/
theorem peerTableStaysLegal : Obligations.PeerTableStaysLegal := peerTable_keptByCommands.kept

end Sys2Proof.Machine
end

section
/-! PROOFS. In CONFIG no role acts (O9): what stands at rest there, and that nothing but the accepted RUN order ends it. -/

namespace Sys2Proof.Machine

/-- A Motion Unit that does not act. -/
structure MotionUnit.AtRest (m : MotionUnit) : Prop where
  phase : m.phase = none
  up : m.output.up = false
  down : m.output.down = false
  vOut : m.output.vOut = 0
  brakeOut : m.brake.out = false
  driveOut : m.bolt.driveOut = false
  withdrawOut : m.bolt.withdrawOut = false
  travelTimer : m.bolt.travelTimer = none
  brakeTimer : m.brake.brakeTimer = none
  setCheckTimer : m.brake.setCheckTimer = none
  holdTimer : m.holdTimer = none
  controlTimer : m.controlTimer = none
  stallTimer : m.stall.timer = none

/-- A Closure Unit that does not act. -/
structure ClosureUnit.AtRest (c : ClosureUnit) : Prop where
  phase : c.phase = none
  amberTimer : c.amberTimer = none
  redTimer : c.redTimer = none
  deckClearTimer : c.deckClearTimer = none
  deckLimitTimer : c.deckLimitTimer = none
  arms : ∀ i : Fin 4, ArmQuiet c.arms[i]

/-- A station that does not act. -/
structure State.AtRest (s : State) : Prop where
  motion : s.motion.AtRest
  closure : s.closure.AtRest
  channel : s.channel.phase = none ∧ s.channel.clearingTimer = none
  desk : s.desk.phase = none
  peer : ∀ j, s.peer j = none
  digest : s.digest = none
  duplicateTimer : s.duplicateTimer = none
  untripped : s.trip.flag = false
  line : ∀ l, LineQuiet (s.line l)

theorem quietInConfig_iff (s : State) : QuietInConfig s ↔ (s.running = false → s.AtRest) := by
  constructor
  · intro h hrun
    obtain ⟨mp, cp, chp, dp, peer, digest, dup, flag, la, lb, up, down, v, bo, dro, wo, tt, bt, sct, ht, ct, st, am, red, dc,
      dl, arms, cl⟩ := h hrun
    exact ⟨⟨mp, up, down, v, bo, dro, wo, tt, bt, sct, ht, ct, st⟩, ⟨cp, am, red, dc, dl, arms⟩, ⟨chp, cl⟩, dp, peer, digest,
      dup, flag, fun l => by cases l; exacts [la, lb]⟩
  · intro h hrun
    obtain ⟨m, c, ⟨chp, cl⟩, dp, peer, digest, dup, flag, line⟩ := h hrun
    exact ⟨m.phase, c.phase, chp, dp, peer, digest, dup, flag, line .a, line .b, m.up, m.down, m.vOut, m.brakeOut, m.driveOut,
      m.withdrawOut, m.travelTimer, m.brakeTimer, m.setCheckTimer, m.holdTimer, m.controlTimer, m.stallTimer, c.amberTimer,
      c.redTimer, c.deckClearTimer, c.deckLimitTimer, c.arms, cl⟩

theorem quietInConfig_of_running {s : State} (h : s.running = true) : QuietInConfig s := by
  intro hrun
  rw [h] at hrun
  cases hrun

/-- The parts of the state that `AtRest` speaks of, the link apart. -/
def State.actors (s : State) :=
  (s.motion, s.closure, s.channel, s.desk, s.peers, s.digest, s.duplicateTimer, s.trip.flag)

theorem State.AtRest.congr {s t : State} (h : s.AtRest) (ha : t.actors = s.actors) (hl : ∀ l, LineQuiet (t.line l)) :
    t.AtRest := by
  simp only [State.actors, Prod.mk.injEq] at ha
  obtain ⟨hm, hc, hch, hd, hp, hdig, hdup, hf⟩ := ha
  exact ⟨hm ▸ h.motion, hc ▸ h.closure, hch ▸ h.channel, hd ▸ h.desk,
    fun j => by simpa [State.peer, hp] using h.peer j, hdig ▸ h.digest, hdup ▸ h.duplicateTimer, hf ▸ h.untripped, hl⟩

theorem State.AtRest.congr_link {s t : State} (h : s.AtRest) (ha : t.actors = s.actors) (hl : t.link = s.link) :
    t.AtRest :=
  h.congr ha fun l => by simpa only [State.line, hl] using h.line l

theorem State.AtRest.onLine {s : State} (h : s.AtRest) (l : LinkLine) (f : LineUnit → LineUnit)
    (hf : LineQuiet (f (s.line l))) : (s.onLine l f).AtRest := by
  refine h.congr (by cases l <;> rfl) fun k => ?_
  by_cases hk : k = l
  · subst hk
    rw [State.line_onLine]
    exact hf
  · rw [State.line_onLine_ne hk]
    exact h.line k

/-! ### The signals write neither the role blocks nor the fixed part -/

theorem actors_of_aside {s t : State} (ha : t.aside = s.aside) (hf : t.fixed = s.fixed) : t.actors = s.actors := by
  simp only [State.aside, Prod.mk.injEq] at ha
  simp only [State.fixed, Fixed.mk.injEq] at hf
  simp [State.actors, ha, hf]

theorem foldl_aside {α : Type} (g : State → α → State) (h : ∀ t x, (g t x).aside = t.aside) (l : List α) (s : State) :
    (l.foldl g s).aside = s.aside := by
  induction l generalizing s with
  | nil => rfl
  | cons x xs ih => rw [List.foldl_cons, ih, h]

@[simp] theorem onSignal_aside (f : SignalUnit → SignalUnit) (s : State) : (s.onSignal f).aside = s.aside := rfl
@[simp] theorem stepExpiry_aside (k : Fin 2) (s : State) : (stepExpiry k s).aside = s.aside := rfl
@[simp] theorem senseEvent_aside (i : Fin 16) (b : Bool) (s : State) : (senseEvent i b s).aside = s.aside := by
  unfold senseEvent; dsimp only; (repeat' split) <;> simp
@[simp] theorem provingExpiry_aside (i : Fin 16) (s : State) : (provingExpiry i s).aside = s.aside := by
  unfold provingExpiry; split <;> simp
@[simp] theorem watchExpiry_aside (i : Fin 16) (s : State) : (watchExpiry i s).aside = s.aside := by
  unfold watchExpiry; split <;> simp
@[simp] theorem darkExpiry_aside (i : Fin 16) (s : State) : (darkExpiry i s).aside = s.aside := by
  unfold darkExpiry; split <;> simp
@[simp] theorem flashExpiry_aside (s : State) : (flashExpiry s).aside = s.aside := by
  unfold flashExpiry
  split
  · refine (foldl_aside _ (fun t i => ?_) _ _).trans rfl
    dsimp only
    (repeat' split) <;> simp
  · rfl

/-! ### Events at rest -/

theorem submitIf_config {s : State} (hrun : s.running = false) (b : Bool) (c : Cause) : submitIf b c s = s := by
  unfold submitIf
  split
  · exact submitCause_absorbed c s (.inl hrun)
  · rfl

theorem lampReact_config {s : State} (hrun : s.running = false) : lampReact s = s := by simp [lampReact, hrun]

theorem receiveFrame_atRest {s : State} (hrun : s.running = false) (h : s.AtRest) (line : LinkLine) (levels : List Bool) :
    (receiveFrame line levels s).AtRest := by
  unfold receiveFrame
  split
  · exact h
  · dsimp only
    rw [if_pos (.inr hrun)]
    exact h.onLine line _ (h.line line)

theorem filterExpiry_atRest {s : State} (hrun : s.running = false) (h : s.AtRest) (i : Fin 25) :
    (filterExpiry i s).AtRest := by
  unfold filterExpiry
  dsimp only
  split
  · rw [if_pos (.inr hrun)]
    exact h.congr_link rfl rfl
  · exact h

theorem estopExpiry_atRest {s : State} (hrun : s.running = false) (h : s.AtRest) : (estopExpiry s).AtRest := by
  unfold estopExpiry
  split
  · have config : ∀ f b c, submitIf b c (s.onTrip f) = s.onTrip f := fun f b c =>
      submitIf_config (s := s.onTrip f) hrun b c
    dsimp only
    rw [config]
    exact h.congr_link rfl rfl
  · exact h

theorem encoderSample_atRest {s : State} (hrun : s.running = false) (h : s.AtRest) (a b : Bool) :
    (encoderSample a b s).AtRest := by
  unfold encoderSample
  dsimp only
  split
  · exact { h with motion := { h.motion with } }
  · split
    · rw [if_neg (by simp [hrun])]
      exact { h with motion := { h.motion with } }
    · exact { h with motion := { h.motion with } }

section AtRest

variable {s : State} (h : s.AtRest)
include h

theorem approachReact_atRest : approachReact s = s := by
  simp [approachReact, approachSettle, approachCondition, State.inClosingStage, h.closure.phase]

theorem idleGap_atRest (l : LinkLine) : (idleGap l s).AtRest := by
  have hidle : (s.line l).tx = .idle := (h.line l).1
  simp only [idleGap, hidle, State.line_onLine, reduceCtorEq, if_false]
  exact h.onLine l _ (h.line l)

theorem deferLine_atRest (l : LinkLine) : (deferLine l s).AtRest := by
  obtain ⟨htx, hrest⟩ := h.line l
  refine h.onLine l _ ?_
  simpa [LineQuiet, htx] using hrest

theorem timeTick_atRest : (timeTick s).AtRest := by
  have hstill : timeTick s = { s with time := s.time + 1, peers := s.peers.map fun e => e.map Entry.grow } := by
    simp [timeTick, silentTest, submitIf, State.isMoving, State.cornerIn, h.motion.phase]
  have hpeer : ∀ j, (timeTick s).peer j = none := fun j => by rw [timeTick_peer, h.peer]; rfl
  rw [hstill] at hpeer ⊢
  exact { h with peer := hpeer }

theorem deadExpiry_atRest : (deadExpiry s).AtRest := by
  unfold deadExpiry
  split
  · exact { h with motion := { h.motion with } }
  · exact h

end AtRest

/-- In CONFIG no event ends the rest. -/
theorem eventWork_atRest {s : State} (hrun : s.running = false) (h : s.AtRest) {c : Instr} {f : State → State}
    (hf : eventWork c = some f) : (f s).AtRest := by
  have lamp : ∀ {t : State}, t.aside = s.aside → t.fixed = s.fixed → (lampReact t).AtRest := fun {t} ha ht => by
    have hr : t.running = false := (congrArg Fixed.running ht).trans hrun
    have hrest : t.AtRest := h.congr_link (actors_of_aside ha ht) (congrArg Fixed.link ht)
    rwa [lampReact_config hr]
  have hm := h.motion
  have hc := h.closure
  cases c <;> cases hf
  case frameReceived line levels => exact receiveFrame_atRest hrun h line levels
  case staleTimerExpiry j => simpa [staleExpiry, h.peer] using h
  case lostTimerExpiry j => simpa [lostExpiry, h.peer] using h
  case seenTimerExpiry j line => simpa [seenExpiry, h.peer] using h
  case duplicateTimerExpiry => exact { h with duplicateTimer := rfl }
  case stationTimeTick => exact timeTick_atRest h
  case spacingTimerExpiry l => obtain ⟨-, -, -, -, ht, -⟩ := h.line l; simpa [spacingExpiry, ht] using h
  case refreshTimerExpiry l => obtain ⟨-, -, -, -, -, ht, -⟩ := h.line l; simpa [refreshExpiry, ht] using h
  case idleGapMet l => exact idleGap_atRest h l
  case deferral l => exact deferLine_atRest h l
  case attemptStart l => simpa [delayExpiry, (h.line l).1] using h
  case collision p => simpa [collide, (h.line p.line).1] using h
  case transmissionComplete l => simpa [completeTransmission, (h.line l).1] using h
  case healthTimerExpiry l =>
    obtain ⟨-, -, -, -, -, -, -, -, ht⟩ := h.line l
    simpa [lineSilent, healthReact, healthExpiry, ht, hrun] using h
  case inputRawChange i active => unfold sampleInput; dsimp only; split <;> exact h.congr_link rfl rfl
  case filterTimerExpiry i => exact filterExpiry_atRest hrun h i
  case estopRawChange active => unfold sampleEstop; split <;> exact h.congr_link rfl rfl
  case estopEvent => exact estopExpiry_atRest hrun h
  case encoderTransition a b => exact encoderSample_atRest hrun h a b
  case deadTimeExpiry => exact deadExpiry_atRest h
  case stallTimerExpiry => simpa [stallExpiry, hm.stallTimer] using h
  case boltTravelTimeout => simpa [boltTimeout, hm.travelTimer] using h
  case brakeTimerExpiry => simpa [brakeExpiry, hm.brakeTimer] using h
  case setCheckExpiry => simpa [setCheckExpiry, hm.setCheckTimer] using h
  case holdTimerExpiry => simpa [holdExpiry, hm.holdTimer] using h
  case amberTimerExpiry => simpa [amberExpiry, hc.amberTimer] using h
  case redClearanceExpiry => simpa [redExpiry, hc.redTimer] using h
  case deckClearExpiry => simpa [deckClearExpiry, hc.deckClearTimer] using h
  case deckLimitExpiry => simpa [deckLimitExpiry, hc.deckLimitTimer] using h
  case gapTimerExpiry i =>
    obtain ⟨-, -, -, -, -, -, ht⟩ : ArmQuiet (s.arm i) := hc.arms i
    simpa [gapExpiry, ht] using h
  case armTravelTimeout i =>
    obtain ⟨-, -, -, ht, -⟩ : ArmQuiet (s.arm i) := hc.arms i
    simpa [armTravelExpiry, ht, approachReact_atRest h] using h
  case retryTimerExpiry i =>
    obtain ⟨-, -, -, -, ht, -⟩ : ArmQuiet (s.arm i) := hc.arms i
    simpa [retryExpiry, ht, approachReact_atRest h] using h
  case laneTimerExpiry i =>
    obtain ⟨-, -, -, -, -, ht, -⟩ : ArmQuiet (s.arm i) := hc.arms i
    simpa [laneExpiry, ht] using h
  case clearingTimerExpiry => simpa [clearingExpiry, h.channel.2] using h
  case flashHalfExpiry => exact lamp (by simp) (by simp)
  case lampSenseEvent i sensed => exact lamp (by simp) (by simp)
  case provingTimerExpiry i => exact lamp (by simp) (by simp)
  case watchTimerExpiry i => exact lamp (by simp) (by simp)
  case darkTimerExpiry i => exact lamp (by simp) (by simp)
  case stepTimerExpiry k => exact h.congr_link (actors_of_aside (by simp) (by simp)) rfl

/-- In CONFIG no order but an accepted RUN ends the rest. -/
theorem orderDecision_atRest {s : State} (hrun : s.running = false) (h : s.AtRest) {c : Instr}
    {d : State → State × Answer} (hd : orderDecision c = some d) :
    (d s).1.running = true ∨ (d s).1.AtRest := by
  cases c <;> cases hd
  case run =>
    unfold orderRun
    (repeat' split)
    · exact .inr h
    · exact .inr h
    · left
      exact (congrArg Fixed.running (startRun_unlinked s) : (startRun s).fixed.unlinked.running = _)
  case setItem => right; unfold orderSetItem; (repeat' split) <;> exact h.congr_link rfl rfl
  case setRoster => right; unfold orderSetRoster; (repeat' split) <;> exact h.congr_link rfl rfl
  case enableReset => exact .inr (h.congr_link rfl rfl)
  case setMask => exact .inr (h.congr_link rfl rfl)
  case setThreshold => exact .inr (h.congr_link rfl rfl)
  case clearInhibit => exact .inr (by simpa [orderClearInhibit, hrun] using h)
  case setInhibit => exact .inr (by simpa [orderSetInhibit, hrun] using h)
  case clearTrip => exact .inr (by simpa [orderClearTrip, hrun] using h)
  case home =>
    right
    have hp := h.motion.phase
    unfold orderHome
    (repeat' split) <;> simp_all [State.cornerIs]
  case armAccept arm => right; unfold orderArmAccept; dsimp only; split <;> simp_all
  case armReset arm => right; unfold orderArmReset; dsimp only; split <;> simp_all
  case navAccept =>
    right
    have hp := h.channel.1
    unfold orderNavAccept
    (repeat' split) <;> simp_all [State.channelIs]
  case demand => right; unfold orderDemand; split <;> simp_all
  case setGoal => right; unfold orderSetGoal; split <;> simp_all
  case clearRequest => right; unfold orderClearRequest; split <;> simp_all

theorem MotionUnit.atReset_atRest (dead : Nat) (e : Encoder) : (MotionUnit.atReset dead e).AtRest := by
  constructor <;> rfl

theorem afterReset_atRest (straps : Straps) (code subject : Byte) (config : ConfigStore) (roster : Vector (Option Role) 12)
    (encoder : Encoder) (found : Found) :
    (State.afterReset straps code subject config roster encoder found).AtRest where
  motion := MotionUnit.atReset_atRest _ _
  closure := by
    refine ⟨rfl, rfl, rfl, rfl, rfl, fun i => ?_⟩
    simp [State.afterReset, ArmQuiet, Arm.atReset]
  channel := ⟨rfl, rfl⟩
  desk := rfl
  peer j := by simp [State.peer, State.afterReset]
  digest := rfl
  duplicateTimer := rfl
  untripped := rfl
  line l := by cases l <;> simp [LineQuiet, State.line, State.afterReset, LineUnit.atReset]

theorem QuietInConfig.congr {s t : State} (h : QuietInConfig s) (hrun : t.running = s.running)
    (ha : t.actors = s.actors) (hl : t.link = s.link) : QuietInConfig t := by
  rw [quietInConfig_iff] at h ⊢
  exact fun ht => (h (hrun.symm.trans ht)).congr_link ha hl

theorem QuietInConfig.handled {s t : State} (hu : UnchangedBut handlingBlocks s t) (h : QuietInConfig s) :
    QuietInConfig t := by
  have hm : t.motion = s.motion := hu .motion (by decide)
  have hc : t.closure = s.closure := hu .closure (by decide)
  have hch : t.channel = s.channel := hu .channel (by decide)
  have hd : t.desk = s.desk := hu .desk (by decide)
  have hp : t.peers = s.peers := hu .peers (by decide)
  have hdig : t.digest = s.digest := hu .digest (by decide)
  have hdup : t.duplicateTimer = s.duplicateTimer := hu .duplicate (by decide)
  have ht : t.trip = s.trip := hu .trip (by decide)
  exact h.congr (hu .running (by decide)) (by simp only [State.actors, hm, hc, hch, hd, hp, hdig, hdup, ht])
    (hu .link (by decide))

theorem QuietInConfig.published {after : State} (before : State) (h : QuietInConfig after) :
    QuietInConfig (publish before after) := by
  cases hrun : after.running with
  | true =>
    exact quietInConfig_of_running ((running_of_setup (publish_setup before after)).trans hrun)
  | false =>
    rw [publish_same before after (.inr (.inl hrun))]
    exact h

theorem orderReset_atRest (straps : Straps) (s : State) : (orderReset straps s).AtRest := by
  have h := afterReset_atRest straps (byteOf (roleCode straps.role)) 1 s.config s.roster s.motion.encoder
    (foundBy s.link.lineA.idle s.link.lineB.idle s)
  exact { h with motion := { h.motion with } }

theorem orderDecision_quietInConfig {c : Instr} {d : State → State × Answer} (hd : orderDecision c = some d) (s : State)
    (h : QuietInConfig s) : QuietInConfig (d s).1 := by
  cases hrun : s.running with
  | false =>
    rcases orderDecision_atRest hrun ((quietInConfig_iff s).mp h hrun) hd with hr | hr
    · exact quietInConfig_of_running hr
    · exact (quietInConfig_iff _).mpr fun _ => hr
  | true =>
    rcases orderDecision_frame hd s with ⟨hf, -⟩ | ⟨hc, -⟩
    · have hr : (d s).1.running = s.running := congrArg Prod.fst hf
      exact quietInConfig_of_running (hr.trans hrun)
    · rw [hrun] at hc
      cases hc

theorem eventWork_quietInConfig {c : Instr} {f : State → State} (hf : eventWork c = some f) (s : State)
    (h : QuietInConfig s) : QuietInConfig (f s) := by
  cases hrun : s.running with
  | false => exact (quietInConfig_iff _).mpr fun _ => eventWork_atRest hrun ((quietInConfig_iff s).mp h hrun) hf
  | true => exact quietInConfig_of_running ((running_of_setup (eventWork_setup hf s)).trans hrun)

theorem quietInConfig_keptByCommands : KeptByCommands QuietInConfig where
  handled _ _ hu h := h.handled hu
  published before _ h := h.published before
  filled s hrun _ := quietInConfig_of_running ((running_of_setup (fillBoth_setup s)).trans hrun)
  powerOn _ _ _ := (quietInConfig_iff _).mpr fun _ => afterReset_atRest _ _ _ _ _ _ _
  orderReset straps s _ := (quietInConfig_iff _).mpr fun _ => orderReset_atRest straps s
  order _ _ s hd h := orderDecision_quietInConfig hd s h
  event _ _ s hf h := eventWork_quietInConfig hf s h
  period s hrun _ _ := quietInConfig_of_running ((running_of_fixed (controlWork_fixed s)).trans hrun)

/-- Settles O9: in CONFIG every timer and phase that a command could act on is at rest, so only RUN ends the quiet. -/
theorem configStaysQuiet : Obligations.ConfigStaysQuiet := quietInConfig_keptByCommands.kept

end Sys2Proof.Machine
end

section
/-! PROOFS. The resets: what they leave (O2, O3), and that the state after a power-on reset meets every invariant (O4). -/

namespace Sys2Proof.Machine

/-! ### The power-on reset -/

theorem afterReset_lamp (straps : Straps) (code subject : Byte) (config : ConfigStore) (roster : Vector (Option Role) 12)
    (encoder : Encoder) (found : Found) (i : Fin 16) :
    (State.afterReset straps code subject config roster encoder found).lamp i =
      Lamp.atReset straps.role (config.item 32) i := by
  fin_cases i <;> rfl

/-- The CONFIG rest modes of R138, output by output. -/
theorem rest_modes (role : Role) (i : Fin 16) :
    LampMode.rest role i =
      match role, i.val with
      | .approach, 0 => .steady
      | .approach, 1 => .steady
      | .approach, 4 => .flashA
      | .approach, 5 => .flashB
      | .channel, 0 => .steady
      | .channel, 1 => .steady
      | _, _ => .off := by
  cases role <;> revert i <;> decide

theorem afterReset_line (straps : Straps) (code subject : Byte) (config : ConfigStore) (roster : Vector (Option Role) 12)
    (encoder : Encoder) (found : Found) (l : LinkLine) :
    LineQuiet ((State.afterReset straps code subject config roster encoder found).line l) ∧
      ((State.afterReset straps code subject config roster encoder found).line l).collisions = 0 :=
  ⟨(afterReset_atRest straps code subject config roster encoder found).line l, by cases l <;> rfl⟩

theorem afterReset_arm (straps : Straps) (code subject : Byte) (config : ConfigStore) (roster : Vector (Option Role) 12)
    (encoder : Encoder) (found : Found) (i : Fin 4) :
    (State.afterReset straps code subject config roster encoder found).arm i = Arm.atReset := by
  simp [State.arm, State.afterReset]

/-- With every strap at 0 a power-on reset leaves `State.reset`, but for the queue and what the serial port keeps. -/
theorem powerOnReset_zero (s : State) :
    powerOnReset { number := 0, role := .corner } s = { State.reset with
      pending := s.pending
      port := { State.reset.port with serial := { State.reset.port.serial with
        transaction := (powerOnReset { number := 0, role := .corner } s).port.serial.transaction
        sck := s.port.serial.sck, freeBytes := s.port.serial.freeBytes } } } := rfl

/-- Settles O2: the power-on reset is `State.afterPowerOn`, read block by block. -/
theorem powerOnResetLeaves : Obligations.PowerOnResetLeaves := by
  unfold Obligations.PowerOnResetLeaves
  intro straps s
  have lamps : ∀ i, (powerOnReset straps s).lamp i = Lamp.atReset straps.role (ConfigStore.defaults.item 32) i :=
    afterReset_lamp _ _ _ _ _ _ _
  have arms : ∀ i, (powerOnReset straps s).arm i = Arm.atReset := afterReset_arm _ _ _ _ _ _ _
  refine ⟨powerOnReset straps s, rfl, rfl, rfl, rfl, rfl, rfl, fun j => ?_, powerOnReset_peer straps s, rfl, rfl, rfl, rfl,
    rfl, rfl, rfl, rfl, rfl, rfl, rfl, rfl, rfl, rfl, rfl, rfl, rfl, fun i => ?_, afterReset_line _ _ _ _ _ _ _, rfl, rfl,
    fun i => ?_, rfl, rfl, fun k => ?_, rfl, rfl, rfl, rfl, rfl, rfl, rfl, rfl, rfl, rfl, rfl, rfl, rfl, rfl, rfl, rfl, rfl,
    rfl, rfl, rfl, rfl, rfl, rfl, rfl, fun i => ?_, rfl, rfl, rfl, ?_⟩
  case refine_1 => simp [State.rosterRole, powerOnReset, State.afterPowerOn, State.afterReset]
  case refine_2 =>
    simp [State.inputLine, powerOnReset, State.afterPowerOn, State.afterReset, ConfigStore.item, ConfigStore.defaults]
  case refine_3 =>
    rw [lamps]
    exact ⟨rfl, rfl, rest_modes straps.role i⟩
  case refine_4 => simp [State.sounder, powerOnReset, State.afterPowerOn, State.afterReset]
  case refine_5 => simp [arms, ArmQuiet, Arm.atReset]
  case refine_6 =>
    rintro rfl
    exact powerOnReset_zero s

/-! ### RESET -/

theorem unchangedBut_comp {l m n : List Block} {s t u : State} (h : UnchangedBut l s t) (k : UnchangedBut m t u)
    (hl : l ⊆ n) (hm : m ⊆ n) : UnchangedBut n s u :=
  (h.mono hl).trans (k.mono hm)

/-- An order that is decided without a change is answered, and nothing else changes. -/
theorem takeOrder_answered {o : Order} {d : State → State × Answer} {a : Answer} (s : State)
    (ho : s.port.orders.head? = some o) (hd : d ((removeOrder o s).setFed false) = ((removeOrder o s).setFed false, a)) :
    Answered s (takeOrder o d s) o a.outcome a.reason a.extra ∧
      UnchangedBut [.orderQueue, .reports] s (takeOrder o d s) := by
  have hp : publish (removeOrder o s) ((removeOrder o s).setFed false) = removeOrder o s :=
    (publish_same (removeOrder o s) ((removeOrder o s).setFed false) (.inr (.inr ⟨rfl, rfl⟩))).trans rfl
  rw [takeOrder_head o d s ho, hd, hp]
  have hfix := answerOrder_fixed o s.port.orderNumber a (removeOrder o s)
  refine ⟨⟨congrArg Fixed.orders hfix, congrArg Fixed.orderNumber hfix, answerOrder_last o _ a (removeOrder o s),
    answerOrder_refused o _ a _⟩, ?_⟩
  exact unchangedBut_comp (removeOrder_unchangedBut o s) (answerOrder_unchangedBut _ _ _ _) (by simp) (by simp)

/-- An order that is refused without a change is refused as R195 says. -/
theorem takeOrder_refused {o : Order} {d : State → State × Answer} {r : Reason} (s : State)
    (ho : s.port.orders.head? = some o)
    (hd : d ((removeOrder o s).setFed false) = ((removeOrder o s).setFed false, refused r)) :
    Refused s (takeOrder o d s) o r 0 := takeOrder_answered s ho hd

/-- Settles O3: with the flag set RESET is `orderReset`; with it clear it is an order refused without a change. -/
theorem resetOrderObeysItsEnable : Obligations.ResetOrderObeysItsEnable := by
  unfold Obligations.ResetOrderObeysItsEnable
  intro straps s ho
  constructor
  · intro he
    refine ⟨orderReset straps s, by simp [exec, execReset, takeReset, ho, he], rfl, rfl, rfl, rfl, rfl, rfl,
      orderReset_peer straps s, ?_⟩
    exact ⟨rfl, rfl, rfl, rfl, rfl, rfl, rfl, rfl, rfl, rfl, rfl, rfl, rfl, rfl, rfl, rfl, rfl⟩
  · intro he
    refine ⟨takeOrder .reset (fun t => (t, refused .notEnabled)) s, by simp [exec, execReset, takeReset, ho, he], ?_⟩
    exact takeOrder_refused s ho rfl

/-! ### The state after reset -/

theorem reset_config_inRange : ConfigInRange State.reset.config := by
  intro n range h
  have hn : n < 40 := by
    by_contra hn
    have : itemRange State.reset.config n = none := by
      unfold itemRange
      split <;> first | omega | rfl
    rw [this] at h
    cases h
  have all : ∀ n < 40, ∀ range ∈ itemRange State.reset.config n,
      range.1 ≤ State.reset.config.item n ∧ State.reset.config.item n ≤ range.2 := by decide
  exact all n hn range h

/-- Settles O4: the state after reset stands in CONFIG with every block at rest. -/
theorem resetMeetsEveryInvariant : Obligations.ResetMeetsEveryInvariant := by
  have hrest : State.reset.AtRest := afterReset_atRest _ _ _ _ _ _ _
  have harm : ∀ i, State.reset.arm i = Arm.atReset := afterReset_arm _ _ _ _ _ _ _
  refine ⟨?_, ?_, ?_, ?_, (quietInConfig_iff _).mpr fun _ => hrest, peerTableLegal_of_empty hrest.peer, ?_, ?_, ?_, ?_,
    reset_config_inRange, ?_, ?_, ?_, ?_⟩
  · exact ⟨by decide, by decide, by decide, fun i => by simp [harm, Arm.atReset]⟩
  · exact ⟨.inr ⟨rfl, rfl, rfl, rfl, hrest.closure.arms⟩, fun i => by simp [harm, Arm.atReset]⟩
  · exact fun _ => ⟨rfl, rfl, rfl, rfl⟩
  · exact rfl
  · exact ⟨by decide, by decide, by decide⟩
  · exact ⟨by decide, by decide, by decide⟩
  · exact ⟨by decide, by decide, by decide, by decide, by decide⟩
  · exact ⟨by decide, by decide, by decide, by decide⟩
  · exact ⟨by decide, by decide⟩
  · exact fun h => nomatch h
  · exact ⟨fun i _ => by simp [harm, Arm.atReset], fun h => nomatch h⟩
  · exact .inr ⟨rfl, rfl⟩

end Sys2Proof.Machine
end

section
/-! PROOFS. The record on the wire (O13): a receiver on idle lines, characters, noise and framing errors, and the bytes of a
record read back. -/

namespace Sys2Proof.Machine

/-! ### Characters -/

/-- What a receiver holds behind these bytes (R26). -/
def receivedOf (bytes : List Byte) (framingError : Bool) : Received where
  chars := bytes.take 16
  count := bytes.length
  framingError := framingError

theorem receivedOf_add (bytes : List Byte) (e : Bool) (b : Byte) :
    (receivedOf bytes e).add (dataBits b) = receivedOf (bytes ++ [b]) e := by
  by_cases h : bytes.length < 16
  · have h1 : bytes.length ≤ 16 := by omega
    have h2 : (bytes ++ [b]).length ≤ 16 := by simpa using h
    simp [receivedOf, Received.add, byteOfBits_dataBits, h, List.take_of_length_le h1, List.take_of_length_le h2]
  · simp [receivedOf, Received.add, h, List.take_append_of_le_length (show 16 ≤ bytes.length by omega)]

theorem levelsOf_append (xs ys : List Bool) : levelsOf (xs ++ ys) = levelsOf xs ++ levelsOf ys := List.flatMap_append

theorem frameLevels_eq (bytes : List Byte) : frameLevels bytes = levelsOf (frameBits bytes) ++ levelsOf [true, true] :=
  levelsOf_append _ _

theorem levelsOf_frameBits_cons (b : Byte) (bytes : List Byte) :
    levelsOf (frameBits (b :: bytes)) = levelsOf (characterBits b) ++ levelsOf (frameBits bytes) := by
  rw [← levelsOf_append]
  rfl

/-- A waiting receiver takes in characters sent back to back. -/
theorem run_characters (bytes : List Byte) : ∀ (idle : Nat) (before : List Byte) (e : Bool) (rest : List Bool),
    (waitingWith idle (receivedOf before e)).run (levelsOf (frameBits bytes) ++ rest) =
      (waitingWith (if bytes = [] then idle else 0) (receivedOf (before ++ bytes) e)).run rest := by
  induction bytes with
  | nil => intro idle before e rest; simp [frameBits, levelsOf]
  | cons b bytes ih =>
    intro idle before e rest
    rw [levelsOf_frameBits_cons, List.append_assoc, run_character, receivedOf_add, ih]
    simp

theorem waiting_eq : Receiver.waiting = waitingWith 0 (receivedOf [] false) := rfl

/-- A frame on an idle line is received whole, the first 16 characters kept (R26). -/
theorem run_frame (idle : Nat) (bytes : List Byte) (h : bytes ≠ []) :
    (waitingWith idle (receivedOf [] false)).run (frameLevels bytes) = some (receivedOf bytes false) := by
  rw [frameLevels_eq, run_characters, if_neg h, List.nil_append, run_end]
  simpa [receivedOf] using h

/-- A last character with its stop bit at the active level is a framing error (R26). -/
theorem run_badStop (idle : Nat) (r : Received) (b : Byte) :
    (waitingWith idle r).run (levelsOf (charBits b false ++ [true, true])) =
      some (({ r with framingError := true } : Received).add (dataBits b)) := by
  simp [waitingWith, levelsOf, charBits, List.replicate, Receiver.run, Receiver.sample, Receiver.ended, dataBits,
    Received.add]

theorem received_badStop (bytes : List Byte) (b : Byte) :
    received (levelsOf (frameBits bytes ++ charBits b false ++ [true, true])) =
      some (receivedOf (bytes ++ [b]) true) := by
  rw [received, waiting_eq, List.append_assoc, levelsOf_append, run_characters, run_badStop, List.nil_append,
    ← receivedOf_add]
  rfl

/-! ### Idle lines -/

theorem run_idle (n : Nat) : ∀ (idle : Nat) (r : Received) (rest : List Bool), r.count = 0 →
    (waitingWith idle r).run (List.replicate n true ++ rest) = (waitingWith (idle + n) r).run rest := by
  induction n with
  | zero => intro idle r rest _; rfl
  | succ n ih =>
    intro idle r rest h
    have hs : (waitingWith idle r).sample true = waitingWith (idle + 1) r := rfl
    rw [List.replicate_succ, List.cons_append, Receiver.run, hs, if_neg (by simp [Receiver.ended, waitingWith, h]), ih _ _ _ h]
    congr 2
    omega

theorem idles_idle (n : Nat) : ∀ (idle : Nat) (r : Received) (rest : List Bool), r.count = 0 →
    (waitingWith idle r).idles (List.replicate n true ++ rest) =
      (decide (0 < n ∧ 8 ≤ idle + n) || (waitingWith (idle + n) r).idles rest) := by
  induction n with
  | zero => intro idle r rest _; simp
  | succ n ih =>
    intro idle r rest h
    have hs : (waitingWith idle r).sample true = waitingWith (idle + 1) r := rfl
    have hn : idle + 1 + n = idle + (n + 1) := by omega
    rw [List.replicate_succ, List.cons_append, Receiver.idles, hs, ih _ _ _ h, hn, ← Bool.or_assoc]
    congr 1
    simp only [waitingWith, h]
    by_cases h8 : 8 ≤ idle + (n + 1) <;> simp [h8] <;> omega

/-- Once a character has ended, the count stands above 0. -/
theorem idles_counted (levels : List Bool) : ∀ r : Receiver, r.received.count ≠ 0 → r.idles levels = false := by
  induction levels with
  | nil => intro r _; rfl
  | cons x rest ih =>
    intro r h
    have hs : (r.sample x).received.count ≠ 0 := by
      unfold Receiver.sample
      dsimp only
      (repeat' split) <;> simp_all [Received.add]
    rw [Receiver.idles]
    simp [hs, ih _ hs]

theorem idles_character (idle : Nat) (r : Received) (b : Byte) (rest : List Bool) :
    (waitingWith idle r).idles (levelsOf (characterBits b) ++ rest) = (waitingWith 0 (r.add (dataBits b))).idles rest := by
  simp [waitingWith, levelsOf, characterBits, charBits, List.replicate, Receiver.idles, Receiver.sample, dataBits,
    Received.add]

theorem idles_frame (idle : Nat) (bytes : List Byte) (h : bytes ≠ []) :
    (waitingWith idle (receivedOf [] false)).idles (frameLevels bytes) = false := by
  obtain ⟨b, rest, rfl⟩ := List.exists_cons_of_ne_nil h
  rw [frameLevels_eq, levelsOf_frameBits_cons, List.append_assoc, idles_character, receivedOf_add]
  exact idles_counted _ _ (by simp [waitingWith, receivedOf])

/-! ### Noise -/

/-- While no character has ended, a receiver does not look at how long the line has been idle. -/
theorem run_setIdle (levels : List Bool) : ∀ (r : Receiver) (k : Nat), r.received.count = 0 →
    ({ r with idle := k } : Receiver).run levels = r.run levels := by
  induction levels with
  | nil => intro r k _; rfl
  | cons x rest ih =>
    intro r k h
    have hs : ({ r with idle := k } : Receiver).sample x = r.sample x ∨
        ((r.sample x).received.count = 0 ∧
          ∃ k', ({ r with idle := k } : Receiver).sample x = { r.sample x with idle := k' }) := by
      unfold Receiver.sample
      dsimp only
      (repeat' split) <;> simp_all
    rw [Receiver.run, Receiver.run]
    rcases hs with hs | ⟨hc, k', hs⟩
    · rw [hs]
    · rw [hs, if_neg (by simp [Receiver.ended, hc]), if_neg (by simp [Receiver.ended, hc]), ih _ _ hc]

/-- A start bit that is gone half a bit later is noise (R26). -/
theorem received_noise (idle active : Nat) (levels : List Bool) (h1 : 1 ≤ active) (h2 : active ≤ 2) :
    received (List.replicate idle true ++ List.replicate active false ++ [true, true] ++ levels) = received levels := by
  have hrun : ∀ k, (waitingWith k (receivedOf [] false)).run levels = received levels := fun k =>
    run_setIdle levels (waitingWith 0 (receivedOf [] false)) k rfl
  rw [received, waiting_eq, List.append_assoc, List.append_assoc, run_idle _ _ _ _ rfl]
  obtain rfl | rfl : active = 1 ∨ active = 2 := by omega
  · exact hrun 2
  · exact hrun 2

/-! ### The bytes of a record -/

theorem wordOf_hi_lo (w : BitVec 16) : wordOf (hiByte w) (loByte w) = w := by
  apply BitVec.eq_of_toNat_eq
  have := w.isLt
  simp only [wordOf, hiByte, loByte, BitVec.toNat_ofNat]
  omega

theorem byteOfBits_five (a b c d e : Bool) :
    (byteOfBits [a, b, c, d, e]).getLsbD 0 = a ∧ (byteOfBits [a, b, c, d, e]).getLsbD 1 = b ∧
      (byteOfBits [a, b, c, d, e]).getLsbD 2 = c ∧ (byteOfBits [a, b, c, d, e]).getLsbD 3 = d ∧
      (byteOfBits [a, b, c, d, e]).getLsbD 4 = e := by
  revert a b c d e; decide

theorem byteOfBits_four (a b c d : Bool) :
    (byteOfBits [a, b, c, d]).getLsbD 0 = a ∧ (byteOfBits [a, b, c, d]).getLsbD 1 = b ∧
      (byteOfBits [a, b, c, d]).getLsbD 2 = c ∧ (byteOfBits [a, b, c, d]).getLsbD 3 = d := by
  revert a b c d; decide

theorem byteOfBits_two (a b : Bool) :
    (byteOfBits [a, b]).getLsbD 0 = a ∧ (byteOfBits [a, b]).getLsbD 1 = b := by
  revert a b; decide

/-- Record byte 1 read back: SOURCE, ROLE, TRIPPED and START_INHIBIT (R1, R27). -/
theorem headerByte_read (number : Fin 12) (role : Role) (tripped inhibit : Bool) :
    let b := byteOf (number.val % 16 + 16 * roleCode role + 64 * flagNat tripped + 128 * flagNat inhibit)
    (b.extractLsb' 0 4).toNat = number.val ∧ roleOfCode (b.extractLsb' 4 2).toNat = role ∧ b.getLsbD 6 = tripped ∧
      b.getLsbD 7 = inhibit := by
  cases role <;> revert number tripped inhibit <;> decide

/-- Payload byte 7 of a corner read back: INTENT, BOLT, BRAKE_RELEASED and SEAT (R28). -/
theorem cornerByte_read (intent : BitVec 2) (bolt : BitVec 3) (brake seat : Bool) :
    let b := byteOf (intent.toNat + 4 * bolt.toNat + 32 * flagNat brake + 64 * flagNat seat)
    b.extractLsb' 0 2 = intent ∧ b.extractLsb' 2 3 = bolt ∧ b.getLsbD 5 = brake ∧ b.getLsbD 6 = seat := by
  revert intent bolt brake seat; decide

/-- A byte of two arm codes read back (R28). -/
theorem armByte_read (x y : BitVec 4) :
    (byteOf (x.toNat + 16 * y.toNat)).extractLsb' 0 4 = x ∧ (byteOf (x.toNat + 16 * y.toNat)).extractLsb' 4 4 = y := by
  revert x y; decide

/-- The byte of an approach's loops and flags read back (R28). -/
theorem loopsByte_read (loops : BitVec 4) (deck closed stop : Bool) :
    let b := byteOf (loops.toNat + 16 * flagNat deck + 32 * flagNat closed + 64 * flagNat stop)
    b.extractLsb' 0 4 = loops ∧ b.getLsbD 4 = deck ∧ b.getLsbD 5 = closed ∧ b.getLsbD 6 = stop := by
  revert loops deck closed stop; decide

/-- The eight payload bytes read back by the role of the payload (R28). -/
theorem payloadBytes_read (p : Payload) : ∃ b6 b7 b8 b9 b10 b11 b12 b13,
    payloadBytes p = [b6, b7, b8, b9, b10, b11, b12, b13] ∧ payloadOf p.role b6 b7 b8 b9 b10 b11 b12 b13 = p := by
  cases p with
  | corner position outSpeed goal intent bolt brake seat cause =>
    refine ⟨_, _, _, _, _, _, _, _, rfl, ?_⟩
    simp only [payloadOf, Payload.role, wordOf_hi_lo, cornerByte_read intent bolt brake seat]
  | approach a0 a1 a2 a3 loops deck closed stop held lamps cause =>
    refine ⟨_, _, _, _, _, _, _, _, rfl, ?_⟩
    simp only [payloadOf, Payload.role, armByte_read a0 a1, armByte_read a2 a3, loopsByte_read loops deck closed stop]
  | channel aspect present alert closed stop lamps cause =>
    refine ⟨_, _, _, _, _, _, _, _, rfl, ?_⟩
    simp only [payloadOf, Payload.role, byteOfBits_four present alert closed stop]
  | desk demand goal count key ceiling cause =>
    refine ⟨_, _, _, _, _, _, _, _, rfl, ?_⟩
    simp only [payloadOf, Payload.role, wordOf_hi_lo, byteOfBits_two key ceiling]

/-- A record's 16 characters read as what was sent (R11, R25 to R29). -/
theorem readFrame_recordFrame (number : Nat) (role : Role) (sequence digest : Byte) (c : Content) (hn : number < 12)
    (hr : c.payload.role = role) :
    (recordFrame number role sequence digest c).length = 16 ∧
      readFrame (receivedOf (recordFrame number role sequence digest c) false) =
        some { source := number, role := role, sequence := sequence, digest := digest, content := c } := by
  obtain ⟨b6, b7, b8, b9, b10, b11, b12, b13, hbytes, hread⟩ := payloadBytes_read c.payload
  obtain ⟨hsource, hrole, htripped, hinhibit⟩ := headerByte_read ⟨number, hn⟩ role c.tripped c.startInhibit
  obtain ⟨hmaint, hestop, ha, hb, hdup⟩ :=
    byteOfBits_five c.maint c.estopActive c.lineAOk c.lineBOk c.duplicateSeen
  rw [hr] at hread
  refine ⟨by simp [recordFrame, recordBody, hbytes], ?_⟩
  simp only [recordFrame, recordBody, hbytes, receivedOf, readFrame, List.cons_append, List.nil_append, List.length_cons,
    List.length_nil, List.take_succ_cons, List.take_zero, wordOf_hi_lo, flagsByte, hsource, hrole, htripped, hinhibit,
    hmaint, hestop, ha, hb, hdup, hread, hn]
  rfl

theorem recordFrame_received (number : Nat) (role : Role) (sequence digest : Byte) (c : Content) (hn : number < 12)
    (hr : c.payload.role = role) :
    ∃ r, received (frameLevels (recordFrame number role sequence digest c)) = some r ∧
      readFrame r = some { source := number, role := role, sequence := sequence, digest := digest, content := c } := by
  obtain ⟨hlen, hread⟩ := readFrame_recordFrame number role sequence digest c hn hr
  have hne : recordFrame number role sequence digest c ≠ [] := by
    intro h
    simp [h] at hlen
  exact ⟨_, run_frame 0 _ hne, hread⟩

/-- A frame of another length, or with a framing error, is not well formed (R11). -/
theorem readFrame_none (r : Received) (h : r.count ≠ 16 ∨ r.framingError = true) : readFrame r = none := by
  unfold readFrame
  rw [if_neg]
  rintro ⟨hc, he⟩
  rcases h with h | h
  · exact h hc
  · rw [he] at h
    cases h

/-- Settles O13, from the receiver's character, its end of frame, its noise test and the layout of the record. -/
theorem recordReadsAsSent : Obligations.RecordReadsAsSent := by
  refine ⟨recordFrame_received, fun bytes h => run_frame 0 bytes h, fun bytes b => ?_, readFrame_none,
    fun idle bytes h => ⟨?_, ?_⟩, received_noise⟩
  · rw [received_badStop, receivedOf, List.length_append, List.length_singleton]
  · rw [received, received, waiting_eq, run_idle _ _ _ _ rfl, run_frame _ _ h, run_frame _ _ h]
  · rw [idleFirst, waiting_eq, idles_idle _ _ _ _ rfl, idles_frame _ _ h, Bool.or_false]
    exact decide_eq_decide.mpr ⟨fun h => by omega, fun h => by omega⟩

end Sys2Proof.Machine
end

section
/-! PROOFS. The views of section 1.5 (O45, O46): what R16 counts, and each view over it. -/

namespace Sys2Proof.Machine

/-! ### What the views count -/

theorem mem_stations (j : Fin 12) : j ∈ stations := by revert j; decide

/-- A qualifying entry is FRESH with DIGEST_OK (R16). -/
theorem qualifying_eq_some (s : State) (j : Fin 12) (c : Content) :
    s.qualifying j = some c ↔
      ∃ e h, s.peer j = some e ∧ e.freshness = .fresh ∧ e.heard = some h ∧ h.digestOk = true ∧ c = h.content := by
  unfold State.qualifying
  constructor
  · intro hq
    split at hq
    · rename_i e he
      split at hq
      · rename_i h hh
        split at hq
        · rename_i hok
          cases hq
          exact ⟨e, h, he, hok.1, hh, hok.2, rfl⟩
        · cases hq
      · cases hq
    · cases hq
  · rintro ⟨e, h, he, hf, hh, hd, rfl⟩
    simp [he, hh, hf, hd]

/-- Self counts by its own content, and every other station by its qualifying entry (R16). -/
theorem counted_eq_some (s : State) (j : Fin 12) (c : Content) :
    s.counted j = some c ↔
      if j.val = s.straps.number.val then c = s.ownContent
      else ∃ e h, s.peer j = some e ∧ e.freshness = .fresh ∧ e.heard = some h ∧ h.digestOk = true ∧ c = h.content := by
  unfold State.counted State.number
  split
  · exact ⟨fun h => (Option.some.inj h).symm, fun h => by rw [h]⟩
  · exact qualifying_eq_some s j c

/-- Every rostered station of a role is counted with a content that meets the test (R19). -/
theorem everyStation_iff (s : State) (r : Role) (test : Content → Bool) :
    s.everyStation r test = true ↔ ∀ j, s.rosterRole j = some r → ∃ c, s.counted j = some c ∧ test c = true := by
  simp only [State.everyStation, List.all_eq_true, mem_stations, true_implies, Bool.or_eq_true, decide_eq_true_eq]
  refine forall_congr' fun j => ?_
  cases hc : s.counted j with
  | none => simp
  | some c => by_cases hr : s.rosterRole j = some r <;> simp [hr]

/-- The counted desks are the counted contents of desks with the enable key on (R17). -/
theorem mem_countedDesks (s : State) (demand : Byte) (goal : BitVec 16) :
    (demand, goal) ∈ s.countedDesks ↔ ∃ j c clearCount ceiling cause, s.counted j = some c ∧
      c.payload = .desk demand goal clearCount true ceiling cause := by
  simp only [State.countedDesks, List.mem_filterMap, mem_stations, true_and]
  refine exists_congr fun j => ?_
  constructor
  · intro h
    split at h
    · rename_i c hc
      split at h
      · rename_i d g count key ceiling cause hp
        split at h
        · rename_i hk
          cases h
          exact ⟨c, count, ceiling, cause, hc, by rw [hp, hk]⟩
        · cases h
      · cases h
    · cases h
  · rintro ⟨c, count, ceiling, cause, hc, hp⟩
    simp [hc, hp]

/-! ### The DEMAND view -/

/-- The own payload is a desk's at a desk alone. -/
theorem ownPayload_eq_desk (s : State) (demand : Byte) (goal : BitVec 16) (count : Byte) (key ceiling : Bool)
    (cause : Byte) :
    s.ownContent.payload = .desk demand goal count key ceiling cause ↔
      s.straps.role = .desk ∧ byteOf (demandCode s.publishedDemand) = demand ∧ BitVec.ofNat 16 s.publishedGoal = goal ∧
        byteOf s.desk.clearCount = count ∧ s.enableKey = key ∧ s.ceilingSwitch = ceiling ∧ byteOf s.tripCause = cause := by
  cases h : s.straps.role <;> simp [State.ownContent, State.ownPayload, State.role, h]

/-- Some counted desk shows this demand. -/
def State.showsDemand (s : State) (demand : Byte) : Bool := s.countedDesks.any fun d => d.1 == demand

theorem showsDemand_iff (s : State) (demand : Byte) :
    s.showsDemand demand = true ↔ ∃ goal, (demand, goal) ∈ s.countedDesks := by
  simp only [State.showsDemand, List.any_eq_true, beq_iff_eq, Prod.exists]
  constructor
  · rintro ⟨_, goal, h, rfl⟩
    exact ⟨goal, h⟩
  · rintro ⟨goal, h⟩
    exact ⟨demand, goal, h, rfl⟩

theorem demandView_eq (s : State) :
    s.demandView =
      if s.showsDemand 3 then .halt
      else if s.showsDemand 1 && s.showsDemand 2 then .halt
      else if s.showsDemand 1 then .raise
      else if s.showsDemand 2 then .lower
      else .none := rfl

/-- Settles O45: a demand is shown where a counted desk has it, and the view is R17's table over what is shown. -/
theorem demandViewCombinesTheDesks : Obligations.DemandViewCombinesTheDesks := by
  unfold Obligations.DemandViewCombinesTheDesks
  intro s counted shows
  have hshows : ∀ demand, shows demand ↔ s.showsDemand demand = true := by
    intro demand
    simp only [showsDemand_iff, mem_countedDesks, counted_eq_some]
    rw [exists_comm]
    refine exists_congr fun j => ?_
    simp only [counted]
    split
    · constructor
      · rintro ⟨hrole, hkey, rfl⟩
        exact ⟨_, _, _, _, _, rfl, (ownPayload_eq_desk _ _ _ _ _ _ _).mpr ⟨hrole, rfl, rfl, rfl, hkey, rfl, rfl⟩⟩
      · rintro ⟨goal, c, count, ceiling, cause, rfl, hp⟩
        obtain ⟨hrole, hd, -, -, hkey, -⟩ := (ownPayload_eq_desk _ _ _ _ _ _ _).mp hp
        exact ⟨hrole, hkey, hd.symm⟩
    · constructor
      · rintro ⟨e, h, goal, count, ceiling, cause, he, hf, hh, hd, hp⟩
        exact ⟨goal, h.content, count, ceiling, cause, ⟨e, h, he, hf, hh, hd, rfl⟩, hp⟩
      · rintro ⟨goal, c, count, ceiling, cause, ⟨e, h, he, hf, hh, hd, rfl⟩, hp⟩
        exact ⟨e, h, goal, count, ceiling, cause, he, hf, hh, hd, hp⟩
  simp only [hshows, demandView_eq]
  generalize s.showsDemand 1 = raise
  generalize s.showsDemand 2 = lower
  generalize s.showsDemand 3 = halt
  revert raise lower halt
  decide

/-! ### EFFECTIVE_GOAL -/

/-- One number taken into the least nonzero one. -/
def leastNonzeroStep (m x : Nat) : Nat := if x = 0 then m else if m = 0 then x else min m x

/-- The least of the nonzero numbers among some, or 0 where there is none. -/
def IsLeastNonzero (xs : List Nat) (r : Nat) : Prop :=
  (r = 0 ∧ ∀ x ∈ xs, x = 0) ∨ (r ≠ 0 ∧ r ∈ xs ∧ ∀ x ∈ xs, x ≠ 0 → r ≤ x)

theorem leastNonzeroStep_isLeast (m x : Nat) : IsLeastNonzero [m, x] (leastNonzeroStep m x) := by
  simp only [IsLeastNonzero, leastNonzeroStep, List.mem_cons, List.not_mem_nil, or_false, forall_eq_or_imp, forall_eq]
  (repeat' split) <;> omega

theorem IsLeastNonzero.append {l k : List Nat} {m r : Nat} (hm : IsLeastNonzero l m) (hr : IsLeastNonzero (m :: k) r) :
    IsLeastNonzero (l ++ k) r := by
  simp only [IsLeastNonzero, List.forall_mem_cons, List.forall_mem_append] at hm hr ⊢
  rw [List.mem_append]
  rw [List.mem_cons] at hr
  rcases hm with ⟨rfl, hl⟩ | ⟨hm0, hml, hlm⟩
  · rcases hr with ⟨hr0, -, hk⟩ | ⟨hr0, hrm, -, hk⟩
    · exact .inl ⟨hr0, hl, hk⟩
    · exact .inr ⟨hr0, .inr (hrm.resolve_left hr0), fun x hx h0 => absurd (hl x hx) h0, hk⟩
  · rcases hr with ⟨-, hm0', -⟩ | ⟨hr0, hrm, hrlem, hk⟩
    · exact absurd hm0' hm0
    · refine .inr ⟨hr0, ?_, fun x hx h0 => (hrlem hm0).trans (hlm x hx h0), hk⟩
      rcases hrm with rfl | hrk
      · exact .inl hml
      · exact .inr hrk

theorem foldl_isLeastNonzero (xs : List Nat) : ∀ m, IsLeastNonzero (m :: xs) (xs.foldl leastNonzeroStep m) := by
  induction xs with
  | nil =>
    intro m
    by_cases hm : m = 0
    · exact .inl ⟨hm, by simpa using hm⟩
    · exact .inr ⟨hm, by simp, by simp⟩
  | cons x xs ih => exact fun m => (leastNonzeroStep_isLeast m x).append (ih _)

theorem leastNonzero_isLeast (xs : List Nat) : IsLeastNonzero xs (leastNonzero xs) := by
  rcases foldl_isLeastNonzero xs 0 with ⟨h0, hall⟩ | ⟨h0, hmem, hle⟩
  · exact .inl ⟨h0, fun x hx => hall x (.tail _ hx)⟩
  · exact .inr ⟨h0, (List.mem_cons.mp hmem).resolve_left h0, fun x hx => hle x (.tail _ hx)⟩

/-- A number is the least nonzero one in one way. -/
theorem IsLeastNonzero.unique {xs : List Nat} {r r' : Nat} (h : IsLeastNonzero xs r) (h' : IsLeastNonzero xs r') :
    r = r' := by
  rcases h with ⟨h0, hall⟩ | ⟨h0, hmem, hle⟩ <;> rcases h' with ⟨h0', hall'⟩ | ⟨h0', hmem', hle'⟩
  · exact h0.trans h0'.symm
  · exact absurd (hall _ hmem') h0'
  · exact absurd (hall' _ hmem) h0
  · exact Nat.le_antisymm (hle _ hmem' h0') (hle' _ hmem h0)

/-- The goals of the counted desks that demand RAISE. -/
def State.raisedGoals (s : State) : List Nat := (s.countedDesks.filter fun d => d.1 == 1).map fun d => d.2.toNat

theorem mem_raisedGoals (s : State) (n : Nat) :
    n ∈ s.raisedGoals ↔ ∃ goal : BitVec 16, (1, goal) ∈ s.countedDesks ∧ goal.toNat = n := by
  simp only [State.raisedGoals, List.mem_map, List.mem_filter, beq_iff_eq, Prod.exists]
  constructor
  · rintro ⟨_, goal, ⟨h, rfl⟩, hn⟩
    exact ⟨goal, h, hn⟩
  · rintro ⟨goal, h, hn⟩
    exact ⟨1, goal, ⟨h, rfl⟩, hn⟩

/-- While the view is RAISE the effective goal is the least nonzero goal of the desks that demand it (R18). -/
theorem effectiveGoal_eq_some (s : State) (hv : s.demandView = .raise) {n : Nat} (hn : IsLeastNonzero s.raisedGoals n) :
    s.effectiveGoal = some n := by
  rw [State.effectiveGoal, if_pos hv, (leastNonzero_isLeast s.raisedGoals).unique hn |>.symm]
  rfl

/-! ### The views of approaches, channels and corners -/

theorem approachesClosed_iff (s : State) :
    s.approachesClosed = true ↔ ∀ j, s.rosterRole j = some .approach → ∃ c, s.counted j = some c ∧
      c.phase = 6 ∧ ∃ a0 a1 a2 a3 loops deck stop held lamps cause,
        c.payload = .approach a0 a1 a2 a3 loops deck true stop held lamps cause := by
  rw [State.approachesClosed, everyStation_iff]
  have hc : byteOf (approachCode .closed) = 6 := rfl
  refine forall_congr' fun j => imp_congr_right fun _ => exists_congr fun c => and_congr_right fun _ => ?_
  cases c.payload <;> simp [hc]

theorem channelsClosed_iff (s : State) :
    s.channelsClosed = true ↔ ∀ j, s.rosterRole j = some .channel → ∃ c, s.counted j = some c ∧
      ∃ aspect present alert stop lamps cause, c.payload = .channel aspect present alert true stop lamps cause := by
  rw [State.channelsClosed, everyStation_iff]
  refine forall_congr' fun j => imp_congr_right fun _ => exists_congr fun c => and_congr_right fun _ => ?_
  cases c.payload <;> simp

theorem cornersReady_iff (s : State) :
    s.cornersReady = true ↔ ∀ j, s.rosterRole j = some .corner → ∃ c, s.counted j = some c ∧
      c.tripped = false ∧ c.startInhibit = false ∧ ∃ position speed goal intent bolt brake seat cause,
        position ≠ 0x8000#16 ∧ c.payload = .corner position speed goal intent bolt brake seat cause := by
  rw [State.cornersReady, everyStation_iff]
  refine forall_congr' fun j => imp_congr_right fun _ => exists_congr fun c => and_congr_right fun _ => ?_
  cases c.payload <;> simp
  tauto

theorem spanSeatedLocked_iff (s : State) :
    s.spanSeatedLocked = true ↔ ∀ j, s.rosterRole j = some .corner → ∃ c, s.counted j = some c ∧
      c.phase = 4 ∧ ∃ position speed goal intent bolt brake seat cause,
        c.payload = .corner position speed goal intent bolt brake seat cause := by
  rw [State.spanSeatedLocked, everyStation_iff]
  have hc : byteOf (cornerCode .seatedLocked) = 4 := rfl
  refine forall_congr' fun j => imp_congr_right fun _ => exists_congr fun c => and_congr_right fun _ => ?_
  cases c.payload <;> simp [hc]

theorem spanClear_iff (s : State) :
    s.spanClear = true ↔ ∀ j, s.rosterRole j = some .corner → ∃ c, s.counted j = some c ∧
      c.phase = 9 ∧ ∃ position speed goal intent bolt brake seat cause, (s.config.item 5 : Int) ≤ position.toInt ∧
        c.payload = .corner position speed goal intent bolt brake seat cause := by
  rw [State.spanClear, everyStation_iff]
  have hc : byteOf (cornerCode .raised) = 9 := rfl
  refine forall_congr' fun j => imp_congr_right fun _ => exists_congr fun c => and_congr_right fun _ => ?_
  cases c.payload <;> simp [hc, State.clearanceHeight]
  exact fun _ => decide_eq_true_iff

theorem vesselAlertAny_iff (s : State) :
    s.vesselAlertAny = true ↔ ∃ j c aspect present closed stop lamps cause, s.counted j = some c ∧
      c.payload = .channel aspect present true closed stop lamps cause := by
  simp only [State.vesselAlertAny, List.any_eq_true, mem_stations, true_and]
  refine exists_congr fun j => ?_
  constructor
  · intro h
    split at h
    · rename_i c hc
      split at h
      · rename_i aspect present alert closed stop lamps cause hp
        exact ⟨c, aspect, present, closed, stop, lamps, cause, hc, by rw [hp, h]⟩
      · cases h
    · cases h
  · rintro ⟨c, aspect, present, closed, stop, lamps, cause, hc, hp⟩
    simp [hc, hp]

/-- Settles O46: each view is its rule over what is counted, and the goal the least nonzero one of the raising desks. -/
theorem viewsCombineTheRecords : Obligations.ViewsCombineTheRecords := by
  unfold Obligations.ViewsCombineTheRecords
  intro s counts every asks
  have hcounts : ∀ j c, counts j c ↔ s.counted j = some c := fun j c => (counted_eq_some s j c).symm
  have hasks : ∀ goal, asks goal ↔ (1, goal) ∈ s.countedDesks := by
    intro goal
    simp only [asks, hcounts, mem_countedDesks]
  have hzero : ∀ goal : BitVec 16, goal.toNat = 0 ↔ goal = 0 := fun goal => by
    rw [← BitVec.toNat_inj]
    rfl
  simp only [every, hcounts, hasks]
  refine ⟨fun h => if_neg h, fun hv h => ?_, fun hv g hg h0 hle => ?_, approachesClosed_iff s, channelsClosed_iff s,
    cornersReady_iff s, spanSeatedLocked_iff s, spanClear_iff s, vesselAlertAny_iff s⟩
  · refine effectiveGoal_eq_some s hv (.inl ⟨rfl, fun n hn => ?_⟩)
    obtain ⟨goal, hgoal, rfl⟩ := (mem_raisedGoals s n).mp hn
    exact (hzero goal).mpr (h goal hgoal)
  · refine effectiveGoal_eq_some s hv (.inr ⟨fun h => h0 ((hzero g).mp h), (mem_raisedGoals s _).mpr ⟨g, hg, rfl⟩, ?_⟩)
    intro n hn hn0
    obtain ⟨goal, hgoal, rfl⟩ := (mem_raisedGoals s n).mp hn
    exact hle goal hgoal fun h => hn0 ((hzero goal).mpr h)

end Sys2Proof.Machine
end

section
/-! PROOFS. What the operations of the role blocks add to the report FIFO, the conditions and the mark of fed changes. -/

namespace Sys2Proof.Machine

/-! ### A corner's entry actions leave the port -/

@[simp] theorem releaseRequest_port (s : State) : (releaseRequest s).port = s.port := by
  unfold releaseRequest; split <;> rfl
@[simp] theorem setRequest_port (s : State) : (setRequest s).port = s.port := by
  unfold setRequest; split <;> rfl
@[simp] theorem applyOutput_port (v : Int) (s : State) : (applyOutput v s).port = s.port := rfl
@[simp] theorem driveBolt_port (s : State) : (driveBolt s).port = s.port := by
  unfold driveBolt; (repeat' split) <;> rfl
@[simp] theorem withdrawBolt_port (s : State) : (withdrawBolt s).port = s.port := by
  unfold withdrawBolt; (repeat' split) <;> rfl
@[simp] theorem boltOnEntry_port (p : CornerPhase) (s : State) : (boltOnEntry p s).port = s.port := by
  unfold boltOnEntry; (repeat' split) <;> simp
@[simp] theorem brakeOnEntry_port (p : CornerPhase) (s : State) : (brakeOnEntry p s).port = s.port := by
  unfold brakeOnEntry; (repeat' split) <;> simp
@[simp] theorem homingOnEntry_port (p : CornerPhase) (s : State) : (homingOnEntry p s).port = s.port := by
  unfold homingOnEntry; split <;> rfl

/-! ### Growth of the reports -/

/-- A submitted report joins the FIFO, or 32 stand there (R196, R197). -/
theorem submit_reports (r : Report) (s : State) :
    ∃ new, (submit r s).port.reports = s.port.reports ++ new ∧ (∀ x ∈ new, x = r) ∧
      (r ∈ new ∨ 32 ≤ (submit r s).port.reports.length) := by
  unfold submit
  split
  · exact ⟨[r], rfl, by simp, by simp⟩
  · rename_i h
    exact ⟨[], by simp [latch], by simp, .inr (by simpa [latch] using h)⟩

theorem submit_fed (r : Report) (s : State) : (submit r s).fed = s.fed := by
  unfold submit
  split <;> rfl

/-- The kinds of report that come with a change fed to the Record Builder (R30). -/
def fedKinds : List ReportKind := [.phase, .arm, .lamp]

/-- From `s` to `t` reports are only submitted, none of them a PEER report, and conditions only latched; a change is fed with a
report of its own alone. -/
structure Grows (s t : State) : Prop where
  reports : ∃ new, t.port.reports = s.port.reports ++ new ∧ (∀ x ∈ new, x.kind ≠ .peer) ∧
    (t.fed = true → s.fed = true ∨ 32 ≤ t.port.reports.length ∨ ∃ x ∈ new, x.kind ∈ fedKinds)
  latched : ∀ c, s.latched c = true → t.latched c = true

namespace Grows

theorem refl (s : State) : Grows s s := ⟨⟨[], by simp, by simp, .inl⟩, fun _ h => h⟩

variable {s t u : State}

theorem trans (h : Grows s t) (k : Grows t u) : Grows s u := by
  obtain ⟨⟨new, hnew, hpeer, hfed⟩, hlatched⟩ := h
  obtain ⟨⟨more, hmore, kpeer, kfed⟩, klatched⟩ := k
  refine ⟨⟨new ++ more, by rw [hmore, hnew, List.append_assoc], fun x hx => ?_, fun hu => ?_⟩,
    fun c hc => klatched c (hlatched c hc)⟩
  · exact (List.mem_append.mp hx).elim (hpeer x) (kpeer x)
  · rcases kfed hu with ht | hlen | ⟨x, hx, hk⟩
    · rcases hfed ht with hs | hlen | ⟨x, hx, hk⟩
      · exact .inl hs
      · exact .inr (.inl (by rw [hmore, List.length_append]; omega))
      · exact .inr (.inr ⟨x, List.mem_append_left _ hx, hk⟩)
    · exact .inr (.inl hlen)
    · exact .inr (.inr ⟨x, List.mem_append_right _ hx, hk⟩)

/-- What neither writes the port nor feeds a change adds nothing. -/
theorem congr (h : Grows s t) (hp : u.port = t.port) (hf : u.fed = t.fed) : Grows s u := by
  refine h.trans ⟨⟨[], by rw [hp, List.append_nil], by simp, fun hu => .inl (hf ▸ hu)⟩, fun c hc => ?_⟩
  simpa only [State.latched, hp] using hc

/-! ### Updates, conditions and reports -/

theorem onTrip (h : Grows s t) {f : TripUnit → TripUnit} : Grows s (t.onTrip f) := h.congr rfl rfl
theorem onMotion (h : Grows s t) {f : MotionUnit → MotionUnit} : Grows s (t.onMotion f) := h.congr rfl rfl
theorem onClosure (h : Grows s t) {f : ClosureUnit → ClosureUnit} : Grows s (t.onClosure f) := h.congr rfl rfl
theorem onChannel (h : Grows s t) {f : ChannelUnit → ChannelUnit} : Grows s (t.onChannel f) := h.congr rfl rfl
theorem onDesk (h : Grows s t) {f : DeskUnit → DeskUnit} : Grows s (t.onDesk f) := h.congr rfl rfl
theorem onLamp (h : Grows s t) {i : Fin 16} {f : Lamp → Lamp} : Grows s (t.onLamp i f) := h.congr rfl rfl
theorem onSounder (h : Grows s t) {k : Fin 2} {f : Sounder → Sounder} : Grows s (t.onSounder k f) := h.congr rfl rfl
theorem onArm (h : Grows s t) {i : Fin 4} {f : Arm → Arm} : Grows s (t.onArm i f) := h.congr rfl rfl
theorem onLine (h : Grows s t) {l : LinkLine} {f : LineUnit → LineUnit} : Grows s (t.onLine l f) := by
  cases l <;> exact h.congr rfl rfl

theorem latch (h : Grows s t) {c : Condition} : Grows s (latch c t) :=
  h.trans ⟨⟨[], by simp [Machine.latch], by simp, .inl⟩, fun d => latch_keeps c d t⟩

/-- A report of a kind that comes with a fed change covers what is fed with it. -/
theorem told (h : Grows s t) (hp : u.port = t.port) {k : ReportKind} {a b c d e : Nat} (hk : k ∈ fedKinds := by decide) :
    Grows s (report k a b c d e u) := by
  obtain ⟨new, hnew, honly, hmem⟩ := submit_reports (Report.mk k u.time (byteOf a) (byteOf b) (byteOf c) (byteOf d) (byteOf e)) u
  refine h.trans ⟨⟨new, by rw [← hp]; exact hnew, fun x hx => ?_, fun _ => .inr ?_⟩, fun x hx => ?_⟩
  · rw [honly x hx]
    rintro rfl
    simp [fedKinds] at hk
  · exact hmem.elim (fun hm => .inr ⟨_, hm, hk⟩) .inl
  · exact submit_keeps _ x u (by simpa only [State.latched, hp] using hx)

theorem toldLamp (h : Grows s t) {a b c d e : Nat} : Grows s (report .lamp a b c d e (feed u t)) :=
  told (u := feed u t) h rfl
theorem toldArm (h : Grows s t) {a b c d e : Nat} : Grows s (report .arm a b c d e (feed u t)) :=
  told (u := feed u t) h rfl
theorem toldPhase (h : Grows s t) {a b c d e : Nat} {f : Bool} : Grows s (report .phase a b c d e (t.setFed f)) :=
  told (u := t.setFed f) h rfl

theorem report (h : Grows s t) {k : ReportKind} {a b c d e : Nat} (hk : k ≠ .peer := by decide) :
    Grows s (report k a b c d e t) := by
  obtain ⟨new, hnew, honly, -⟩ := submit_reports (Report.mk k t.time (byteOf a) (byteOf b) (byteOf c) (byteOf d) (byteOf e)) t
  refine h.trans ⟨⟨new, hnew, fun x hx => ?_, fun ht => .inl ?_⟩, fun x => submit_keeps _ x t⟩
  · rw [honly x hx]
    exact hk
  · exact (submit_fed _ t).symm.trans ht

/-- What each element of a list keeps growing, the fold does. -/
theorem foldl {α : Type} {g : State → α → State} (hg : ∀ {t x}, Grows s t → Grows s (g t x)) {l : List α}
    (h : Grows s t) : Grows s (l.foldl g t) := by
  induction l generalizing t with
  | nil => exact h
  | cons x xs ih => exact ih (hg h)

/-! ### Lamps and sounders -/

theorem setProving (h : Grows s t) {i : Fin 16} {p : Proving} : Grows s (setProving i p t) := by
  unfold Machine.setProving
  dsimp only
  (repeat' split)
  · exact h
  · exact h.onLamp.toldLamp.latch
  · exact h.onLamp.toldLamp

theorem windowSucceeds (h : Grows s t) {i : Fin 16} : Grows s (windowSucceeds i t) := h.onLamp.setProving
theorem windowFails (h : Grows s t) {i : Fin 16} : Grows s (windowFails i t) := h.onLamp.setProving

theorem beginOnPhase (h : Grows s t) {i : Fin 16} : Grows s (beginOnPhase i t) := by
  unfold Machine.beginOnPhase
  dsimp only
  (repeat' split)
  · exact h.onLamp.windowSucceeds
  · exact h.onLamp.onLamp
  · exact h

theorem endOnPhase (h : Grows s t) {i : Fin 16} {b : Bool} : Grows s (endOnPhase i b t) := by
  unfold Machine.endOnPhase
  dsimp only
  (repeat' split)
  · exact h.windowFails.onLamp
  · exact h.onLamp
  · exact h

theorem requestMode (h : Grows s t) {i : Fin 16} {m : LampMode} : Grows s (requestMode i m t) := by
  unfold Machine.requestMode
  dsimp only
  (repeat' split)
  · exact h
  · exact h.endOnPhase.onLamp.beginOnPhase
  · exact h.endOnPhase.onLamp
  · exact h.onLamp.beginOnPhase
  · exact h.onLamp

theorem requestAnew (h : Grows s t) {i : Fin 16} : Grows s (requestAnew i t) := h.requestMode.requestMode

theorem requestRow (h : Grows s t) {row : List (Fin 16 × LampMode)} : Grows s (requestRow row t) :=
  h.foldl fun k => k.requestMode

theorem renewFailedReds (h : Grows s t) : Grows s (renewFailedReds t) := by
  unfold Machine.renewFailedReds
  dsimp only
  (repeat' split)
  · exact h.requestAnew.requestAnew
  · exact h.requestAnew
  · exact h.requestAnew
  · exact h

theorem requestPattern (h : Grows s t) {k : Fin 2} {p : Pattern} : Grows s (requestPattern k p t) := h.onSounder
theorem requestSteady (h : Grows s t) {k : Fin 2} {on : Bool} : Grows s (requestSteady k on t) := h.onSounder

/-! ### Arms -/

theorem driveArm (h : Grows s t) {i : Fin 4} : Grows s (driveArm i t) := by
  unfold Machine.driveArm
  exact h.onArm

theorem enterArm (h : Grows s t) {i : Fin 4} {x : ArmState} {event : Nat} : Grows s (enterArm i x event t) := by
  unfold Machine.enterArm
  dsimp only
  (repeat' split)
  · exact h
  · exact h.onArm.toldArm.latch
  · exact h.onArm.toldArm

theorem faultArm (h : Grows s t) {i : Fin 4} {c : ArmFault} : Grows s (faultArm i c t) := h.onArm.enterArm
theorem arriveBelow (h : Grows s t) {i : Fin 4} : Grows s (arriveBelow i t) := h.onArm.enterArm

theorem beginLowering (h : Grows s t) {i : Fin 4} : Grows s (beginLowering i t) := by
  unfold Machine.beginLowering
  dsimp only
  (repeat' split)
  · exact h.faultArm
  · exact h
  · exact h.onArm
  · exact h.onArm.enterArm.arriveBelow
  · exact h.onArm.enterArm
  · exact h

theorem endRaise (h : Grows s t) {i : Fin 4} : Grows s (endRaise i t) := by
  unfold Machine.endRaise
  dsimp only
  (repeat' split)
  · exact h.onArm.faultArm
  · exact h.onArm.onArm.enterArm
  · exact h.onArm.enterArm.beginLowering

theorem beginRaise (h : Grows s t) {i : Fin 4} {b : Bool} : Grows s (beginRaise i b t) := by
  unfold Machine.beginRaise
  dsimp only
  split
  · exact h.onArm.enterArm.endRaise
  · exact h.onArm.enterArm

theorem takePattern (h : Grows s t) {i : Fin 4} : Grows s (takePattern i t) := by
  unfold Machine.takePattern
  split
  · exact h.enterArm
  · exact h.enterArm
  · exact h.onArm.enterArm
  · exact h.faultArm

theorem stopArm (h : Grows s t) {i : Fin 4} : Grows s (stopArm i t) := h.onArm.takePattern

theorem commandArm (h : Grows s t) {i : Fin 4} {c : ArmCommand} : Grows s (commandArm i c t) := by
  unfold Machine.commandArm
  dsimp only
  (repeat' split)
  · exact h
  · exact h.onArm.beginLowering.driveArm
  · exact h.onArm.beginLowering.driveArm
  · exact h.onArm.onArm
  · exact h.onArm.beginRaise.driveArm
  · exact h.onArm.beginRaise.driveArm
  · exact h.onArm.beginRaise.driveArm
  · exact h.onArm.onArm
  · exact h.onArm.stopArm.driveArm
  · exact h.onArm.onArm.takePattern.driveArm
  · exact h.onArm

theorem commandArms (h : Grows s t) {which : Fin 4 → Bool} {c : ArmCommand} : Grows s (commandArms which c t) := by
  refine h.foldl fun k => ?_
  split
  · exact k.commandArm
  · exact k

theorem tripArm (h : Grows s t) {i : Fin 4} : Grows s (tripArm i t) := by
  unfold Machine.tripArm
  dsimp only
  split
  · exact h.stopArm.commandArm.driveArm
  · exact h.commandArm.driveArm

theorem newClosure (h : Grows s t) : Grows s (newClosure t) := h.foldl fun k => k.onArm

/-! ### Entries -/

theorem approachActions (h : Grows s t) {p : ApproachPhase} : Grows s (approachActions p t) := by
  unfold Machine.approachActions
  split
  · exact h.commandArms
  · exact h.onClosure
  · exact h.renewFailedReds.onClosure
  · exact h.commandArms
  · exact h.onClosure
  · exact h.commandArms
  · exact h
  · exact h.commandArms
  · exact h.commandArms
  · exact h.foldl fun k => k.tripArm

theorem enterApproach (h : Grows s t) {p : ApproachPhase} {held : Option ApproachPhase} :
    Grows s (enterApproach p held t) := by
  unfold Machine.enterApproach
  exact h.onClosure.toldPhase.requestRow.requestSteady.approachActions

theorem testVesselAlert (h : Grows s t) : Grows s (testVesselAlert t) := by
  unfold Machine.testVesselAlert
  dsimp only
  split
  · exact h.onChannel.latch.requestPattern
  · exact h.onChannel

theorem enterChannel (h : Grows s t) {p : ChannelPhase} : Grows s (enterChannel p t) := by
  unfold Machine.enterChannel
  extract_lets old withdrawn s1 s2 s3 s4 s5
  have h2 : Grows s s2 := h.onChannel.testVesselAlert
  have h3 : Grows s s3 := by
    dsimp only [s3]
    split
    · exact h2.requestPattern
    · exact h2
  have h5 : Grows s s5 := h3.toldPhase.requestRow
  split
  · exact h5.renewFailedReds
  · exact h5

theorem takeFallback (h : Grows s t) : Grows s (takeFallback t) := h.onChannel.requestRow
theorem deskIndicators (h : Grows s t) : Grows s (deskIndicators t) := h.requestRow

theorem enterDesk (h : Grows s t) {p : DeskPhase} {d : Demand} : Grows s (enterDesk p d t) := by
  unfold Machine.enterDesk
  exact h.onDesk.toldPhase

/-! ### The corner's entry and the trips -/

theorem enterCorner (h : Grows s t) {p : CornerPhase} {rel : Intent} : Grows s (enterCorner p rel t) := by
  unfold Machine.enterCorner
  extract_lets old working s1 s2 w
  exact h.told (u := s2) (by simp [s2, s1])

theorem enterTripped (h : Grows s t) : Grows s (enterTripped t) := by
  unfold Machine.enterTripped
  split
  · exact h.enterCorner
  · exact h.enterApproach
  · exact h.enterChannel
  · exact h.enterDesk.deskIndicators

theorem tripReport (h : Grows s t) {c : Cause} {before after : Nat} : Grows s (tripReport c before after t) := h.report

theorem submitCause (h : Grows s t) {c : Cause} : Grows s (submitCause c t) := by
  unfold Machine.submitCause
  dsimp only
  (repeat' split)
  · exact h
  · exact h.onTrip.latch.tripReport.enterTripped
  · exact h
  · exact h.onTrip.tripReport
  · exact h
  · exact h.onTrip.tripReport

end Grows

end Sys2Proof.Machine
end

section
/-! PROOFS. What an event of the corner is made of: changes of the Motion Unit that keep its phase, conditions, entries into
another phase than TRIPPED from another than TRIPPED, and trip causes. -/

namespace Sys2Proof.Machine

/-- A run of the corner's operations from `s`. -/
inductive CornerRun (s : State) : State → Prop where
  | refl : CornerRun s s
  | motion {t : State} (h : CornerRun s t) (f : MotionUnit → MotionUnit) (hf : ∀ m, (f m).phase = m.phase) :
      CornerRun s (t.onMotion f)
  | latch {t : State} (h : CornerRun s t) (c : Condition) : CornerRun s (latch c t)
  | enter {t : State} (h : CornerRun s t) (p : CornerPhase) (rel : Intent) (hp : p ≠ .tripped)
      (ht : t.motion.phase ≠ some .tripped) : CornerRun s (enterCorner p rel t)
  | cause {t : State} (h : CornerRun s t) (c : Cause) : CornerRun s (submitCause c t)

/-- A predicate that the operations of a run keep. -/
structure KeptByCorner (P : State → Prop) : Prop where
  motion : ∀ t f, (∀ m : MotionUnit, (f m).phase = m.phase) → P t → P (t.onMotion f)
  latch : ∀ t c, P t → P (latch c t)
  enter : ∀ t p rel, p ≠ .tripped → t.motion.phase ≠ some .tripped → P t → P (enterCorner p rel t)
  cause : ∀ t c, P t → P (submitCause c t)

theorem KeptByCorner.run {P : State → Prop} (k : KeptByCorner P) {s t : State} (h : CornerRun s t) (hs : P s) : P t := by
  induction h with
  | refl => exact hs
  | motion _ f hf ih => exact k.motion _ f hf ih
  | latch _ c ih => exact k.latch _ c ih
  | enter _ p rel hp ht ih => exact k.enter _ p rel hp ht ih
  | cause _ c ih => exact k.cause _ c ih

namespace CornerRun

variable {s t u : State}

theorem trans (h : CornerRun s t) (k : CornerRun t u) : CornerRun s u :=
  KeptByCorner.run (P := CornerRun s)
    ⟨fun _ f hf k => k.motion f hf, fun _ c k => k.latch c, fun _ p rel hp ht k => k.enter p rel hp ht,
      fun _ c k => k.cause c⟩ k h

/-! ### Operations that keep the phase -/

theorem onMotion (h : CornerRun s t) {f : MotionUnit → MotionUnit} (hf : ∀ m, (f m).phase = m.phase := by intro; rfl) :
    CornerRun s (t.onMotion f) := h.motion f hf

theorem onOutput (h : CornerRun s t) {f : OutputStage → OutputStage} : CornerRun s (t.onOutput f) :=
  h.motion (fun m => { m with output := f m.output }) fun _ => rfl
theorem onBrake (h : CornerRun s t) {f : Brake → Brake} : CornerRun s (t.onBrake f) :=
  h.motion (fun m => { m with brake := f m.brake }) fun _ => rfl
theorem onBolt (h : CornerRun s t) {f : Bolt → Bolt} : CornerRun s (t.onBolt f) :=
  h.motion (fun m => { m with bolt := f m.bolt }) fun _ => rfl
theorem onProfile (h : CornerRun s t) {f : Profile → Profile} : CornerRun s (t.onProfile f) :=
  h.motion (fun m => { m with profile := f m.profile }) fun _ => rfl

theorem submitIf (h : CornerRun s t) {b : Bool} {c : Cause} : CornerRun s (submitIf b c t) := by
  unfold Machine.submitIf
  split
  · exact h.cause c
  · exact h

theorem formPosition (h : CornerRun s t) : CornerRun s (formPosition t) := h.onMotion
theorem setPosition (h : CornerRun s t) : CornerRun s (setPosition t) := h.onMotion
theorem zeroCount (h : CornerRun s t) : CornerRun s (zeroCount t) := h.onMotion
theorem setReferenced (h : CornerRun s t) {r : Bool} : CornerRun s (setReferenced r t) := h.onMotion
theorem captureGoal (h : CornerRun s t) : CornerRun s (captureGoal t) := h.onMotion
theorem applyOutput (h : CornerRun s t) {v : Int} : CornerRun s (applyOutput v t) := by
  unfold Machine.applyOutput
  exact h.onOutput
theorem restBolt (h : CornerRun s t) {b : BoltState} : CornerRun s (restBolt b t) := h.onBolt
theorem startWithdrawing (h : CornerRun s t) : CornerRun s (startWithdrawing t) := h.onBolt
theorem storeProfile (h : CornerRun s t) {p : Profile} : CornerRun s (storeProfile p t) := h.onProfile

theorem testDriveCondition (h : CornerRun s t) : CornerRun s (testDriveCondition t) := by
  unfold Machine.testDriveCondition
  split
  · exact h.onBolt
  · exact h

theorem setRequest (h : CornerRun s t) : CornerRun s (setRequest t) := by
  unfold Machine.setRequest
  split
  · exact h.onBrake.onMotion
  · exact h

theorem clearLeftBehind (h : CornerRun s t) : CornerRun s (clearLeftBehind t) := by
  unfold Machine.clearLeftBehind
  split
  · exact h.onMotion
  · exact h

theorem skewTest (h : CornerRun s t) : CornerRun s (skewTest t) := by
  unfold Machine.skewTest
  exact h.onMotion.submitIf
theorem sympathyTest (h : CornerRun s t) : CornerRun s (sympathyTest t) := h.submitIf
theorem silentTest (h : CornerRun s t) : CornerRun s (silentTest t) := h.submitIf

/-! ### Transitions -/

theorem completeHoming (h : CornerRun s t) (ht : t.motion.phase ≠ some .tripped) : CornerRun s (completeHoming t) :=
  h.zeroCount.setReferenced.setPosition.enter .seated .none (by decide) ht

theorem arriveAtSeat (h : CornerRun s t) (ht : t.motion.phase ≠ some .tripped) : CornerRun s (arriveAtSeat t) :=
  h.zeroCount.setPosition.enter .seated .none (by decide) ht

theorem seatCapture (h : CornerRun s t) (ht : t.motion.phase ≠ some .tripped) : CornerRun s (seatCapture t) := by
  unfold Machine.seatCapture
  dsimp only
  split
  · exact h.formPosition.arriveAtSeat ht
  · exact h.formPosition.cause _

theorem phase_of_cornerIs {p : CornerPhase} (hp : p ≠ .tripped) (h : t.cornerIs p = true) :
    t.motion.phase ≠ some .tripped := by
  rw [State.cornerIs, beq_iff_eq] at h
  rw [h]
  simpa using hp

/-- The tests behind the entry into a phase. -/
theorem afterEntry {p : CornerPhase} (hp : p ≠ .tripped) (rel : Intent) (s : State) :
    CornerRun (enterCorner p rel s) (toCorner p rel s) := by
  unfold toCorner
  extract_lets s1 s2 s3
  have h1 : CornerRun s1 s1 := .refl
  split
  · have h2 : CornerRun s1 s2 := by
      dsimp only [s2]
      split
      · exact h1
      · exact h1.skewTest
    have h3 : CornerRun s1 s3 := h2.sympathyTest.silentTest
    split
    · rename_i hl
      exact h3.seatCapture (phase_of_cornerIs (by decide) (Bool.and_eq_true_iff.mp hl).1)
    · exact h3
  · split
    · refine h1.completeHoming ?_
      rw [enterCorner_phase]
      simpa using hp
    · exact h1

theorem toCorner (h : CornerRun s t) {p : CornerPhase} {rel : Intent} (hp : p ≠ .tripped)
    (ht : t.motion.phase ≠ some .tripped) : CornerRun s (toCorner p rel t) :=
  (h.enter p rel hp ht).trans (afterEntry hp rel t)

theorem toLowering (h : CornerRun s t) (ht : t.motion.phase ≠ some .tripped) : CornerRun s (toLowering t) := by
  unfold Machine.toLowering
  split <;> exact h.toCorner (by decide) ht

theorem toRaising (h : CornerRun s t) (ht : t.motion.phase ≠ some .tripped) : CornerRun s (toRaising t) := by
  unfold Machine.toRaising
  dsimp only
  split <;> exact h.captureGoal.toCorner (by decide) ht

theorem haltLeftBehind (h : CornerRun s t) (ht : t.motion.phase ≠ some .tripped) : CornerRun s (haltLeftBehind t) := by
  unfold Machine.haltLeftBehind
  exact (h.latch _).onMotion.toCorner (by decide) ht

theorem abandonRelease (h : CornerRun s t) (ht : t.motion.phase ≠ some .tripped) : CornerRun s (abandonRelease t) := by
  have hs : (Machine.setRequest t).motion.phase ≠ some .tripped := by simpa using ht
  unfold Machine.abandonRelease
  dsimp only
  split <;> exact h.setRequest.toCorner (by decide) hs

theorem failHoming (h : CornerRun s t) (ht : t.motion.phase ≠ some .tripped) : CornerRun s (failHoming t) :=
  (h.latch _).toCorner (by decide) ht

/-! ### Condition causes -/

/-- A condition cause of the corner is a run of its operations (R68). -/
theorem cornerCondition (h : cornerCondition s = some t) : CornerRun s t := by
  have r : CornerRun s s := .refl
  unfold Machine.cornerCondition at h
  split at h
  case h_1 => cases h
  case h_2 hp =>
    have ht : s.motion.phase ≠ some .tripped := by simp [hp]
    (repeat' split at h) <;> cases h <;> exact r.toCorner (by decide) ht
  case h_3 hp =>
    have ht : s.motion.phase ≠ some .tripped := by simp [hp]
    split at h <;> cases h
    exact r.toCorner (by decide) ht
  case h_4 hp =>
    have ht : s.motion.phase ≠ some .tripped := by simp [hp]
    split at h <;> cases h
    exact r.toCorner (by decide) ht
  case h_5 hp =>
    have ht : s.motion.phase ≠ some .tripped := by simp [hp]
    (repeat' split at h) <;> cases h <;> exact r.toCorner (by decide) ht
  case h_6 hp =>
    have ht : s.motion.phase ≠ some .tripped := by simp [hp]
    (repeat' split at h) <;> cases h
    · exact r.toCorner (by decide) ht
    · exact r.captureGoal.toCorner (by decide) ht
  case h_7 hp =>
    have ht : s.motion.phase ≠ some .tripped := by simp [hp]
    (repeat' split at h) <;> cases h
    · exact r.abandonRelease ht
    · exact r.haltLeftBehind ht
    · exact r.abandonRelease ht
  case h_8 hp =>
    have ht : s.motion.phase ≠ some .tripped := by simp [hp]
    (repeat' split at h) <;> cases h
    · exact r.toCorner (by decide) ht
    · exact r.haltLeftBehind ht
  case h_9 hp =>
    have ht : s.motion.phase ≠ some .tripped := by simp [hp]
    split at h <;> cases h
    exact r.toLowering ht
  case h_10 hp =>
    have ht : s.motion.phase ≠ some .tripped := by simp [hp]
    split at h <;> cases h
    exact r.toCorner (by decide) ht
  case h_11 => cases h
  case h_12 hp =>
    have ht : s.motion.phase ≠ some .tripped := by simp [hp]
    (repeat' split at h) <;> cases h
    · exact r.toLowering ht
    · exact r.toRaising ht
  case h_13 hp =>
    have ht : s.motion.phase ≠ some .tripped := by simp [hp]
    split at h <;> cases h
    exact r.failHoming ht
  case h_14 => cases h
  case h_15 => cases h

theorem cornerSettle (n : Nat) : ∀ {t}, CornerRun s t → CornerRun s (cornerSettle n t) := by
  induction n with
  | zero => exact fun h => h
  | succ n ih =>
    intro t h
    unfold Machine.cornerSettle
    split
    · exact h
    · rename_i u hu
      exact ih (h.trans (cornerCondition hu))

theorem cornerReact (h : CornerRun s t) : CornerRun s (cornerReact t) := cornerSettle 16 h.clearLeftBehind

theorem reactIfMoved (h : CornerRun s t) {before : State} : CornerRun s (reactIfMoved before t) := by
  unfold Machine.reactIfMoved
  split
  · exact h.cornerReact
  · exact h

/-! ### Events of inputs and timers -/

theorem seatEvent (h : CornerRun s t) {active : Bool} : CornerRun s (seatEvent active t) := by
  unfold Machine.seatEvent
  extract_lets s1 s2
  have h1 : CornerRun s s1 := h.formPosition
  have h2 : CornerRun s s2 := by
    dsimp only [s2]
    (repeat' split)
    · exact h1.seatCapture (phase_of_cornerIs (p := .lowering) (by decide) ‹_›)
    · exact h1.completeHoming (phase_of_cornerIs (p := .homing) (by decide) ‹_›)
    · exact h1
    · exact h1
  exact h2.testDriveCondition.reactIfMoved

theorem faultBolt (h : CornerRun s t) : CornerRun s (faultBolt t) := h.restBolt.cause .bolt

theorem boltEvent (h : CornerRun s t) : CornerRun s (boltEvent t) := by
  refine reactIfMoved ?_
  (repeat' split)
  · exact h.faultBolt
  · exact h.faultBolt
  · exact h.faultBolt
  · exact h.faultBolt
  · exact h.faultBolt
  · exact h.restBolt
  · exact h.restBolt
  · exact h

theorem feedbackEvent (h : CornerRun s t) {released : Bool} : CornerRun s (feedbackEvent released t) := h.submitIf

theorem brakeExpiry (h : CornerRun s t) : CornerRun s (brakeExpiry t) := by
  unfold Machine.brakeExpiry
  split
  · extract_lets s1
    have h1 : CornerRun s s1 := h.onBrake
    split
    · rename_i hr
      have ht : s1.motion.phase ≠ some .tripped := phase_of_cornerIs (by decide) hr
      (repeat' split)
      · exact h1.cause _
      · exact (h1.toCorner (p := .raising) (by decide) ht).cornerReact
      · exact (h1.toCorner (p := .lowering) (by decide) ht).cornerReact
      · exact (h1.setRequest.toCorner (by decide) (by simpa using ht)).cornerReact
    · split
      · exact h1.submitIf
      · exact h1
  · exact h

theorem setCheckExpiry (h : CornerRun s t) : CornerRun s (setCheckExpiry t) := by
  unfold Machine.setCheckExpiry
  split
  · exact h.onBrake.submitIf
  · exact h

theorem holdExpiry (h : CornerRun s t) : CornerRun s (holdExpiry t) := by
  unfold Machine.holdExpiry
  split
  · exact h.onMotion.setRequest
  · exact h

theorem boltTimeout (h : CornerRun s t) : CornerRun s (boltTimeout t) := by
  unfold Machine.boltTimeout
  split
  · exact h.faultBolt
  · exact h

theorem stallExpiry (h : CornerRun s t) : CornerRun s (stallExpiry t) := by
  unfold Machine.stallExpiry
  split
  · exact h.onMotion.cause _
  · exact h

theorem deadExpiry (h : CornerRun s t) : CornerRun s (deadExpiry t) := by
  unfold Machine.deadExpiry
  split
  · exact h.onOutput
  · exact h

theorem encoderSample (h : CornerRun s t) {a b : Bool} : CornerRun s (encoderSample a b t) := by
  unfold Machine.encoderSample
  extract_lets e s1
  have h1 : CornerRun s s1 := h.onMotion
  (repeat' split)
  · exact h1.onMotion
  · exact h1.cause _
  · exact h1.setReferenced.setPosition
  · exact h1

theorem deliverCorner (h : CornerRun s t) {i : Fin 25} {active : Bool} : CornerRun s (deliverCorner i active t) := by
  unfold Machine.deliverCorner
  split
  · exact h.seatEvent
  · exact h.boltEvent
  · exact h.boltEvent
  · exact h.feedbackEvent
  · exact h.submitIf
  · exact h.cornerReact
  · exact h

/-! ### The control period -/

theorem supervise (h : CornerRun s t) : CornerRun s (supervise t) := by
  unfold Machine.supervise
  extract_lets travel s1 s2 s3 s4
  have h1 : CornerRun s s1 := h.formPosition.onMotion
  have h4 : CornerRun s s4 := h1.submitIf.submitIf.submitIf
  split
  · exact h4.skewTest
  · exact h4

theorem profileWork (h : CornerRun s t) : CornerRun s (profileWork t) := by
  unfold Machine.profileWork
  split
  case h_1 hp =>
    have ht : t.motion.phase ≠ some .tripped := by simp [hp]
    extract_lets g r s1
    have h1 : CornerRun s s1 := h.onMotion.storeProfile
    split
    · exact (h1.toCorner (p := .raised) (by decide) ht).cornerReact
    · exact h1
  case h_2 => exact h.storeProfile
  case h_3 hp =>
    have ht : t.motion.phase ≠ some .tripped := by simp [hp]
    extract_lets v s1
    have h1 : CornerRun s s1 := h.storeProfile
    split
    · exact (h1.toCorner (p := .held) (by decide) ht).cornerReact
    · exact h1
  case h_4 hp =>
    split
    · exact h.failHoming (by simp [hp])
    · exact h.storeProfile
  case h_5 => exact h

theorem outputWork (h : CornerRun s t) : CornerRun s (outputWork t) := by
  have hc (c : Int) : CornerRun s (t.onMotion fun m => { m with correction := c }) := h.onMotion
  unfold Machine.outputWork
  extract_lets v
  split
  · exact (hc _).applyOutput
  · split
    · exact (hc 0).applyOutput
    · exact (hc 0).applyOutput

theorem stallWork (h : CornerRun s t) : CornerRun s (stallWork t) := by
  unfold Machine.stallWork
  dsimp only
  (repeat' split)
  · exact h.onMotion
  · exact h
  · exact h

theorem controlWork (h : CornerRun s t) : CornerRun s (controlWork t) := by
  unfold Machine.controlWork
  exact h.supervise.testDriveCondition.cornerReact.profileWork.outputWork.stallWork.setPosition.onMotion

/-! ### RUN and clear -/

/-- The first phase of a corner is never TRIPPED (R69). -/
theorem firstCornerPhase_ne (s : State) : firstCornerPhase s ≠ .tripped := by
  unfold firstCornerPhase
  (repeat' split) <;> decide

theorem clearedCornerPhase_ne (s : State) : clearedCornerPhase s ≠ .tripped := by
  unfold clearedCornerPhase
  (repeat' split) <;> decide

/-- What RUN derives at a corner before it enters the first phase. -/
def cornerAtRun (s : State) : State :=
  (deriveBolt (referenceAtRun s)).onMotion fun m => { m with controlTimer := some controlTime }

/-- RUN at a corner enters the first phase, behind which its operations run. -/
theorem runCorner (s : State) :
    CornerRun (Machine.enterCorner (firstCornerPhase (cornerAtRun s)) .none (cornerAtRun s)) (runCorner s) := by
  unfold Machine.runCorner
  exact CornerRun.refl.submitIf.submitIf.submitIf.submitIf.cornerReact

end CornerRun

end Sys2Proof.Machine
end

section
/-! PROOFS. What the operations of the arm controllers leave: the other arms, the trip unit and the other role blocks; and what
the entry into a phase of an approach, a channel and a desk leaves. -/

namespace Sys2Proof.Machine

/-! ### One arm -/

/-- The role blocks and the Trip Unit with one arm left out. -/
def State.besideArm (i : Fin 4) (s : State) : TripUnit × MotionUnit × ClosureUnit × ChannelUnit × DeskUnit :=
  (s.trip, s.motion, { s.closure with arms := s.closure.arms.set i Arm.atReset }, s.channel, s.desk)

/-- The role blocks and the Trip Unit without the arms. -/
def State.besideArms (s : State) : TripUnit × MotionUnit × ClosureUnit × ChannelUnit × DeskUnit :=
  (s.trip, s.motion, { s.closure with arms := Vector.replicate 4 Arm.atReset }, s.channel, s.desk)

theorem besideArms_of_besideArm {i : Fin 4} {s t : State} (h : t.besideArm i = s.besideArm i) :
    t.besideArms = s.besideArms := by
  simp only [State.besideArm, State.besideArms, Prod.mk.injEq, ClosureUnit.mk.injEq] at h ⊢
  obtain ⟨ht, hm, ⟨h1, h2, h3, h4, h5, h6, h7, h8, -⟩, hch, hd⟩ := h
  exact ⟨ht, hm, ⟨h1, h2, h3, h4, h5, h6, h7, h8, trivial⟩, hch, hd⟩

theorem arm_of_besideArm {i j : Fin 4} {s t : State} (h : t.besideArm i = s.besideArm i) (hj : j ≠ i) :
    t.arm j = s.arm j := by
  simp only [State.besideArm, Prod.mk.injEq, ClosureUnit.mk.injEq] at h
  obtain ⟨-, -, ⟨-, -, -, -, -, -, -, -, harms⟩, -, -⟩ := h
  have hne : i.val ≠ j.val := fun e => hj (Fin.ext e.symm)
  have := congrArg (fun v => v[j]) harms
  simpa [State.arm, Vector.getElem_set, hne] using this

theorem besideArm_of_aside {s t : State} (h : t.aside = s.aside) (i : Fin 4) : t.besideArm i = s.besideArm i := by
  simp only [State.aside, Prod.mk.injEq] at h
  obtain ⟨ht, hm, hc, hch, hd⟩ := h
  simp only [State.besideArm, ht, hm, hc, hch, hd]

theorem besideArms_of_aside {s t : State} (h : t.aside = s.aside) : t.besideArms = s.besideArms :=
  besideArms_of_besideArm (besideArm_of_aside h 0)

section
variable (i : Fin 4) (s : State)

@[simp] theorem onArm_besideArm (f : Arm → Arm) : (s.onArm i f).besideArm i = s.besideArm i := by
  simp [State.besideArm, State.onArm]
@[simp] theorem feed_besideArm (t : State) : (feed t s).besideArm i = s.besideArm i := rfl
@[simp] theorem latch_besideArm (c : Condition) : (latch c s).besideArm i = s.besideArm i := rfl
@[simp] theorem report_besideArm (k : ReportKind) (a b c d e : Nat) :
    (report k a b c d e s).besideArm i = s.besideArm i := besideArm_of_aside (report_aside k a b c d e s) i

@[simp] theorem driveArm_besideArm : (driveArm i s).besideArm i = s.besideArm i := by simp [driveArm]

@[simp] theorem enterArm_besideArm (x : ArmState) (event : Nat) : (enterArm i x event s).besideArm i = s.besideArm i := by
  unfold enterArm
  dsimp only
  (repeat' split) <;> simp

@[simp] theorem faultArm_besideArm (c : ArmFault) : (faultArm i c s).besideArm i = s.besideArm i := by simp [faultArm]
@[simp] theorem arriveBelow_besideArm : (arriveBelow i s).besideArm i = s.besideArm i := by simp [arriveBelow]

@[simp] theorem beginLowering_besideArm : (beginLowering i s).besideArm i = s.besideArm i := by
  unfold beginLowering
  dsimp only
  (repeat' split) <;> simp

@[simp] theorem endRaise_besideArm : (endRaise i s).besideArm i = s.besideArm i := by
  unfold endRaise
  dsimp only
  (repeat' split) <;> simp

@[simp] theorem beginRaise_besideArm (b : Bool) : (beginRaise i b s).besideArm i = s.besideArm i := by
  unfold beginRaise
  dsimp only
  split <;> simp

@[simp] theorem reverseArm_besideArm : (reverseArm i s).besideArm i = s.besideArm i := by simp [reverseArm]

@[simp] theorem takePattern_besideArm : (takePattern i s).besideArm i = s.besideArm i := by
  unfold takePattern
  split <;> simp

@[simp] theorem stopArm_besideArm : (stopArm i s).besideArm i = s.besideArm i := by simp [stopArm]

@[simp] theorem commandArm_besideArm (c : ArmCommand) : (commandArm i c s).besideArm i = s.besideArm i := by
  unfold commandArm
  dsimp only
  (repeat' split) <;> simp

@[simp] theorem tripArm_besideArm : (tripArm i s).besideArm i = s.besideArm i := by
  unfold tripArm
  dsimp only
  split <;> simp

@[simp] theorem patternEvent_besideArm (old : LimitPattern) : (patternEvent i old s).besideArm i = s.besideArm i := by
  unfold patternEvent
  (repeat' split) <;> simp

@[simp] theorem presenceEvent_besideArm (active : Bool) : (presenceEvent i active s).besideArm i = s.besideArm i := by
  unfold presenceEvent
  (repeat' split) <;> simp

@[simp] theorem gapExpiry_besideArm : (gapExpiry i s).besideArm i = s.besideArm i := by
  unfold gapExpiry
  split <;> simp

@[simp] theorem armTravelExpiry_besideArm : (armTravelExpiry i s).besideArm i = s.besideArm i := by
  unfold armTravelExpiry
  split <;> simp

@[simp] theorem retryExpiry_besideArm : (retryExpiry i s).besideArm i = s.besideArm i := by
  unfold retryExpiry
  split <;> simp

@[simp] theorem laneExpiry_besideArm : (laneExpiry i s).besideArm i = s.besideArm i := by
  unfold laneExpiry
  dsimp only
  split <;> simp

@[simp] theorem deriveArm_besideArm : (deriveArm i s).besideArm i = s.besideArm i := by
  unfold deriveArm
  dsimp only
  split <;> simp

@[simp] theorem actOnCommand_besideArm : (actOnCommand i s).besideArm i = s.besideArm i := by
  unfold actOnCommand
  split <;> simp

end

/-! ### Every arm -/

/-- What a fold over arms leaves beside them. -/
theorem foldl_besideArms {g : State → Fin 4 → State} (hg : ∀ t i, (g t i).besideArms = t.besideArms) (l : List (Fin 4))
    (s : State) : (l.foldl g s).besideArms = s.besideArms := by
  induction l generalizing s with
  | nil => rfl
  | cons i l ih => exact (ih _).trans (hg s i)

@[simp] theorem commandArms_besideArms (which : Fin 4 → Bool) (c : ArmCommand) (s : State) :
    (commandArms which c s).besideArms = s.besideArms := by
  refine foldl_besideArms (fun t i => ?_) _ s
  split
  · exact besideArms_of_besideArm (commandArm_besideArm i t c)
  · rfl

@[simp] theorem tripArms_besideArms (s : State) : (arms.foldl (fun t i => tripArm i t) s).besideArms = s.besideArms :=
  foldl_besideArms (fun t i => besideArms_of_besideArm (tripArm_besideArm i t)) _ s

@[simp] theorem newClosure_besideArms (s : State) : (newClosure s).besideArms = s.besideArms :=
  foldl_besideArms (fun t i => besideArms_of_besideArm (onArm_besideArm i t _)) _ s

@[simp] theorem deriveArms_besideArms (s : State) : (deriveArms s).besideArms = s.besideArms :=
  foldl_besideArms (fun t i => besideArms_of_besideArm (deriveArm_besideArm i t)) _ s

/-! ### Entries of an approach -/

theorem requestRow_aside_steady (row : List (Fin 16 × LampMode)) (k : Fin 2) (on : Bool) (s : State) :
    (requestSteady k on (requestRow row s)).aside = s.aside := by simp

/-- The Closure Unit at an entry, before its actions. -/
def ClosureUnit.entering (p : ApproachPhase) (held : Option ApproachPhase) (c : ClosureUnit) : ClosureUnit :=
  { c with
    phase := some p
    heldStage := if p = .holding then held else none
    holdPending := if p = .holding ∨ p = .tripped then false else c.holdPending
    served := false, amberTimer := none, redTimer := none, deckClearTimer := none, deckLimitTimer := none }

/-- An entry is the actions of its phase on the Closure Unit at the entry. -/
theorem enterApproach_eq (p : ApproachPhase) (held : Option ApproachPhase) (s : State) :
    ∃ t, enterApproach p held s = approachActions p t ∧
      t.aside = (s.trip, s.motion, s.closure.entering p held, s.channel, s.desk) ∧ t.fixed = s.fixed := by
  refine ⟨_, rfl, ?_, ?_⟩
  · rw [requestRow_aside_steady, report_aside]
    rfl
  · simp

/-- The parts of the role blocks and the Trip Unit that no action of an approach entry writes. -/
def State.besideStage (s : State) :=
  (s.trip, s.motion, s.closure.phase, s.closure.heldStage, s.closure.holdPending, s.channel, s.desk)

theorem besideStage_of_besideArms {s t : State} (h : t.besideArms = s.besideArms) : t.besideStage = s.besideStage := by
  simp only [State.besideArms, State.besideStage, Prod.mk.injEq, ClosureUnit.mk.injEq] at h ⊢
  obtain ⟨ht, hm, ⟨h1, h2, h3, -, -, -, -, -, -⟩, hch, hd⟩ := h
  exact ⟨ht, hm, h1, h2, h3, hch, hd⟩

@[simp] theorem approachActions_besideStage (p : ApproachPhase) (s : State) :
    (approachActions p s).besideStage = s.besideStage := by
  unfold approachActions
  split
  · exact besideStage_of_besideArms (by simp)
  · rfl
  · exact (besideStage_of_besideArms (besideArms_of_aside (renewFailedReds_aside s)) : (renewFailedReds s).besideStage = _)
  · exact besideStage_of_besideArms (by simp)
  · rfl
  · exact besideStage_of_besideArms (by simp)
  · rfl
  · exact besideStage_of_besideArms (by simp)
  · exact besideStage_of_besideArms (by simp)
  · exact besideStage_of_besideArms (by simp)

/-- What an entry leaves and sets beside its timers and the arms. -/
theorem enterApproach_besideStage (p : ApproachPhase) (held : Option ApproachPhase) (s : State) :
    (enterApproach p held s).besideStage =
      (s.trip, s.motion, some p, if p = .holding then held else none,
        if p = .holding ∨ p = .tripped then false else s.closure.holdPending, s.channel, s.desk) := by
  obtain ⟨t, ht, ha, -⟩ := enterApproach_eq p held s
  simp only [State.aside, Prod.mk.injEq] at ha
  obtain ⟨htrip, hmotion, hclosure, hchannel, hdesk⟩ := ha
  rw [ht, approachActions_besideStage, State.besideStage, htrip, hmotion, hclosure, hchannel, hdesk]
  rfl

theorem enterApproach_trip (p : ApproachPhase) (held : Option ApproachPhase) (s : State) :
    (enterApproach p held s).trip = s.trip := congrArg (·.1) (enterApproach_besideStage p held s)
theorem enterApproach_motion (p : ApproachPhase) (held : Option ApproachPhase) (s : State) :
    (enterApproach p held s).motion = s.motion := congrArg (·.2.1) (enterApproach_besideStage p held s)
theorem enterApproach_phase (p : ApproachPhase) (held : Option ApproachPhase) (s : State) :
    (enterApproach p held s).closure.phase = some p := congrArg (·.2.2.1) (enterApproach_besideStage p held s)
theorem enterApproach_heldStage (p : ApproachPhase) (held : Option ApproachPhase) (s : State) :
    (enterApproach p held s).closure.heldStage = if p = .holding then held else none :=
  congrArg (·.2.2.2.1) (enterApproach_besideStage p held s)
theorem enterApproach_channel (p : ApproachPhase) (held : Option ApproachPhase) (s : State) :
    (enterApproach p held s).channel = s.channel := congrArg (·.2.2.2.2.2.1) (enterApproach_besideStage p held s)
theorem enterApproach_desk (p : ApproachPhase) (held : Option ApproachPhase) (s : State) :
    (enterApproach p held s).desk = s.desk := congrArg (·.2.2.2.2.2.2) (enterApproach_besideStage p held s)

/-- In TRIPPED no stage timer runs. -/
theorem enterApproach_tripped_timers (held : Option ApproachPhase) (s : State) :
    let c := (enterApproach .tripped held s).closure
    c.amberTimer = none ∧ c.redTimer = none ∧ c.deckClearTimer = none := by
  obtain ⟨t, ht, ha, -⟩ := enterApproach_eq .tripped held s
  have hb : (enterApproach .tripped held s).besideArms = t.besideArms := by
    rw [ht]
    exact tripArms_besideArms t
  simp only [State.aside, Prod.mk.injEq] at ha
  obtain ⟨-, -, hclosure, -, -⟩ := ha
  simp only [State.besideArms, Prod.mk.injEq, ClosureUnit.mk.injEq, hclosure, ClosureUnit.entering] at hb
  obtain ⟨-, -, ⟨-, -, -, -, hamber, hred, hdeck, -, -⟩, -, -⟩ := hb
  exact ⟨hamber, hred, hdeck⟩

/-! ### Entries of a channel and a desk -/

theorem testVesselAlert_aside (s : State) : (testVesselAlert s).aside =
    (s.trip, s.motion, s.closure,
      { s.channel with vesselAlert := s.vesselPresent && s.channel.phase != some .openToVessels }, s.desk) := by
  unfold testVesselAlert
  dsimp only
  split <;> rfl

/-- What an entry into a channel phase leaves, and what the Channel Unit then is. -/
theorem enterChannel_aside (p : ChannelPhase) (s : State) : (enterChannel p s).aside =
    (s.trip, s.motion, s.closure,
      { s.channel with
        phase := some p
        clearingTimer := if p = .closing ∧ s.vesselPresent = false then some s.clearingTime else none
        manualStop := if p = .opening then false else s.channel.manualStop
        greenFallback := p == .openToVessels && s.greenFailed
        vesselAlert := s.vesselPresent && p != .openToVessels }, s.desk) := by
  unfold enterChannel
  extract_lets old withdrawn s1 s2 s3 s4 s5
  have h2 : s2.aside = (s.trip, s.motion, s.closure,
      { s.channel with
        phase := some p
        clearingTimer := if p = .closing ∧ s.vesselPresent = false then some s.clearingTime else none
        manualStop := if p = .opening then false else s.channel.manualStop
        greenFallback := p == .openToVessels && s.greenFailed
        vesselAlert := s.vesselPresent && p != .openToVessels }, s.desk) := by
    rw [testVesselAlert_aside]
    rfl
  have h3 : s3.aside = s2.aside := by
    dsimp only [s3]
    split <;> simp
  have h5 : s5.aside = s3.aside := by
    rw [requestRow_aside, report_aside]
    rfl
  split
  · rw [renewFailedReds_aside, h5, h3, h2]
  · rw [h5, h3, h2]

theorem takeFallback_aside (s : State) : (takeFallback s).aside =
    (s.trip, s.motion, s.closure, { s.channel with greenFallback := true }, s.desk) := by
  rw [takeFallback, requestRow_aside]
  rfl

@[simp] theorem deskIndicators_aside (s : State) : (deskIndicators s).aside = s.aside := requestRow_aside _ _

theorem enterDesk_aside (p : DeskPhase) (d : Demand) (s : State) : (enterDesk p d s).aside =
    (s.trip, s.motion, s.closure, s.channel, { s.desk with phase := some p, heldDemand := d }) := by
  rw [enterDesk, report_aside]
  rfl

/-! ### Entries of a corner -/

/-- The role blocks and the Trip Unit without the Motion Unit. -/
def State.besideMotion (s : State) : TripUnit × ClosureUnit × ChannelUnit × DeskUnit × SignalUnit :=
  (s.trip, s.closure, s.channel, s.desk, s.signal)

@[simp] theorem onMotion_besideMotion (f : MotionUnit → MotionUnit) (s : State) :
    (s.onMotion f).besideMotion = s.besideMotion := rfl
@[simp] theorem onBrake_besideMotion (f : Brake → Brake) (s : State) :
    (s.onBrake f).besideMotion = s.besideMotion := rfl
@[simp] theorem setFed_besideMotion (b : Bool) (s : State) : (s.setFed b).besideMotion = s.besideMotion := rfl
@[simp] theorem latch_besideMotion (c : Condition) (s : State) : (latch c s).besideMotion = s.besideMotion := rfl
@[simp] theorem report_besideMotion (k : ReportKind) (a b c d e : Nat) (s : State) :
    (report k a b c d e s).besideMotion = s.besideMotion := by
  simp only [State.besideMotion, report_trip, report_closure, report_channel, report_desk, report_signal]
@[simp] theorem releaseRequest_besideMotion (s : State) : (releaseRequest s).besideMotion = s.besideMotion := by
  unfold releaseRequest; split <;> rfl
@[simp] theorem setRequest_besideMotion (s : State) : (setRequest s).besideMotion = s.besideMotion := by
  unfold setRequest; split <;> rfl
@[simp] theorem applyOutput_besideMotion (v : Int) (s : State) : (applyOutput v s).besideMotion = s.besideMotion := rfl
@[simp] theorem driveBolt_besideMotion (s : State) : (driveBolt s).besideMotion = s.besideMotion := by
  unfold driveBolt; (repeat' split) <;> rfl
@[simp] theorem withdrawBolt_besideMotion (s : State) : (withdrawBolt s).besideMotion = s.besideMotion := by
  unfold withdrawBolt; (repeat' split) <;> rfl
@[simp] theorem boltOnEntry_besideMotion (p : CornerPhase) (s : State) :
    (boltOnEntry p s).besideMotion = s.besideMotion := by
  unfold boltOnEntry; (repeat' split) <;> simp
@[simp] theorem brakeOnEntry_besideMotion (p : CornerPhase) (s : State) :
    (brakeOnEntry p s).besideMotion = s.besideMotion := by
  unfold brakeOnEntry; (repeat' split) <;> simp
@[simp] theorem homingOnEntry_besideMotion (p : CornerPhase) (s : State) :
    (homingOnEntry p s).besideMotion = s.besideMotion := by
  unfold homingOnEntry; split <;> rfl

/-- An entry into a corner phase writes, of the role blocks, the Motion Unit alone. -/
@[simp] theorem enterCorner_besideMotion (p : CornerPhase) (rel : Intent) (s : State) :
    (enterCorner p rel s).besideMotion = s.besideMotion := by
  unfold enterCorner
  extract_lets old working s1 s2 w
  have h2 : s2.besideMotion = s.besideMotion := by simp [s2, s1]
  rw [report_besideMotion]
  exact h2

end Sys2Proof.Machine
end

section
/-! PROOFS. What the submission of a cause does, and the condition causes of approaches and channels as a few operations. -/

namespace Sys2Proof.Machine

/-! ### Trip causes -/

/-- A submitted cause is absorbed, or joins a standing trip, or trips the station: then it enters TRIPPED with the flag set. -/
theorem submitCause_cases (c : Cause) (s : State) :
    ((s.running = false ∨ s.trip.flag = true) ∧ submitCause c s = s) ∨
    (s.running = true ∧ s.trip.flag = true ∧ ∃ trip, trip.flag = true ∧
      (submitCause c s).aside = (trip, s.motion, s.closure, s.channel, s.desk) ∧
      (submitCause c s).signal = s.signal) ∨
    (s.running = true ∧ s.trip.flag = false ∧ ∃ t, submitCause c s = enterTripped t ∧
      t.aside = ({ s.trip with flag := true, causes := [c] }, s.motion, s.closure, s.channel, s.desk) ∧
      t.signal = s.signal ∧ t.fixed = s.fixed) := by
  unfold submitCause
  dsimp only
  split
  · exact .inl ⟨.inl ‹_›, rfl⟩
  · rename_i hrun
    have hrun : s.running = true := by simpa using hrun
    split
    · rename_i hflag
      refine .inr (.inr ⟨hrun, hflag, _, rfl, ?_, ?_, ?_⟩)
      · rw [tripReport, report_aside]
        rfl
      · rw [tripReport, report_signal]
        rfl
      · simp
    · rename_i hflag
      have hflag : s.trip.flag = true := by simpa using hflag
      split
      · exact .inl ⟨.inr hflag, rfl⟩
      · split
        · refine .inr (.inl ⟨hrun, hflag, { s.trip with causes := s.trip.causes ++ [c] }, hflag, ?_, ?_⟩)
          · rw [tripReport, report_aside]
            rfl
          · rw [tripReport, report_signal]
            rfl
        · split
          · exact .inl ⟨.inr hflag, rfl⟩
          · refine .inr (.inl ⟨hrun, hflag, { s.trip with more := true }, hflag, ?_, ?_⟩)
            · rw [tripReport, report_aside]
              rfl
            · rw [tripReport, report_signal]
              rfl

theorem of_some_eq {P : State → Prop} {u t : State} (h : some u = some t) (hu : P u) : P t := by
  injection h with h
  exact h ▸ hu

/-! ### Condition causes of an approach -/

/-- A stage at which an approach can hold (R112, R114). -/
def HoldStage (p : ApproachPhase) : Prop :=
  p = .amber ∨ p = .redClearance ∨ p = .entryLowering ∨ p = .deckClearing ∨ p = .exitLowering ∨ p = .closed

/-- A predicate that the operations of the closure sequence keep. -/
structure KeptByApproach (P : State → Prop) : Prop where
  hold : ∀ t, t.inClosingStage = true → P t → P (setHold t)
  enter : ∀ t p held, p ≠ .tripped → t.closure.phase ≠ some .tripped → t.closure.phase ≠ none →
    (∀ q, held = some q → HoldStage q) → P t → P (enterApproach p held t)
  resume : ∀ t, t.closure.phase = some .holding → P t → P (enterApproach (t.closure.heldStage.getD .redClearance) none t)
  anew : ∀ t, t.closure.phase = some .opened → P t → P (newClosure t)

@[simp] theorem newClosure_phase (s : State) : (newClosure s).closure.phase = s.closure.phase :=
  congrArg (·.2.2.1) (besideStage_of_besideArms (newClosure_besideArms s))

namespace KeptByApproach

variable {P : State → Prop} (k : KeptByApproach P) {s t : State}
include k

theorem completeStage {next : ApproachPhase} (hn : HoldStage next) (hs : s.closure.phase ≠ some .tripped)
    (hp : s.closure.phase ≠ none) (h : P s) : P (completeStage next s) := by
  have hnext : next ≠ .tripped := by
    rintro rfl
    simp [HoldStage] at hn
  unfold Machine.completeStage
  split
  · exact k.enter s _ _ (by decide) hs hp (fun q hq => by cases hq; exact hn) h
  · exact k.enter s _ _ hnext hs hp (fun q hq => nomatch hq) h

/-- Every condition cause is one of these operations (R97). -/
theorem condition (hc : approachCondition s = some t) (h : P s) : P t := by
  have enter : ∀ {q p}, s.closure.phase = some q → q ≠ .tripped → p ≠ .tripped → P (enterApproach p none s) :=
    fun hq hne hp => k.enter s _ _ hp (by simpa [hq] using hne) (by simp [hq]) (fun _ hr => nomatch hr) h
  have halt : ∀ {q}, s.closure.phase = some q → q ≠ .tripped → HoldStage q → P (enterApproach .holding (some q) s) :=
    fun hq hne hh => k.enter s _ _ (by decide) (by simpa [hq] using hne) (by simp [hq]) (fun _ hr => by cases hr; exact hh) h
  have stage : ∀ {q n}, s.closure.phase = some q → q ≠ .tripped → HoldStage n → P (Machine.completeStage n s) :=
    fun hq hne hn => k.completeStage hn (by simpa [hq] using hne) (by simp [hq]) h
  unfold approachCondition at hc
  split at hc
  · rename_i hclosing
    exact of_some_eq hc (k.hold s (Bool.and_eq_true_iff.mp (Bool.and_eq_true_iff.mp hclosing).1).1 h)
  dsimp only at hc
  split at hc
  case h_1 => cases hc
  case h_2 hp =>
    split at hc
    · exact of_some_eq hc (k.enter _ _ _ (by decide) (by simp [hp]) (by simp [hp]) (fun _ hr => nomatch hr) (k.anew s hp h))
    · cases hc
  case h_3 => cases hc
  case h_4 hp =>
    split at hc
    · split at hc
      · exact of_some_eq hc (stage hp (by decide) (by simp [HoldStage]))
      · split at hc
        · exact of_some_eq hc (halt hp (by decide) (by simp [HoldStage]))
        · cases hc
    · cases hc
  case h_5 hp =>
    split at hc
    · exact of_some_eq hc (stage hp (by decide) (by simp [HoldStage]))
    · split at hc
      · exact of_some_eq hc (halt hp (by decide) (by simp [HoldStage]))
      · cases hc
  case h_6 hp =>
    split at hc
    · exact of_some_eq hc (halt hp (by decide) (by simp [HoldStage]))
    · cases hc
  case h_7 hp =>
    split at hc
    · exact of_some_eq hc (stage hp (by decide) (by simp [HoldStage]))
    · split at hc
      · exact of_some_eq hc (halt hp (by decide) (by simp [HoldStage]))
      · cases hc
  case h_8 hp =>
    split at hc
    · exact of_some_eq hc (enter hp (by decide) (by decide))
    · cases hc
  case h_9 hp =>
    split at hc
    · exact of_some_eq hc (enter hp (by decide) (by decide))
    · cases hc
  case h_10 hp =>
    split at hc
    · cases hc
    · split at hc
      · exact of_some_eq hc (k.resume s hp h)
      · split at hc
        · exact of_some_eq hc (enter hp (by decide) (by decide))
        · cases hc
  case h_11 => cases hc

theorem settle (n : Nat) : ∀ {t}, P t → P (approachSettle n t) := by
  induction n with
  | zero => exact fun h => h
  | succ n ih =>
    intro t h
    unfold approachSettle
    split
    · exact h
    · rename_i u hu
      exact ih (k.condition hu h)

theorem react (h : P s) : P (approachReact s) := k.settle 16 h

end KeptByApproach

/-! ### Condition causes of a channel -/

/-- A predicate that the operations of the channel's sequence keep. -/
structure KeptByChannel (P : State → Prop) : Prop where
  enter : ∀ t p, p ≠ .tripped → t.channel.phase ≠ some .tripped → t.channel.phase ≠ none → P t → P (enterChannel p t)
  fallback : ∀ t, t.channel.phase = some .openToVessels → P t → P (takeFallback t)

namespace KeptByChannel

variable {P : State → Prop} (k : KeptByChannel P) {s t : State}
include k

/-- Every condition cause is one of these operations (R154). -/
theorem condition (hc : channelCondition s = some t) (h : P s) : P t := by
  have enter : ∀ {p q : ChannelPhase}, s.channel.phase = some q → p ≠ .tripped → q ≠ .tripped → P (enterChannel p s) :=
    fun hq hp hne => k.enter s _ hp (by simpa [hq] using hne) (by simp [hq]) h
  unfold channelCondition at hc
  split at hc
  case h_1 => cases hc
  case h_2 hp =>
    split at hc
    · exact of_some_eq hc (enter hp (by decide) (by decide))
    · cases hc
  case h_3 hp =>
    split at hc
    · exact of_some_eq hc (enter hp (by decide) (by decide))
    · split at hc
      · exact of_some_eq hc (enter hp (by decide) (by decide))
      · cases hc
  case h_4 hp =>
    split at hc
    · exact of_some_eq hc (k.fallback s hp h)
    · split at hc
      · exact of_some_eq hc (enter hp (by decide) (by decide))
      · cases hc
  case h_5 => cases hc
  case h_6 => cases hc

theorem settle (n : Nat) : ∀ {t}, P t → P (channelSettle n t) := by
  induction n with
  | zero => exact fun h => h
  | succ n ih =>
    intro t h
    unfold channelSettle
    split
    · exact h
    · rename_i u hu
      exact ih (k.condition hu h)

theorem react (h : P s) : P (channelReact s) := k.settle 8 h

end KeptByChannel

end Sys2Proof.Machine
end

section
/-! PROOFS. The trip flag stays set exactly while the role's phase is TRIPPED (O8). -/

namespace Sys2Proof.Machine

/-! ### The link leaves the role blocks -/

theorem LinkOnly.aside {f : State → State} (h : LinkOnly f) (s : State) : (f s).aside = s.aside := by
  rw [h s]; rfl

@[simp] theorem onLine_aside (l : LinkLine) (f : LineUnit → LineUnit) (s : State) : (s.onLine l f).aside = s.aside := by
  cases l <;> rfl
@[simp] theorem enterGap_aside (l : LinkLine) (s : State) : (enterGap l s).aside = s.aside := (enterGap_linkOnly l).aside s
@[simp] theorem enterDelay_aside (l : LinkLine) (s : State) : (enterDelay l s).aside = s.aside :=
  (enterDelay_linkOnly l).aside s
@[simp] theorem startAttempt_aside (l : LinkLine) (s : State) : (startAttempt l s).aside = s.aside :=
  (startAttempt_linkOnly l).aside s
@[simp] theorem fillIfChanged_aside (l : LinkLine) (s : State) : (fillIfChanged l s).aside = s.aside :=
  (fillIfChanged_linkOnly l).aside s
@[simp] theorem fillSlot_aside (l : LinkLine) (s : State) : (fillSlot l s).aside = s.aside :=
  (fillSlot_linkOnly l).aside s
@[simp] theorem fillBoth_aside (s : State) : (fillBoth s).aside = s.aside := fillBoth_linkOnly.aside s
@[simp] theorem releaseLine_aside (l : LinkLine) (b : Bool) (s : State) : (releaseLine l b s).aside = s.aside :=
  onLine_aside _ _ _

@[simp] theorem publish_aside (before after : State) : (publish before after).aside = after.aside := by
  unfold publish
  dsimp only
  split
  · exact contentChanged_linkOnly.aside after
  · rfl

@[simp] theorem setHealth_aside (l : LinkLine) (h : Health) (x : Nat) (s : State) : (setHealth l h x s).aside = s.aside := by
  unfold setHealth
  dsimp only
  split <;> simp
@[simp] theorem validFrame_aside (l : LinkLine) (x : Nat) (s : State) : (validFrame l x s).aside = s.aside := by
  simp [validFrame]
@[simp] theorem healthExpiry_aside (l : LinkLine) (s : State) : (healthExpiry l s).aside = s.aside := by
  unfold healthExpiry
  split <;> simp
@[simp] theorem healthReact_aside (s : State) : (healthReact s).aside = s.aside := by
  unfold healthReact
  split <;> simp
@[simp] theorem peerReport_aside (j : Fin 12) (old : Freshness) (e : Entry) (s : State) :
    (peerReport j old e s).aside = s.aside := report_aside _ _ _ _ _ _ _

/-- The events of the transmitters. -/
def transmitterEvent : Instr → Bool
  | .spacingTimerExpiry _ | .refreshTimerExpiry _ | .idleGapMet _ | .deferral _ | .attemptStart _ | .collision _
  | .transmissionComplete _ => true
  | _ => false

theorem eventWork_transmitter_aside {c : Instr} {f : State → State} (h : eventWork c = some f)
    (hc : transmitterEvent c = true) (s : State) : (f s).aside = s.aside := by
  cases c <;> cases hc <;> cases h
  case spacingTimerExpiry l => unfold spacingExpiry; dsimp only; (repeat' split) <;> simp
  case refreshTimerExpiry l => unfold refreshExpiry; split <;> simp
  case idleGapMet l => unfold idleGap; dsimp only; (repeat' split) <;> simp
  case deferral l => exact onLine_aside _ _ _
  case attemptStart l => unfold delayExpiry; split <;> simp
  case collision p => unfold collide; dsimp only; (repeat' split) <;> simp
  case transmissionComplete l => unfold completeTransmission; split <;> simp

/-- The events of the corner's encoder and timers. -/
def cornerEvent : Instr → Bool
  | .encoderTransition _ _ | .deadTimeExpiry | .stallTimerExpiry | .boltTravelTimeout | .brakeTimerExpiry | .setCheckExpiry
  | .holdTimerExpiry => true
  | _ => false

theorem eventWork_cornerRun {c : Instr} {f : State → State} (h : eventWork c = some f) (hc : cornerEvent c = true)
    (s : State) : CornerRun s (f s) := by
  cases c <;> cases hc <;> cases h
  case encoderTransition a b => exact CornerRun.refl.encoderSample
  case deadTimeExpiry => exact CornerRun.refl.deadExpiry
  case stallTimerExpiry => exact CornerRun.refl.stallExpiry
  case boltTravelTimeout => exact CornerRun.refl.boltTimeout
  case brakeTimerExpiry => exact CornerRun.refl.brakeExpiry
  case setCheckExpiry => exact CornerRun.refl.setCheckExpiry
  case holdTimerExpiry => exact CornerRun.refl.holdExpiry

theorem aside_of_unchangedBut {l : List Block} {s t : State} (h : UnchangedBut l s t)
    (hl : ∀ b ∈ [Block.trip, .motion, .closure, .channel, .desk], b ∉ l) : t.aside = s.aside := by
  have htrip : t.trip = s.trip := h .trip (hl _ (by simp))
  have hmotion : t.motion = s.motion := h .motion (hl _ (by simp))
  have hclosure : t.closure = s.closure := h .closure (hl _ (by simp))
  have hchannel : t.channel = s.channel := h .channel (hl _ (by simp))
  have hdesk : t.desk = s.desk := h .desk (hl _ (by simp))
  rw [State.aside, htrip, hmotion, hclosure, hchannel, hdesk]
  rfl

/-! ### The flag and the phase -/

/-- The trip flag is that of the Motion Unit's phase. -/
def MotionUnit.Stands (m : MotionUnit) (flag : Bool) : Prop :=
  m.phase.isSome = true ∧ (flag = true ↔ m.phase = some .tripped)

/-- The trip flag is that of the Closure Unit's phase; a set flag stops its stage timers. -/
def ClosureUnit.Stands (c : ClosureUnit) (flag : Bool) : Prop :=
  c.phase.isSome = true ∧ (flag = true ↔ c.phase = some .tripped) ∧
    (flag = true → c.amberTimer = none ∧ c.redTimer = none ∧ c.deckClearTimer = none) ∧
    ∀ p, c.heldStage = some p → HoldStage p

/-- The trip flag is that of the Channel Unit's phase; a set flag stops its timer. -/
def ChannelUnit.Stands (c : ChannelUnit) (flag : Bool) : Prop :=
  c.phase.isSome = true ∧ (flag = true ↔ c.phase = some .tripped) ∧ (flag = true → c.clearingTimer = none)

/-- The trip flag is that of the Desk Unit's phase. -/
def DeskUnit.Stands (d : DeskUnit) (flag : Bool) : Prop :=
  d.phase.isSome = true ∧ (flag = true ↔ d.phase = some .tripped)

/-- The trip flag stands with the role's phase. -/
structure State.Stands (s : State) : Prop where
  config : s.running = false → s.trip.flag = false
  corner : s.running = true → s.role = .corner → s.motion.Stands s.trip.flag
  approach : s.running = true → s.role = .approach → s.closure.Stands s.trip.flag
  channel : s.running = true → s.role = .channel → s.channel.Stands s.trip.flag
  desk : s.running = true → s.role = .desk → s.desk.Stands s.trip.flag

theorem tripFlagIsPhase_iff (s : State) : TripFlagIsPhase s ↔ s.Stands := by
  cases hrun : s.running with
  | false =>
    simp only [TripFlagIsPhase, hrun, if_true]
    exact ⟨fun h => ⟨fun _ => h, by simp [hrun], by simp [hrun], by simp [hrun], by simp [hrun]⟩, fun h => h.config hrun⟩
  | true =>
    simp only [TripFlagIsPhase, hrun, Bool.true_eq_false, if_false]
    constructor
    · intro h
      cases hrole : s.role <;> rw [hrole] at h <;>
        constructor <;> simp_all [MotionUnit.Stands, ClosureUnit.Stands, ChannelUnit.Stands, DeskUnit.Stands, HoldStage]
    · intro h
      split
      · exact h.corner hrun ‹_›
      · exact h.approach hrun ‹_›
      · exact h.channel hrun ‹_›
      · exact h.desk hrun ‹_›

theorem stands_of_corner {s : State} (hrun : s.running = true) (hrole : s.role = .corner)
    (h : s.motion.Stands s.trip.flag) : s.Stands := by
  constructor <;> simp_all
theorem stands_of_approach {s : State} (hrun : s.running = true) (hrole : s.role = .approach)
    (h : s.closure.Stands s.trip.flag) : s.Stands := by
  constructor <;> simp_all
theorem stands_of_channel {s : State} (hrun : s.running = true) (hrole : s.role = .channel)
    (h : s.channel.Stands s.trip.flag) : s.Stands := by
  constructor <;> simp_all
theorem stands_of_desk {s : State} (hrun : s.running = true) (hrole : s.role = .desk)
    (h : s.desk.Stands s.trip.flag) : s.Stands := by
  constructor <;> simp_all

theorem role_of_frame {s t : State} (h : t.fixed.frame = s.fixed.frame) : t.role = s.role := by
  have hs : t.straps = s.straps := congrArg (·.2.1) h
  rw [State.role, hs]
  rfl
theorem running_of_frame {s t : State} (h : t.fixed.frame = s.fixed.frame) : t.running = s.running := congrArg (·.1) h
theorem frame_of_fixed {s t : State} (h : t.fixed = s.fixed) : t.fixed.frame = s.fixed.frame := congrArg Fixed.frame h

namespace State.Stands

variable {s t : State}

/-- The trip flag stands with the phase behind a change of a unit that lets it stand. -/
theorem write (h : s.Stands) (hf : t.fixed.frame = s.fixed.frame) (hflag : t.trip.flag = s.trip.flag)
    (hm : s.motion.Stands s.trip.flag → t.motion.Stands s.trip.flag)
    (hc : s.closure.Stands s.trip.flag → t.closure.Stands s.trip.flag)
    (hch : s.channel.Stands s.trip.flag → t.channel.Stands s.trip.flag)
    (hd : s.desk.Stands s.trip.flag → t.desk.Stands s.trip.flag) : t.Stands := by
  have hrun := running_of_frame hf
  have hrole := role_of_frame hf
  constructor <;> rw [hflag, hrun]
  · exact h.config
  · exact fun h1 h2 => hm (h.corner h1 (hrole ▸ h2))
  · exact fun h1 h2 => hc (h.approach h1 (hrole ▸ h2))
  · exact fun h1 h2 => hch (h.channel h1 (hrole ▸ h2))
  · exact fun h1 h2 => hd (h.desk h1 (hrole ▸ h2))

theorem congr (h : s.Stands) (ha : t.aside = s.aside) (hf : t.fixed.frame = s.fixed.frame) : t.Stands := by
  simp only [State.aside, Prod.mk.injEq] at ha
  obtain ⟨htrip, hm, hc, hch, hd⟩ := ha
  exact h.write hf (by rw [htrip]) (by rw [hm]; exact id) (by rw [hc]; exact id) (by rw [hch]; exact id)
    (by rw [hd]; exact id)

theorem arms (h : s.Stands) (ha : t.besideArms = s.besideArms) (hf : t.fixed = s.fixed) : t.Stands := by
  simp only [State.besideArms, Prod.mk.injEq, ClosureUnit.mk.injEq] at ha
  obtain ⟨htrip, hm, ⟨hp, hheld, -, -, hamber, hred, hdeck, -, -⟩, hch, hd⟩ := ha
  exact h.write (frame_of_fixed hf) (by rw [htrip]) (by rw [hm]; exact id)
    (by unfold ClosureUnit.Stands; rw [hp, hheld, hamber, hred, hdeck]; exact id) (by rw [hch]; exact id)
    (by rw [hd]; exact id)

theorem arm (h : s.Stands) (i : Fin 4) (ha : t.besideArm i = s.besideArm i) (hf : t.fixed = s.fixed) : t.Stands :=
  h.arms (besideArms_of_besideArm ha) hf

/-! ### Entries -/

theorem untripped_of_corner (h : s.Stands) (hrun : s.running = true) (hrole : s.role = .corner)
    (hp : s.motion.phase ≠ some .tripped) : s.trip.flag = false := by
  cases hf : s.trip.flag with
  | false => rfl
  | true => exact absurd ((h.corner hrun hrole).2.mp hf) hp
theorem untripped_of_approach (h : s.Stands) (hrun : s.running = true) (hrole : s.role = .approach)
    (hp : s.closure.phase ≠ some .tripped) : s.trip.flag = false := by
  cases hf : s.trip.flag with
  | false => rfl
  | true => exact absurd ((h.approach hrun hrole).2.1.mp hf) hp
theorem untripped_of_channel (h : s.Stands) (hrun : s.running = true) (hrole : s.role = .channel)
    (hp : s.channel.phase ≠ some .tripped) : s.trip.flag = false := by
  cases hf : s.trip.flag with
  | false => rfl
  | true => exact absurd ((h.channel hrun hrole).2.1.mp hf) hp

end State.Stands

theorem enterCorner_trip (p : CornerPhase) (rel : Intent) (s : State) : (enterCorner p rel s).trip = s.trip :=
  congrArg (·.1) (enterCorner_besideMotion p rel s)

/-- An entered corner phase stands with the flag. -/
theorem enterCorner_stands {s : State} {p : CornerPhase} (rel : Intent) (hrun : s.running = true) (hrole : s.role = .corner)
    (hp : s.trip.flag = true ↔ p = .tripped) : (enterCorner p rel s).Stands := by
  have hf : (enterCorner p rel s).fixed.frame = s.fixed.frame := frame_of_fixed (enterCorner_fixed p rel s)
  refine stands_of_corner ((running_of_frame hf).trans hrun) ((role_of_frame hf).trans hrole) ?_
  simp [MotionUnit.Stands, enterCorner_trip, enterCorner_phase, hp]

/-- An entered approach phase stands with the flag. -/
theorem enterApproach_stands {s : State} {p : ApproachPhase} {held : Option ApproachPhase} (hrun : s.running = true)
    (hrole : s.role = .approach) (hp : s.trip.flag = true ↔ p = .tripped) (hheld : ∀ q, held = some q → HoldStage q) :
    (enterApproach p held s).Stands := by
  have hf : (enterApproach p held s).fixed.frame = s.fixed.frame := frame_of_fixed (enterApproach_fixed p held s)
  refine stands_of_approach ((running_of_frame hf).trans hrun) ((role_of_frame hf).trans hrole) ?_
  refine ⟨by simp [enterApproach_phase], by simp [enterApproach_trip, enterApproach_phase, hp], fun h => ?_, fun q hq => ?_⟩
  · rw [enterApproach_trip] at h
    obtain rfl := hp.mp h
    exact enterApproach_tripped_timers held s
  · rw [enterApproach_heldStage] at hq
    split at hq
    · exact hheld q hq
    · cases hq

/-- An entered channel phase stands with the flag. -/
theorem enterChannel_stands {s : State} {p : ChannelPhase} (hrun : s.running = true) (hrole : s.role = .channel)
    (hp : s.trip.flag = true ↔ p = .tripped) : (enterChannel p s).Stands := by
  have hf : (enterChannel p s).fixed.frame = s.fixed.frame := frame_of_fixed (enterChannel_fixed p s)
  have ha := enterChannel_aside p s
  simp only [State.aside, Prod.mk.injEq] at ha
  obtain ⟨htrip, -, -, hch, -⟩ := ha
  refine stands_of_channel ((running_of_frame hf).trans hrun) ((role_of_frame hf).trans hrole) ?_
  rw [htrip, hch]
  refine ⟨rfl, by simp [hp], fun h => ?_⟩
  obtain rfl := hp.mp h
  simp

/-- An entered desk phase stands with the flag. -/
theorem enterDesk_stands {s : State} {p : DeskPhase} (d : Demand) (hrun : s.running = true) (hrole : s.role = .desk)
    (hp : s.trip.flag = true ↔ p = .tripped) : (enterDesk p d s).Stands := by
  have hf : (enterDesk p d s).fixed.frame = s.fixed.frame := frame_of_fixed (enterDesk_fixed p d s)
  have ha := enterDesk_aside p d s
  simp only [State.aside, Prod.mk.injEq] at ha
  obtain ⟨htrip, -, -, -, hd⟩ := ha
  refine stands_of_desk ((running_of_frame hf).trans hrun) ((role_of_frame hf).trans hrole) ?_
  simp [DeskUnit.Stands, htrip, hd, hp]

namespace State.Stands

variable {s t : State}

theorem deskIndicators (h : s.Stands) : (deskIndicators s).Stands :=
  h.congr (deskIndicators_aside s) (frame_of_fixed (deskIndicators_fixed s))

/-- At a tripped station TRIPPED is entered. -/
theorem enterTripped (hrun : s.running = true) (hflag : s.trip.flag = true) : (enterTripped s).Stands := by
  unfold Machine.enterTripped
  split
  · exact enterCorner_stands _ hrun ‹_› (by simp [hflag])
  · exact enterApproach_stands hrun ‹_› (by simp [hflag]) (fun _ hq => nomatch hq)
  · exact enterChannel_stands hrun ‹_› (by simp [hflag])
  · exact (enterDesk_stands _ hrun ‹_› (by simp [hflag])).deskIndicators

theorem submitCause (h : s.Stands) (c : Cause) : (submitCause c s).Stands := by
  rcases submitCause_cases c s with ⟨-, hc⟩ | ⟨-, hflag, trip, htrip, ha, -⟩ | ⟨hrun, -, t, ht, ha, -, hf⟩
  · rwa [hc]
  · simp only [State.aside, Prod.mk.injEq] at ha
    obtain ⟨hteq, hm, hc, hch, hd⟩ := ha
    exact h.write (frame_of_fixed (submitCause_fixed c s)) (by rw [hteq, htrip, hflag]) (by rw [hm]; exact id)
      (by rw [hc]; exact id) (by rw [hch]; exact id) (by rw [hd]; exact id)
  · rw [ht]
    have htrip : t.trip = { s.trip with flag := true, causes := [c] } := congrArg (·.1) ha
    exact enterTripped ((running_of_fixed hf).trans hrun) (by rw [htrip])

theorem submitIf (h : s.Stands) (b : Bool) (c : Cause) : (submitIf b c s).Stands := by
  unfold Machine.submitIf
  split
  · exact h.submitCause c
  · exact h

/-! ### The sequences of the roles -/

theorem keptByCorner : KeptByCorner State.Stands where
  motion _ f hf h := h.write rfl rfl (by simp [MotionUnit.Stands, hf]) id id id
  latch _ _ h := h.congr rfl rfl
  enter t p rel hp ht h := by
    have hb := enterCorner_besideMotion p rel t
    simp only [State.besideMotion, Prod.mk.injEq] at hb
    obtain ⟨htrip, hc, hch, hd, -⟩ := hb
    by_cases hr : t.running = true ∧ t.role = .corner
    · obtain ⟨hrun, hrole⟩ := hr
      exact enterCorner_stands rel hrun hrole (by simp [h.untripped_of_corner hrun hrole ht, hp])
    · have hf : (enterCorner p rel t).fixed.frame = t.fixed.frame := frame_of_fixed (enterCorner_fixed p rel t)
      have hrun := running_of_frame hf
      have hrole := role_of_frame hf
      constructor <;> rw [htrip, hrun]
      · exact h.config
      · exact fun h1 h2 => absurd ⟨h1, hrole ▸ h2⟩ hr
      · exact fun h1 h2 => hc ▸ h.approach h1 (hrole ▸ h2)
      · exact fun h1 h2 => hch ▸ h.channel h1 (hrole ▸ h2)
      · exact fun h1 h2 => hd ▸ h.desk h1 (hrole ▸ h2)
  cause _ c h := h.submitCause c

theorem ofRun (h : s.Stands) (hr : CornerRun s t) : t.Stands := keptByCorner.run hr h

/-- An entry of an approach keeps the flag with the phase where it is no TRIPPED and does not leave it. -/
theorem enterApproach (h : s.Stands) {p : ApproachPhase} {held : Option ApproachPhase}
    (hp : s.running = true → s.role = .approach → p ≠ .tripped ∧ s.trip.flag = false)
    (hheld : ∀ q, held = some q → HoldStage q) : (enterApproach p held s).Stands := by
  by_cases hr : s.running = true ∧ s.role = .approach
  · obtain ⟨hrun, hrole⟩ := hr
    obtain ⟨hne, hflag⟩ := hp hrun hrole
    exact enterApproach_stands hrun hrole (by simp [hne, hflag]) hheld
  · have hf : (Machine.enterApproach p held s).fixed.frame = s.fixed.frame := frame_of_fixed (enterApproach_fixed p held s)
    have hrun := running_of_frame hf
    have hrole := role_of_frame hf
    constructor <;> rw [enterApproach_trip, hrun]
    · exact h.config
    · exact fun h1 h2 => enterApproach_motion p held s ▸ h.corner h1 (hrole ▸ h2)
    · exact fun h1 h2 => absurd ⟨h1, hrole ▸ h2⟩ hr
    · exact fun h1 h2 => enterApproach_channel p held s ▸ h.channel h1 (hrole ▸ h2)
    · exact fun h1 h2 => enterApproach_desk p held s ▸ h.desk h1 (hrole ▸ h2)

theorem holdStage_ne {p : ApproachPhase} (h : HoldStage p) : p ≠ .tripped := by
  rintro rfl
  simp [HoldStage] at h

theorem keptByApproach : KeptByApproach State.Stands where
  hold t _ h := by
    have h1 : (t.onClosure fun c => { c with holdPending := true }).Stands := h.write rfl rfl id id id id
    unfold setHold
    dsimp only
    split
    · exact h1.arms (commandArms_besideArms _ _ _) (commandArms_fixed _ _ _)
    · exact h1
  enter t p held hp ht _ hheld h := h.enterApproach (fun hrun hrole => ⟨hp, h.untripped_of_approach hrun hrole ht⟩) hheld
  resume t hp h := by
    refine h.enterApproach (fun hrun hrole => ⟨?_, h.untripped_of_approach hrun hrole (by simp [hp])⟩) (fun _ hq => nomatch hq)
    obtain ⟨-, -, -, hheld⟩ := h.approach hrun hrole
    cases hs : t.closure.heldStage with
    | none => simp
    | some q => simpa using holdStage_ne (hheld q hs)
  anew t _ h := h.arms (newClosure_besideArms t) (newClosure_fixed t)

theorem approachReact (h : s.Stands) : (approachReact s).Stands := keptByApproach.react h

theorem enterChannel (h : s.Stands) {p : ChannelPhase}
    (hp : s.running = true → s.role = .channel → p ≠ .tripped ∧ s.trip.flag = false) : (enterChannel p s).Stands := by
  have ha := enterChannel_aside p s
  simp only [State.aside, Prod.mk.injEq] at ha
  obtain ⟨htrip, hm, hc, -, hd⟩ := ha
  by_cases hr : s.running = true ∧ s.role = .channel
  · obtain ⟨hrun, hrole⟩ := hr
    obtain ⟨hne, hflag⟩ := hp hrun hrole
    exact enterChannel_stands hrun hrole (by simp [hne, hflag])
  · have hf : (Machine.enterChannel p s).fixed.frame = s.fixed.frame := frame_of_fixed (enterChannel_fixed p s)
    have hrun := running_of_frame hf
    have hrole := role_of_frame hf
    constructor <;> rw [htrip, hrun]
    · exact h.config
    · exact fun h1 h2 => hm ▸ h.corner h1 (hrole ▸ h2)
    · exact fun h1 h2 => hc ▸ h.approach h1 (hrole ▸ h2)
    · exact fun h1 h2 => absurd ⟨h1, hrole ▸ h2⟩ hr
    · exact fun h1 h2 => hd ▸ h.desk h1 (hrole ▸ h2)

theorem keptByChannel : KeptByChannel State.Stands where
  enter t p hp ht _ h := h.enterChannel fun hrun hrole => ⟨hp, h.untripped_of_channel hrun hrole ht⟩
  fallback t _ h := by
    have ha := takeFallback_aside t
    simp only [State.aside, Prod.mk.injEq] at ha
    obtain ⟨htrip, hm, hc, hch, hd⟩ := ha
    exact h.write (frame_of_fixed (takeFallback_fixed t)) (by rw [htrip]) (by rw [hm]; exact id) (by rw [hc]; exact id)
      (by rw [hch]; exact id) (by rw [hd]; exact id)

theorem channelReact (h : s.Stands) : (channelReact s).Stands := keptByChannel.react h

theorem roleReact (h : s.Stands) : (roleReact s).Stands := by
  unfold Machine.roleReact
  (repeat' split)
  · exact h.ofRun CornerRun.refl.cornerReact
  · exact h.approachReact
  · exact h.channelReact
  · exact h.deskIndicators
  · exact h

theorem lampReact (h : s.Stands) : (lampReact s).Stands := by
  unfold Machine.lampReact
  (repeat' split)
  · exact h.approachReact
  · exact h.channelReact
  · exact h
  · exact h
  · exact h

end State.Stands

end Sys2Proof.Machine
end

section
/-! PROOFS. Every command keeps the trip flag with the phase (O8): the clear of a trip, the accepted RUN order, the events and the
orders. -/

namespace Sys2Proof.Machine

theorem clearedHeldStage_holdStage (s : State) : HoldStage (clearedHeldStage s) := by
  unfold clearedHeldStage
  (repeat' split) <;> simp [HoldStage]

namespace State.Stands

variable {s t : State}

/-! ### The clear of a trip -/

/-- With the flag cleared the role leaves TRIPPED. -/
theorem leaveTripped (hrun : s.running = true) (hflag : s.trip.flag = false) : (leaveTripped s).Stands := by
  unfold Machine.leaveTripped
  split
  · have h : (enterCorner (clearedCornerPhase s) .none s).Stands :=
      enterCorner_stands _ hrun ‹_› (by simp [hflag, CornerRun.clearedCornerPhase_ne])
    exact h.ofRun (CornerRun.afterEntry (CornerRun.clearedCornerPhase_ne s) .none s).cornerReact
  · exact (enterApproach_stands hrun ‹_› (by simp [hflag])
      (fun q hq => by cases hq; exact clearedHeldStage_holdStage s)).approachReact
  · exact (enterChannel_stands hrun ‹_› (by simp [hflag])).channelReact
  · refine deskIndicators ?_
    split
    · exact enterDesk_stands _ hrun ‹_› (by simp [hflag])
    · exact enterDesk_stands _ hrun ‹_› (by simp [hflag])

theorem acceptClear (source : Nat) (hrun : s.running = true) : (acceptClear source s).Stands := by
  unfold Machine.acceptClear
  refine leaveTripped ((running_of_fixed (report_fixed _ _ _ _ _ _ _)).trans hrun) ?_
  rw [report_trip]
  rfl

/-- A clear is accepted with the flag set alone. -/
theorem running_of_accepted (h : s.Stands) (hd : s.decideClear = .accepted) : s.running = true := by
  unfold State.decideClear at hd
  split at hd
  · cases hd
  · rename_i hflag
    cases hrun : s.running with
    | true => rfl
    | false => exact absurd (h.config hrun) hflag

theorem clearAttempt (h : s.Stands) (source : Nat) : (clearAttempt source s).Stands := by
  unfold Machine.clearAttempt
  split
  · exact acceptClear source (h.running_of_accepted ‹_›)
  · exact h
  · exact h

theorem clearPress (h : s.Stands) : (clearPress s).Stands :=
  clearAttempt (s := s.onDesk fun k => { k with clearCount := (k.clearCount + 1) % 16 })
    (h.write rfl rfl id id id fun hd => hd) _

/-! ### Frames and the peer table -/

theorem acceptFrame (h : s.Stands) (line : LinkLine) (j : Fin 12) (f : Frame) : (acceptFrame line j f s).Stands := by
  unfold Machine.acceptFrame
  split
  · exact h
  · extract_lets digestOk oldDigestOk oldContent e1 s1 s2 changed s3 s4 newContent s5
    have h2 : s2.Stands := by
      dsimp only [s2]
      split <;> exact h.congr rfl rfl
    have h3 : s3.Stands := by
      dsimp only [s3]
      split
      · exact h2.congr (peerReport_aside _ _ _ _) (frame_of_fixed (peerReport_fixed _ _ _ _))
      · exact h2
    have h4 : s4.Stands := by
      dsimp only [s4]
      split
      · exact h3.clearAttempt _
      · exact h3
    have h5 : s5.Stands := by
      dsimp only [s5]
      split
      · exact h4.submitIf _ _
      · exact h4
    split
    · exact h5.roleReact
    · exact h5

theorem ownNumberFrame (h : s.Stands) : (ownNumberFrame s).Stands := by
  unfold Machine.ownNumberFrame
  refine submitCause ?_ _
  exact h.congr rfl rfl

theorem checkFrame (h : s.Stands) (line : LinkLine) (f : Frame) : (checkFrame line f s).Stands := by
  unfold Machine.checkFrame
  (repeat' split)
  · exact h.ownNumberFrame
  · exact h.congr rfl rfl
  · exact h.congr rfl rfl
  · exact h.acceptFrame _ _ _
  · exact h

theorem onLine (h : s.Stands) (l : LinkLine) (f : LineUnit → LineUnit) : (s.onLine l f).Stands :=
  h.congr (onLine_aside l f s) (Fixed.frame_of_setup (onLine_setup l f s))

theorem healthReact (h : s.Stands) : (healthReact s).Stands :=
  h.congr (healthReact_aside s) (frame_of_fixed (healthReact_fixed s))

theorem receiveFrame (h : s.Stands) (line : LinkLine) (levels : List Bool) : (receiveFrame line levels s).Stands := by
  unfold Machine.receiveFrame Machine.takeFrame
  dsimp only
  (repeat' split)
  · exact h
  · exact h.onLine _ _
  · exact h.onLine _ _
  · exact (healthReact ((h.onLine _ _).congr (validFrame_aside _ _ _)
      (Fixed.frame_of_setup (validFrame_setup _ _ _)))).checkFrame _ _

theorem peerReport (h : s.Stands) (j : Fin 12) (old : Freshness) (e : Entry) : (peerReport j old e s).Stands :=
  h.congr (peerReport_aside j old e s) (frame_of_fixed (peerReport_fixed j old e s))

theorem latch (h : s.Stands) (c : Condition) : (latch c s).Stands := h.congr rfl rfl

theorem setPeer (h : s.Stands) (j : Fin 12) (e : Option Entry) : (s.setPeer j e).Stands := h.congr rfl rfl

theorem staleExpiry (h : s.Stands) (j : Fin 12) : (staleExpiry j s).Stands := by
  unfold Machine.staleExpiry
  split
  · exact h
  · split
    · exact (submitIf (((h.setPeer _ _).peerReport _ _ _).latch _) _ _).roleReact
    · exact h

theorem lostExpiry (h : s.Stands) (j : Fin 12) : (lostExpiry j s).Stands := by
  unfold Machine.lostExpiry
  split
  · exact h
  · split
    · exact (((h.setPeer _ _).peerReport _ _ _).latch _).roleReact
    · exact h

theorem seenExpiry (h : s.Stands) (j : Fin 12) (line : LinkLine) : (seenExpiry j line s).Stands := by
  unfold Machine.seenExpiry
  (repeat' split) <;> exact h.congr rfl rfl

/-! ### Inputs -/

/-- A write to the Closure Unit that keeps phase and held stage, and no stage timer of a tripped approach. -/
theorem onClosure (h : s.Stands) {f : ClosureUnit → ClosureUnit} (hp : (f s.closure).phase = s.closure.phase)
    (hheld : (f s.closure).heldStage = s.closure.heldStage)
    (ht : s.closure.phase = some .tripped → s.closure.amberTimer = none ∧ s.closure.redTimer = none ∧
      s.closure.deckClearTimer = none →
      (f s.closure).amberTimer = none ∧ (f s.closure).redTimer = none ∧ (f s.closure).deckClearTimer = none) :
    (s.onClosure f).Stands := by
  refine h.write rfl rfl id (fun hc => ?_) id id
  obtain ⟨hsome, hiff, htimers, hstage⟩ := hc
  refine ⟨by rw [State.onClosure_closure, hp]; exact hsome, by rw [State.onClosure_closure, hp]; exact hiff,
    fun hflag => ht (hiff.mp hflag) (htimers hflag), by rw [State.onClosure_closure, hheld]; exact hstage⟩

theorem followDeck (h : s.Stands) (old : Bool) : (followDeck old s).Stands := by
  unfold Machine.followDeck
  split
  · rename_i hc
    have hp : s.closure.phase = some .deckClearing := by simpa [State.approachIs] using (Bool.and_eq_true_iff.mp hc).1
    exact h.onClosure rfl rfl (fun ht => by simp [hp] at ht)
  · exact h

theorem testVesselAlert (h : s.Stands) : (testVesselAlert s).Stands := by
  have hf : (Machine.testVesselAlert s).fixed.frame = s.fixed.frame := frame_of_fixed (testVesselAlert_fixed s)
  have ha := testVesselAlert_aside s
  simp only [State.aside, Prod.mk.injEq] at ha
  obtain ⟨htrip, hm, hc, hch, hd⟩ := ha
  exact h.write hf (by rw [htrip]) (by rw [hm]; exact id) (by rw [hc]; exact id)
    (by rw [hch]; exact id) (by rw [hd]; exact id)

theorem vesselEvent (h : s.Stands) (active : Bool) : (vesselEvent active s).Stands := by
  unfold Machine.vesselEvent
  dsimp only
  refine channelReact (testVesselAlert ?_)
  split
  · rename_i hp
    rw [State.channelIs, beq_iff_eq] at hp
    exact h.write rfl rfl id id (fun hc => ⟨hc.1, hc.2.1, fun hflag =>
      absurd (hc.2.1.mp hflag) (by simp [hp])⟩) id
  · exact h

theorem keyEvent (h : s.Stands) (active : Bool) : (keyEvent active s).Stands := by
  have hflag : s.running = true → s.role = .desk → s.desk.phase ≠ some .tripped → s.trip.flag = false :=
    fun hrun hrole hp => by
      cases hf : s.trip.flag with
      | false => rfl
      | true => exact absurd ((h.desk hrun hrole).2.mp hf) hp
  have enter : ∀ p d, p ≠ .tripped → s.desk.phase ≠ some .tripped → (enterDesk p d s).Stands := fun p d hp hs => by
    have ha := enterDesk_aside p d s
    simp only [State.aside, Prod.mk.injEq] at ha
    obtain ⟨htrip, hm, hc, hch, hd⟩ := ha
    by_cases hr : s.running = true ∧ s.role = .desk
    · obtain ⟨hrun, hrole⟩ := hr
      exact enterDesk_stands d hrun hrole (by simp [hflag hrun hrole hs, hp])
    · have hf : (enterDesk p d s).fixed.frame = s.fixed.frame := frame_of_fixed (enterDesk_fixed p d s)
      have hrun := running_of_frame hf
      have hrole := role_of_frame hf
      constructor <;> rw [htrip, hrun]
      · exact h.config
      · exact fun h1 h2 => hm ▸ h.corner h1 (hrole ▸ h2)
      · exact fun h1 h2 => hc ▸ h.approach h1 (hrole ▸ h2)
      · exact fun h1 h2 => hch ▸ h.channel h1 (hrole ▸ h2)
      · exact fun h1 h2 => absurd ⟨h1, hrole ▸ h2⟩ hr
  unfold Machine.keyEvent
  split
  · rename_i hc
    have hp : s.desk.phase = some .active := by simpa [State.deskIs] using (Bool.and_eq_true_iff.mp hc).1
    exact (enter _ _ (by decide) (by simp [hp])).deskIndicators
  · split
    · rename_i hc
      have hp : s.desk.phase = some .inactive := by simpa [State.deskIs] using (Bool.and_eq_true_iff.mp hc).1
      exact (enter _ _ (by decide) (by simp [hp])).deskIndicators
    · exact h.deskIndicators

theorem setDemand (h : s.Stands) (d : Demand) : (setDemand d s).Stands := by
  refine deskIndicators (s := s.onDesk fun k => { k with heldDemand := d }) (h.write rfl rfl id id id ?_)
  exact id

theorem demandPress (h : s.Stands) (d : Demand) : (demandPress d s).Stands := by
  unfold Machine.demandPress
  split
  · exact h.setDemand d
  · exact h

theorem deliverInput (h : s.Stands) (i : Fin 25) (active : Bool) (before : State) :
    (deliverInput i active before s).Stands := by
  unfold Machine.deliverInput
  split
  · exact h.ofRun CornerRun.refl.deliverCorner
  · unfold deliverApproach
    (repeat' split)
    · exact (h.arm _ (patternEvent_besideArm _ _ _) (patternEvent_fixed _ _ _)).approachReact
    · exact ((h.arm _ (presenceEvent_besideArm _ _ _) (presenceEvent_fixed _ _ _)).followDeck _).approachReact
    · exact (h.followDeck _).approachReact
    · exact h
  · unfold deliverChannel
    split
    · exact h.vesselEvent active
    · exact h
  · unfold deliverDesk
    (repeat' split)
    · exact h.demandPress _
    · exact h
    · exact h.demandPress _
    · exact h
    · exact h.demandPress _
    · exact h
    · exact h.clearPress
    · exact h
    · exact h.keyEvent active
    · exact h

theorem filterExpiry (h : s.Stands) (i : Fin 25) : (filterExpiry i s).Stands := by
  unfold Machine.filterExpiry
  extract_lets x s1 s2
  have h1 : s1.Stands := h.congr rfl rfl
  have h2 : s2.Stands := by
    dsimp only [s2]
    split
    · exact h1.congr (report_aside _ _ _ _ _ _ _) (frame_of_fixed (report_fixed _ _ _ _ _ _ _))
    · exact h1
  (repeat' split)
  · exact h1
  · exact h2.deliverInput i _ s
  · exact h

theorem estopExpiry (h : s.Stands) : (estopExpiry s).Stands := by
  unfold Machine.estopExpiry
  split
  · refine submitIf (s := s.onTrip _) (h.write rfl rfl id id id id) _ _
  · exact h

/-! ### Timers of an approach and a channel -/

/-- At an approach no stage timer runs in TRIPPED. -/
theorem completeStage (h : s.Stands) {next : ApproachPhase} (hn : HoldStage next)
    (ht : s.closure.amberTimer.isSome = true ∨ s.closure.redTimer.isSome = true ∨
      s.closure.deckClearTimer.isSome = true) : (completeStage next s).Stands := by
  have hflag : s.running = true → s.role = .approach → s.trip.flag = false := fun hrun hrole => by
    cases hf : s.trip.flag with
    | false => rfl
    | true =>
      obtain ⟨-, -, htimers, -⟩ := h.approach hrun hrole
      obtain ⟨hamber, hred, hdeck⟩ := htimers hf
      simp [hamber, hred, hdeck] at ht
  unfold Machine.completeStage
  split
  · exact h.enterApproach (fun hrun hrole => ⟨by decide, hflag hrun hrole⟩) (fun q hq => by cases hq; exact hn)
  · exact h.enterApproach (fun hrun hrole => ⟨holdStage_ne hn, hflag hrun hrole⟩) (fun _ hq => nomatch hq)

theorem redExpiry (h : s.Stands) : (redExpiry s).Stands := by
  unfold Machine.redExpiry
  split
  · rename_i ht
    split
    · exact (h.completeStage (by simp [HoldStage]) (.inr (.inl ht))).approachReact
    · have h1 : (Machine.latch .stopSignalFailed s).Stands := h.congr rfl rfl
      extract_lets s1
      split
      · have hc : (Machine.enterApproach .holding (some .redClearance) s1).Stands := by
          refine h1.enterApproach (fun hrun hrole => ⟨by decide, ?_⟩) (fun q hq => by cases hq; simp [HoldStage])
          cases hf : s1.trip.flag with
          | false => rfl
          | true =>
            obtain ⟨-, -, htimers, -⟩ := h1.approach hrun hrole
            obtain ⟨-, hred, -⟩ := htimers hf
            have hred : s.closure.redTimer = none := hred
            simp [hred] at ht
        exact hc.approachReact
      · exact approachReact (h1.onClosure rfl rfl (fun _ ht => ⟨ht.1, rfl, ht.2.2⟩))
  · exact h

theorem clearingExpiry (h : s.Stands) : (clearingExpiry s).Stands := by
  unfold Machine.clearingExpiry
  split
  · rename_i ht
    refine channelReact (h.enterChannel fun hrun hrole => ⟨by decide, ?_⟩)
    cases hf : s.trip.flag with
    | false => rfl
    | true =>
      obtain ⟨-, -, htimer⟩ := h.channel hrun hrole
      simp [htimer hf] at ht
  · exact h

/-! ### Events and orders -/

theorem timeTick (h : s.Stands) : (timeTick s).Stands := by
  refine submitIf (s := { s with time := s.time + 1, peers := s.peers.map fun e => e.map Entry.grow }) ?_ _ _
  exact h.congr rfl rfl

theorem event {c : Instr} {f : State → State} (hf : eventWork c = some f) (h : s.Stands) : (f s).Stands := by
  have lamp : ∀ {t : State}, t.aside = s.aside → t.fixed = s.fixed → (Machine.lampReact t).Stands := fun ha ht =>
    (h.congr ha (frame_of_fixed ht)).lampReact
  have table (ht : transmitterEvent c = false) (hc : cornerEvent c = false) : (f s).Stands := by
    cases c <;> cases ht <;> cases hc <;> cases hf
    case frameReceived line levels => exact h.receiveFrame line levels
    case staleTimerExpiry j => exact h.staleExpiry j
    case lostTimerExpiry j => exact h.lostExpiry j
    case seenTimerExpiry j line => exact h.seenExpiry j line
    case duplicateTimerExpiry => exact h.congr rfl rfl
    case stationTimeTick => exact h.timeTick
    case healthTimerExpiry l =>
      exact (h.congr (healthExpiry_aside l s)
        (Fixed.frame_of_setup (Fixed.setup_of_unlinked (healthExpiry_unlinked l s)))).healthReact
    case inputRawChange i active => unfold sampleInput; dsimp only; split <;> exact h.congr rfl rfl
    case filterTimerExpiry i => exact h.filterExpiry i
    case estopRawChange active => unfold sampleEstop; split; exacts [h, h.write rfl rfl id id id id]
    case estopEvent => exact h.estopExpiry
    case amberTimerExpiry =>
      unfold amberExpiry
      split
      · exact (h.completeStage (by simp [HoldStage]) (.inl ‹_›)).approachReact
      · exact h
    case redClearanceExpiry => exact h.redExpiry
    case deckClearExpiry =>
      unfold deckClearExpiry
      split
      · exact (h.completeStage (by simp [HoldStage]) (.inr (.inr ‹_›))).approachReact
      · exact h
    case deckLimitExpiry =>
      unfold deckLimitExpiry
      split
      · exact congr (s := s.onClosure fun c => { c with deckLimitTimer := none })
          (h.onClosure rfl rfl (fun _ ht => ht)) rfl rfl
      · exact h
    case gapTimerExpiry i => exact h.arm i (gapExpiry_besideArm i s) (gapExpiry_fixed i s)
    case armTravelTimeout i => exact (h.arm i (armTravelExpiry_besideArm i s) (armTravelExpiry_fixed i s)).approachReact
    case retryTimerExpiry i => exact (h.arm i (retryExpiry_besideArm i s) (retryExpiry_fixed i s)).approachReact
    case laneTimerExpiry i => exact h.arm i (laneExpiry_besideArm i s) (laneExpiry_fixed i s)
    case clearingTimerExpiry => exact h.clearingExpiry
    case flashHalfExpiry => exact lamp (by simp) (by simp)
    case lampSenseEvent i sensed => exact lamp (by simp) (by simp)
    case provingTimerExpiry i => exact lamp (by simp) (by simp)
    case watchTimerExpiry i => exact lamp (by simp) (by simp)
    case darkTimerExpiry i => exact lamp (by simp) (by simp)
    case stepTimerExpiry k => exact h.congr (by simp) (frame_of_fixed (by simp))
  cases ht : transmitterEvent c with
  | true =>
    exact h.congr (eventWork_transmitter_aside hf ht s) (Fixed.frame_of_setup (eventWork_setup hf s))
  | false =>
    cases hc : cornerEvent c with
    | true => exact h.ofRun (eventWork_cornerRun hf hc s)
    | false => exact table ht hc

end State.Stands

/-! ### RUN -/

@[simp] theorem formPosition_besideMotion (s : State) : (formPosition s).besideMotion = s.besideMotion := rfl
@[simp] theorem setPosition_besideMotion (s : State) : (setPosition s).besideMotion = s.besideMotion := rfl
@[simp] theorem zeroCount_besideMotion (s : State) : (zeroCount s).besideMotion = s.besideMotion := rfl
@[simp] theorem setReferenced_besideMotion (r : Bool) (s : State) : (setReferenced r s).besideMotion = s.besideMotion := rfl
@[simp] theorem restBolt_besideMotion (b : BoltState) (s : State) : (restBolt b s).besideMotion = s.besideMotion := rfl
@[simp] theorem startWithdrawing_besideMotion (s : State) : (startWithdrawing s).besideMotion = s.besideMotion := rfl

theorem cornerAtRun_besideMotion (s : State) : (CornerRun.cornerAtRun s).besideMotion = s.besideMotion := by
  have hr : (referenceAtRun s).besideMotion = s.besideMotion := by
    unfold referenceAtRun
    dsimp only
    split <;> simp
  unfold CornerRun.cornerAtRun deriveBolt
  split <;> simp [hr]

/-- At RUN the role's first phase stands with the clear flag, and a cause that RUN submits sets both. -/
theorem runRole_stands {s : State} (hrun : s.running = true) (hflag : s.trip.flag = false) : (runRole s).Stands := by
  unfold runRole
  split
  · rename_i hrole
    have hfix : (CornerRun.cornerAtRun s).fixed = s.fixed := by simp [CornerRun.cornerAtRun]
    have htrip : (CornerRun.cornerAtRun s).trip = s.trip := congrArg (·.1) (cornerAtRun_besideMotion s)
    have h : (enterCorner (firstCornerPhase (CornerRun.cornerAtRun s)) .none (CornerRun.cornerAtRun s)).Stands :=
      enterCorner_stands _ ((running_of_fixed hfix).trans hrun) ((role_of_frame (frame_of_fixed hfix)).trans hrole)
        (by simp [htrip, hflag, CornerRun.firstCornerPhase_ne])
    exact h.ofRun (CornerRun.runCorner s)
  · rename_i hrole
    have hfix : (deriveArms s).fixed = s.fixed := deriveArms_fixed s
    have htrip : (deriveArms s).trip = s.trip := congrArg (·.1) (deriveArms_besideArms s)
    have h : (enterApproach .holding (some .redClearance) (deriveArms s)).Stands :=
      enterApproach_stands ((running_of_fixed hfix).trans hrun) ((role_of_frame (frame_of_fixed hfix)).trans hrole)
        (by simp [htrip, hflag]) (fun q hq => by cases hq; simp [HoldStage])
    exact (h.submitIf _ _).approachReact
  · exact ((enterChannel_stands hrun ‹_› (by simp [hflag])).submitIf _ _).channelReact
  · refine State.Stands.deskIndicators (State.Stands.submitIf (enterDesk_stands _ hrun ‹_› ?_) _ _)
    rw [hflag]
    split <;> simp

@[simp] theorem setNotProved_aside (s : State) : (setNotProved s).aside = s.aside := by
  unfold setNotProved
  dsimp only
  rw [report_aside]
  refine foldl_aside _ (fun t i => ?_) _ _
  split <;> simp

/-- RUN with its digest, its peer table and the inhibit, before any block acts (R206). -/
def State.started (s : State) : State :=
  ({ s with running := true, digest := some (ownDigest s), peers := runPeers s }).onPort fun p =>
    { p with startInhibit := true }

/-- What the accepted RUN order hands to the role block. -/
def atRun (s : State) : State := setNotProved (runLine .b (runLine .a s.started))

theorem startBlocks_eq (s : State) : startBlocks s = runRole (atRun s) := rfl

theorem atRun_aside (s : State) : (atRun s).aside = s.aside := by
  rw [atRun, setNotProved_aside, runLine, runLine, onLine_aside, onLine_aside]
  rfl

theorem atRun_unlinked (s : State) : (atRun s).fixed.unlinked = s.started.fixed.unlinked := by
  simp only [atRun, setNotProved_fixed, runLine, onLine_unlinked]

theorem startRun_stands {s : State} (hflag : s.trip.flag = false) : (startRun s).Stands := by
  have hrun : (atRun s).running = true := (congrArg Fixed.running (atRun_unlinked s) : (atRun s).fixed.unlinked.running = _)
  have hf : (atRun s).trip = s.trip := congrArg (·.1) (atRun_aside s)
  have h := runRole_stands hrun (by rw [hf]; exact hflag)
  rw [← startBlocks_eq] at h
  have h' := (h.onLine .a fun u => { u with changed := false }).onLine .b fun u => { u with changed := false }
  exact h'.congr (fillBoth_aside _) (Fixed.frame_of_setup (fillBoth_setup _))

namespace State.Stands

variable {s : State}

theorem setInhibit (h : s.Stands) (on : Bool) : (setInhibit on s).Stands := by
  unfold Machine.setInhibit
  split
  · exact h
  · exact roleReact (h.congr rfl rfl)

theorem takeNavAccept (h : s.Stands) : (takeNavAccept s).Stands := by
  unfold Machine.takeNavAccept
  split
  · exact h
  · extract_lets s1
    have h1 : s1.Stands := h.write rfl rfl id id id id
    split
    · rename_i hp
      rw [State.channelIs, beq_iff_eq] at hp
      refine channelReact (h1.enterChannel fun hrun hrole => ⟨by decide, ?_⟩)
      exact h.untripped_of_channel hrun hrole (by simp [hp])
    · exact h1

theorem setGoal (h : s.Stands) (height : Nat) : (setGoal height s).Stands := h.write rfl rfl id id id fun hd => hd

theorem order {c : Instr} {d : State → State × Answer} (hd : orderDecision c = some d) (h : s.Stands) : (d s).1.Stands := by
  cases c <;> cases hd
  case setItem item value =>
    unfold orderSetItem
    (repeat' split)
    · exact h
    · exact h
    · rename_i hrun _ _ _
      have hrun : s.running = false := by simpa using hrun
      constructor <;> simp_all [h.config hrun]
  case setRoster codes =>
    unfold orderSetRoster
    (repeat' split)
    · exact h
    · rename_i hrun _
      have hrun : s.running = false := by simpa using hrun
      constructor <;> simp_all [h.config hrun]
    · exact h
  case run =>
    unfold orderRun
    (repeat' split)
    · exact h
    · exact h
    · rename_i hrun _ _
      exact startRun_stands (h.config (by simpa using hrun))
  case enableReset => exact h.congr rfl rfl
  case setMask => exact h.congr rfl rfl
  case setThreshold threshold =>
    unfold orderSetThreshold
    exact h.congr rfl rfl
  case clearInhibit => unfold orderClearInhibit; (repeat' split); exacts [h, h, h.setInhibit _]
  case setInhibit => unfold orderSetInhibit; split; exacts [h, h.setInhibit _]
  case clearTrip =>
    unfold orderClearTrip
    (repeat' split)
    · exact h
    · exact h
    · exact h
    · exact acceptClear _ (h.running_of_accepted ‹_›)
  case home =>
    unfold orderHome
    (repeat' split)
    · exact h
    · exact h
    · exact h
    · exact h
    · rename_i hp _ _
      refine h.ofRun (CornerRun.refl.toCorner (p := .homing) (by decide) ?_).cornerReact
      intro ht
      simp [State.cornerIs, ht] at hp
  case armAccept arm =>
    unfold orderArmAccept
    dsimp only
    (repeat' split)
    any_goals exact h
    rename_i i _ _ _ _ _
    exact (h.arm i (by simp) (by simp) : (driveArm i (enterArm i .manual 3 s)).Stands).approachReact
  case armReset arm =>
    unfold orderArmReset
    dsimp only
    (repeat' split)
    any_goals exact h
    rename_i i _ _ _
    unfold resetArm
    refine approachReact (h.arm i ?_ ?_)
    · simp
    · simp
  case navAccept =>
    unfold orderNavAccept
    (repeat' split)
    · exact h
    · exact h
    · exact h
    · exact h.takeNavAccept
  case demand value =>
    unfold orderDemand
    (repeat' split)
    · exact h
    · exact h
    · exact h
    · exact h
    · exact h
    · dsimp only
      exact h.setDemand _
  case setGoal height =>
    unfold orderSetGoal
    split
    · exact h
    · split
      · exact h
      · exact h.setGoal _
  case clearRequest => unfold orderClearRequest; (repeat' split); exacts [h, h, h.clearPress]

end State.Stands

theorem stands_keptByCommands : KeptByCommands State.Stands where
  handled _ _ hu h := h.congr (aside_of_unchangedBut hu (by decide)) (frame_of_unchangedBut hu (by decide))
  published before after h := h.congr (publish_aside before after) (Fixed.frame_of_setup (publish_setup before after))
  filled s _ h := h.congr (fillBoth_aside s) (Fixed.frame_of_setup (fillBoth_setup s))
  powerOn _ _ _ := ⟨fun _ => rfl, (nomatch ·), (nomatch ·), (nomatch ·), (nomatch ·)⟩
  orderReset _ _ _ := ⟨fun _ => rfl, (nomatch ·), (nomatch ·), (nomatch ·), (nomatch ·)⟩
  order _ _ _ hd h := h.order hd
  event _ _ _ hf h := h.event hf
  period _ _ _ h := h.ofRun CornerRun.refl.controlWork

/-- Settles O8: a phase is entered with the flag that belongs to it, and the flag is written together with an entry alone. -/
theorem tripFlagStaysWithPhase : Obligations.TripFlagStaysWithPhase := by
  have hs : TripFlagIsPhase = State.Stands := funext fun s => propext (tripFlagIsPhase_iff s)
  rw [Obligations.TripFlagStaysWithPhase, hs]
  exact stands_keptByCommands.kept

end Sys2Proof.Machine
end

section
/-! PROOFS. What the reactions of the role blocks add to reports and conditions, and that they leave a trip standing; the timers
of the peer table (O36). -/

namespace Sys2Proof.Machine

/-! ### Growth of the reports in the sequences of the roles -/

theorem grows_keptByCorner (s : State) : KeptByCorner (Grows s) where
  motion _ _ _ h := h.onMotion
  latch _ _ h := h.latch
  enter _ _ _ _ _ h := h.enterCorner
  cause _ _ h := h.submitCause

theorem grows_keptByApproach (s : State) : KeptByApproach (Grows s) where
  hold t _ h := by
    unfold setHold
    dsimp only
    split
    · exact h.onClosure.commandArms
    · exact h.onClosure
  enter _ _ _ _ _ _ _ h := h.enterApproach
  resume _ _ h := h.enterApproach
  anew _ _ h := h.newClosure

theorem grows_keptByChannel (s : State) : KeptByChannel (Grows s) where
  enter _ _ _ _ _ h := h.enterChannel
  fallback _ _ h := h.takeFallback

namespace Grows

variable {s t u : State}

theorem ofRun (h : Grows s t) (hr : CornerRun t u) : Grows s u := (grows_keptByCorner s).run hr h
theorem approachReact (h : Grows s t) : Grows s (approachReact t) := (grows_keptByApproach s).react h
theorem channelReact (h : Grows s t) : Grows s (channelReact t) := (grows_keptByChannel s).react h
theorem cornerReact (h : Grows s t) : Grows s (cornerReact t) := h.ofRun CornerRun.refl.cornerReact

theorem submitIf (h : Grows s t) {b : Bool} {c : Cause} : Grows s (submitIf b c t) := h.ofRun CornerRun.refl.submitIf

theorem roleReact (h : Grows s t) : Grows s (roleReact t) := by
  unfold Machine.roleReact
  (repeat' split)
  · exact h.cornerReact
  · exact h.approachReact
  · exact h.channelReact
  · exact h.deskIndicators
  · exact h

theorem leaveTripped (h : Grows s t) : Grows s (leaveTripped t) := by
  unfold Machine.leaveTripped
  split
  · exact (h.enterCorner.ofRun (CornerRun.afterEntry (CornerRun.clearedCornerPhase_ne t) .none t)).cornerReact
  · exact h.enterApproach.approachReact
  · exact h.enterChannel.channelReact
  · refine deskIndicators ?_
    split
    · exact h.enterDesk
    · exact h.enterDesk

theorem acceptClear (h : Grows s t) {source : Nat} : Grows s (acceptClear source t) := by
  unfold Machine.acceptClear
  exact h.onTrip.report.leaveTripped

theorem clearAttempt (h : Grows s t) {source : Nat} : Grows s (clearAttempt source t) := by
  unfold Machine.clearAttempt
  split
  · exact h.acceptClear
  · exact h
  · exact h

theorem setHealth (h : Grows s t) {l : LinkLine} {x : Health} {n : Nat} : Grows s (setHealth l x n t) := by
  unfold Machine.setHealth
  dsimp only
  split
  · exact h
  · exact h.onLine.report

theorem validFrame (h : Grows s t) {l : LinkLine} {n : Nat} : Grows s (validFrame l n t) := h.onLine.setHealth

theorem healthReact (h : Grows s t) : Grows s (healthReact t) := by
  unfold Machine.healthReact
  split
  · exact h.deskIndicators
  · exact h

/-- What has grown has submitted every report that stood among the new ones before. -/
theorem submitted (h : Grows t u) {r : Report} (hr : Submitted s t r) : Submitted s u r := by
  obtain ⟨new, hnew, hin⟩ := hr
  obtain ⟨⟨more, hmore, -, -⟩, -⟩ := h
  refine ⟨new ++ more, by rw [hmore, hnew, List.append_assoc], ?_⟩
  rcases hin with hin | hlen
  · exact .inl (List.mem_append_left _ hin)
  · exact .inr (by rw [hmore, List.length_append]; omega)

end Grows

/-! ### A standing trip -/

theorem trip_of_aside {s : State} {x : TripUnit × MotionUnit × ClosureUnit × ChannelUnit × DeskUnit} (h : s.aside = x) :
    s.trip = x.1 := by
  rw [← h]
  rfl

theorem trip_of_besideArms {s t : State} (h : t.besideArms = s.besideArms) : t.trip = s.trip := congrArg (·.1) h

theorem enterChannel_trip (p : ChannelPhase) (s : State) : (enterChannel p s).trip = s.trip :=
  trip_of_aside (enterChannel_aside p s)
theorem takeFallback_trip (s : State) : (takeFallback s).trip = s.trip := trip_of_aside (takeFallback_aside s)
theorem deskIndicators_trip (s : State) : (deskIndicators s).trip = s.trip := trip_of_aside (deskIndicators_aside s)
theorem enterDesk_trip (p : DeskPhase) (d : Demand) (s : State) : (enterDesk p d s).trip = s.trip :=
  trip_of_aside (enterDesk_aside p d s)

/-- The station is tripped. -/
def State.Tripped (s : State) : Prop := s.trip.flag = true

@[simp] theorem enterTripped_trip (s : State) : (enterTripped s).trip = s.trip := by
  unfold enterTripped
  split
  · exact enterCorner_trip _ _ s
  · exact enterApproach_trip _ _ s
  · exact enterChannel_trip _ s
  · rw [deskIndicators_trip, enterDesk_trip]

/-- In RUN a submitted cause leaves the station tripped (R182). -/
theorem submitCause_tripped {s : State} (c : Cause) (hrun : s.running = true) : (submitCause c s).Tripped := by
  rcases submitCause_cases c s with ⟨h, hc⟩ | ⟨-, -, trip, htrip, ha, -⟩ | ⟨-, -, t, ht, ha, -⟩
  · rw [hc]
    exact h.resolve_left (by simp [hrun])
  · have : (submitCause c s).trip = trip := congrArg (·.1) ha
    rw [State.Tripped, this, htrip]
  · have : t.trip = { s.trip with flag := true, causes := [c] } := congrArg (·.1) ha
    rw [ht, State.Tripped, enterTripped_trip, this]

/-- A first cause is recorded alone (R182). -/
theorem submitCause_causes {s : State} (c : Cause) (hrun : s.running = true) (hflag : s.trip.flag = false) :
    (submitCause c s).trip.causes = [c] := by
  rcases submitCause_cases c s with ⟨h, -⟩ | ⟨-, h, -⟩ | ⟨-, -, t, ht, ha, -⟩
  · simp [hrun, hflag] at h
  · simp [hflag] at h
  · have : t.trip = { s.trip with flag := true, causes := [c] } := congrArg (·.1) ha
    rw [ht, enterTripped_trip, this]

theorem tripped_keptByCorner : KeptByCorner State.Tripped where
  motion _ _ _ h := h
  latch _ _ h := h
  enter t p rel _ _ h := by rwa [State.Tripped, enterCorner_trip]
  cause t c h := by
    rcases submitCause_cases c t with ⟨-, hc⟩ | ⟨hrun, -⟩ | ⟨hrun, -⟩
    · rwa [hc]
    · exact submitCause_tripped c hrun
    · exact submitCause_tripped c hrun

theorem setHold_trip (s : State) : (setHold s).trip = s.trip := by
  unfold setHold
  dsimp only
  split
  · exact (trip_of_besideArms (commandArms_besideArms _ _ _)).trans rfl
  · rfl

/-- No operation of the closure sequence writes the Trip Unit. -/
theorem trip_keptByApproach (x : TripUnit) : KeptByApproach fun t => t.trip = x where
  hold t _ h := (setHold_trip t).trans h
  enter t p held _ _ _ _ h := (enterApproach_trip p held t).trans h
  resume t _ h := (enterApproach_trip _ _ t).trans h
  anew t _ h := (trip_of_besideArms (newClosure_besideArms t)).trans h

/-- No operation of the channel's sequence writes the Trip Unit. -/
theorem trip_keptByChannel (x : TripUnit) : KeptByChannel fun t => t.trip = x where
  enter t p _ _ _ h := (enterChannel_trip p t).trans h
  fallback t _ h := (takeFallback_trip t).trans h

theorem approachReact_trip (s : State) : (approachReact s).trip = s.trip := (trip_keptByApproach s.trip).react rfl
theorem channelReact_trip (s : State) : (channelReact s).trip = s.trip := (trip_keptByChannel s.trip).react rfl

/-- The reactions of a role other than CORNER leave the Trip Unit. -/
theorem roleReact_trip {s : State} (h : s.role ≠ .corner) : (roleReact s).trip = s.trip := by
  unfold roleReact
  (repeat' split)
  · exact absurd ‹_› h
  · exact approachReact_trip s
  · exact channelReact_trip s
  · exact deskIndicators_trip s
  · rfl

theorem roleReact_tripped {s : State} (h : s.Tripped) : (roleReact s).Tripped := by
  by_cases hrole : s.role = .corner
  · unfold roleReact
    split
    · rw [hrole]
      exact tripped_keptByCorner.run CornerRun.refl.cornerReact h
    · exact h
  · rwa [State.Tripped, roleReact_trip hrole]

/-! ### The end of an event -/

@[simp] theorem publish_port (before after : State) : (publish before after).port = after.port := by
  unfold publish
  dsimp only
  split
  · rw [contentChanged_linkOnly after]
    rfl
  · rfl

theorem publish_trip (before after : State) : (publish before after).trip = after.trip :=
  trip_of_aside (publish_aside before after)

theorem publish_peers (before after : State) : (publish before after).peers = after.peers :=
  congrArg Fixed.peers (publish_unlinked before after : (publish before after).fixed.unlinked = after.fixed.unlinked)

/-- An event leaves what its work leaves, but for the link; the mark of fed changes is restored at its end. -/
theorem event_unchangedBut {l : List Block} {s u : State} (h : UnchangedBut (.feed :: l) (s.setFed false) u) :
    UnchangedBut (.link :: l) s (publish s u) := by
  intro b hb
  by_cases hfeed : b = .feed
  · subst hfeed
    exact (publish_unchangedBut s u).1
  · have h0 : same s (s.setFed false) b := setFed_unchangedBut false s b (by simpa using hfeed)
    have h1 : same (s.setFed false) u b := h b (by simp_all)
    have h2 : same u (publish s u) b := (publish_unchangedBut s u).2 b (by simp_all)
    exact same_trans (same_trans h0 h1) h2

/-- Where the work of an event feeds nothing and leaves the content, the event is that work. -/
theorem event_same {s u : State} (hfed : u.fed = false) (hc : s.ownContent = u.ownContent) :
    publish s u = u.setFed s.fed := publish_same s u (.inr (.inr ⟨hfed, hc⟩))

/-! ### PEER reports -/

/-- The report of a change of an entry (R22). -/
def peerChange (s : State) (j : Fin 12) (old : Freshness) (e : Entry) : Report where
  kind := .peer
  time := s.time
  subject := byteOf j.val
  old := byteOf (freshnessCode old)
  new := byteOf (freshnessCode e.freshness)
  extra1 := byteOf (peerFlags (s.rosterRole j) e)
  extra2 := (e.heard.map (·.lastDigest)).getD 0

theorem peerReport_eq (j : Fin 12) (old : Freshness) (e : Entry) (s : State) :
    peerReport j old e s = submit (peerChange s j old e) s := by
  unfold peerReport report peerChange
  cases e.heard with
  | none => rfl
  | some h => simp [byteOf]

theorem submit_submitted (r : Report) (s : State) : Submitted s (submit r s) r := by
  obtain ⟨new, hnew, -, hin⟩ := submit_reports r s
  exact ⟨new, hnew, hin⟩

/-! ### Stale and lost entries -/

/-- The end of a change of an entry: whatever follows its PEER report and its condition in the event. -/
theorem entryChange {s u : State} {j : Fin 12} {e1 : Entry} {c : Condition} {old : Freshness}
    (hfix : u.fixed = (latch c (peerReport j old e1 ((s.setFed false).setPeer j (some e1)))).fixed)
    (hgrow : Grows (latch c (peerReport j old e1 ((s.setFed false).setPeer j (some e1)))) u) :
    (publish s u).peer j = some e1 ∧ (∀ k, k ≠ j → (publish s u).peer k = s.peer k) ∧ (publish s u).latched c = true ∧
      Submitted s (publish s u) (peerChange s j old e1) ∧
      UnchangedBut ([.peers, .link] ++ roleBlocks) s (publish s u) := by
  have hfix : u.fixed = ((s.setFed false).setPeer j (some e1)).fixed := by simpa using hfix
  have hpeers : (publish s u).peers = (s.setPeer j (some e1)).peers :=
    (publish_peers s u).trans (congrArg Fixed.peers hfix)
  have hpeer : ∀ k, (publish s u).peer k = (s.setPeer j (some e1)).peer k := fun k => by rw [State.peer, hpeers]; rfl
  refine ⟨by rw [hpeer, State.peer_setPeer], fun k hk => by rw [hpeer, State.peer_setPeer_ne hk], ?_, ?_, ?_⟩
  · have := hgrow.latched c (latch_latched c _)
    simpa only [State.latched, publish_port] using this
  · have h0 : Submitted s (peerReport j old e1 ((s.setFed false).setPeer j (some e1))) (peerChange s j old e1) := by
      rw [peerReport_eq]
      exact submit_submitted _ _
    obtain ⟨new, hnew, hin⟩ := hgrow.submitted (s := s) (t := latch c _) h0
    exact ⟨new, by rw [publish_port, hnew], by rw [publish_port]; exact hin⟩
  · have h1 : UnchangedBut [.peers] (s.setFed false) ((s.setFed false).setPeer j (some e1)) := by
      intro b hb
      cases b <;> simp_all [same]
    have h2 : UnchangedBut (.feed :: .peers :: roleBlocks) (s.setFed false) u :=
      unchangedBut_comp h1 (unchangedBut_of_fixed hfix) (by simp) (by simp [roleBlocks])
    exact (event_unchangedBut h2).mono (by simp [roleBlocks])

/-- A stale timer's expiry (R9, R93). -/
theorem stale_expires {s : State} {j : Fin 12} {e : Entry} (hj : s.peer j = some e) (hf : e.freshness = .fresh)
    (ht : e.staleTimer.isSome = true) :
    let e1 := { e with freshness := .stale, staleTimer := none }
    ∃ t, exec (.staleTimerExpiry j) s = .next t ∧ t.peer j = some e1 ∧ (∀ k, k ≠ j → t.peer k = s.peer k) ∧
      t.latched .peerStale = true ∧ Submitted s t (peerChange s j .fresh e1) ∧
      (s.running = true → s.isMoving = true → s.rosterRole j = some .corner → t.trip.flag = true) ∧
      UnchangedBut ([.peers, .link] ++ roleBlocks) s t := by
  intro e1
  let s1 := latch .peerStale (peerReport j .fresh e1 ((s.setFed false).setPeer j (some e1)))
  let b := s1.isMoving && s1.rosterRole j == some .corner
  have hwork : staleExpiry j (s.setFed false) = roleReact (submitIf b .peerLost s1) := by
    have hj' : (s.setFed false).peer j = some e := hj
    simp only [staleExpiry, hj', hf, ht, and_self, if_true]
    rfl
  have hfix1 : s1.fixed = ((s.setFed false).setPeer j (some e1)).fixed := by simp [s1]
  have hend := entryChange (s := s) (j := j) (e1 := e1) (c := .peerStale) (old := .fresh)
    (u := roleReact (submitIf b .peerLost s1)) (by simp [s1]) (Grows.refl s1).submitIf.roleReact
  obtain ⟨hpeer, hother, hlatch, hsub, hun⟩ := hend
  refine ⟨_, by rw [exec_of_eventWork s rfl, hwork], hpeer, hother, hlatch, hsub, fun hrun hmoving hcorner => ?_, hun⟩
  have hmotion : s1.motion = s.motion := by simp [s1, latch, peerReport]
  have hrun1 : s1.running = true := (congrArg Fixed.running hfix1).trans hrun
  have hstraps : s1.straps = s.straps := congrArg Fixed.straps hfix1
  have hroster : s1.roster = s.roster := congrArg Fixed.roster hfix1
  have hb : b = true := by
    simp only [State.isMoving, State.role, State.cornerIn] at hmoving
    simpa [b, State.isMoving, State.role, State.cornerIn, State.rosterRole, hmotion, hstraps, hroster, hmoving] using hcorner
  rw [publish_trip]
  refine roleReact_tripped ?_
  rw [hb]
  exact submitCause_tripped .peerLost hrun1

/-- A lost timer's expiry (R9). -/
theorem lost_expires {s : State} {j : Fin 12} {e : Entry} (hj : s.peer j = some e) (hf : e.freshness = .stale)
    (ht : e.lostTimer.isSome = true) :
    let e1 := { e with freshness := .lost, lostTimer := none }
    ∃ t, exec (.lostTimerExpiry j) s = .next t ∧ t.peer j = some e1 ∧ (∀ k, k ≠ j → t.peer k = s.peer k) ∧
      t.latched .peerLost = true ∧ Submitted s t (peerChange s j .stale e1) ∧
      UnchangedBut ([.peers, .link] ++ roleBlocks) s t := by
  intro e1
  let s1 := latch .peerLost (peerReport j .stale e1 ((s.setFed false).setPeer j (some e1)))
  have hwork : lostExpiry j (s.setFed false) = roleReact s1 := by
    have hj' : (s.setFed false).peer j = some e := hj
    simp only [lostExpiry, hj', hf, ht, and_self, if_true]
    rfl
  obtain ⟨hpeer, hother, hlatch, hsub, hun⟩ := entryChange (s := s) (j := j) (e1 := e1) (c := .peerLost) (old := .stale)
    (u := roleReact s1) (by simp [s1]) (Grows.refl s1).roleReact
  exact ⟨_, by rw [exec_of_eventWork s rfl, hwork], hpeer, hother, hlatch, hsub, hun⟩

/-- A seen timer's expiry writes the entry alone (R10). -/
theorem seen_expires {s : State} {j : Fin 12} {line : LinkLine} {e1 : Entry}
    (hw : seenExpiry j line (s.setFed false) = (s.setFed false).setPeer j (some e1)) :
    exec (.seenTimerExpiry j line) s = .next (s.setPeer j (some e1)) := by
  rw [exec_of_eventWork s rfl, hw, event_same (s := s) (u := (s.setFed false).setPeer j (some e1)) rfl rfl]
  rfl

theorem phaseCodeIn_moving (code : Byte) :
    phaseCodeIn [.releasing, .raising, .lowering, .halting] code = true ↔ code.toNat ∈ [7, 8, 10, 11] := by
  simp [phaseCodeIn, cornerCode, byteOf, ← BitVec.toNat_inj]

/-- The step of station time and of every AGE (R10, R211). -/
def State.aged (s : State) : State := { s with time := s.time + 1, peers := s.peers.map fun e => e.map Entry.grow }

theorem timeTick_eq (s : State) : timeTick s = silentTest s.aged := rfl

theorem aged_peer (s : State) (j : Fin 12) : s.aged.peer j = (s.peer j).map Entry.grow := by
  simp [State.aged, State.peer]

/-- A 10 ms step trips a moving corner at which a moving partner reaches an AGE of 30 (R94). -/
theorem timeTick_tripped {s : State} {j : Fin 12} {e : Entry} {h : Heard} (hrun : s.running = true)
    (hmoving : s.isMoving = true) (hj : s.peer j = some e) (hheard : e.heard = some h)
    (hcorner : s.rosterRole j = some .corner) (hown : j.val ≠ s.number) (hphase : h.content.phase.toNat ∈ [7, 8, 10, 11])
    (hage : 29 ≤ h.age) : (timeTick s).Tripped := by
  have hpeer : s.aged.peer j = some e.grow := by
    rw [aged_peer, hj]
    rfl
  have hsilent : s.aged.someCornerSilent = true := by
    rw [State.someCornerSilent, List.any_eq_true]
    refine ⟨j, List.mem_filter.mpr ⟨mem_stations j, ?_⟩, ?_⟩
    · have hcorner' : s.aged.rosterRole j = some .corner := hcorner
      have hown' : j.val ≠ s.aged.number := hown
      simp [hcorner', hown']
    · have hold : silentAge ≤ min 65535 (h.age + 1) := by
        rw [silentAge]
        omega
      simp only [hpeer, Option.bind_some, Entry.grow, hheard, Option.map_some, Bool.and_eq_true, phaseCodeIn_moving]
      exact ⟨hphase, decide_eq_true hold⟩
  have hmoving' : s.aged.isMoving = true := hmoving
  have : timeTick s = submitCause .peerSilent s.aged := by
    rw [timeTick_eq, silentTest, hmoving', hsilent]
    rfl
  rw [this]
  exact submitCause_tripped _ hrun

theorem stationTimeTick_exec (s : State) :
    ∃ t, exec .stationTimeTick s = .next t ∧ t.time = s.time + 1 ∧ (∀ j, t.peer j = (s.peer j).map Entry.grow) ∧
      ((timeTick (s.setFed false)).Tripped → t.trip.flag = true) ∧
      UnchangedBut ([.time, .peers, .link] ++ roleBlocks) s t := by
  let u := timeTick (s.setFed false)
  have hfix : u.fixed = s.aged.fixed :=
    silentTest_fixed _
  refine ⟨publish s u, exec_of_eventWork s rfl, ?_, fun j => ?_, fun h => ?_, ?_⟩
  · exact (congrArg Fixed.time (publish_unlinked s u : (publish s u).fixed.unlinked = u.fixed.unlinked)).trans
      (congrArg Fixed.time hfix)
  · rw [State.peer, publish_peers]
    exact timeTick_peer (s.setFed false) j
  · rwa [publish_trip]
  · have h1 : UnchangedBut [.time, .peers, .feed] (s.setFed false) s.aged := by
      intro b hb
      cases b <;> simp_all [same, State.aged]
    have h2 : UnchangedBut (.feed :: .time :: .peers :: roleBlocks) (s.setFed false) u :=
      unchangedBut_comp h1 (unchangedBut_of_fixed hfix) (by simp) (by simp [roleBlocks])
    exact (event_unchangedBut h2).mono (by simp [roleBlocks])

/-- Settles O36: each expiry is its change of the entry, behind which only the role block acts. -/
theorem entriesAgeAndExpire : Obligations.EntriesAgeAndExpire := by
  unfold Obligations.EntriesAgeAndExpire
  have flags : ∀ (r : Option Role) (e : Entry), peerFlags r e = (r.map roleCode).getD 0 +
      (if (e.heard.map (·.digestOk)).getD false then 4 else 0) + (if e.seenA then 8 else 0) + (if e.seenB then 16 else 0) := by
    intro r e
    simp only [peerFlags, flagNat]
    split <;> split <;> split <;> rfl
  refine ⟨fun j e s hj => ⟨fun hf ht => ?_, fun hf ht => ?_, fun ht => ?_, fun ht => ?_⟩, fun s => ⟨?_, ?_⟩⟩
  · have h := stale_expires hj hf ht
    simp only [peerChange, flags] at h
    exact h
  · have h := lost_expires hj hf ht
    simp only [peerChange, flags] at h
    exact h
  · have hj' : (s.setFed false).peer j = some e := hj
    exact seen_expires (by simp [seenExpiry, hj', ht])
  · have hj' : (s.setFed false).peer j = some e := hj
    exact seen_expires (by simp [seenExpiry, hj', ht])
  · have h : UnchangedBut [.feed, .duplicate] (s.setFed false) (duplicateExpiry (s.setFed false)) := by
      intro b hb
      cases b <;> simp_all [same, duplicateExpiry]
    refine ⟨_, exec_of_eventWork s rfl, ?_, (event_unchangedBut h).mono (by simp)⟩
    exact congrArg Fixed.duplicateTimer (publish_unlinked s _ : Fixed.unlinked _ = _)
  · obtain ⟨t, hexec, htime, hpeer, htrip, hun⟩ := stationTimeTick_exec s
    refine ⟨t, hexec, htime, hpeer, fun hrun hmoving hsome => ?_, hun⟩
    obtain ⟨j, e, h, hj, hheard, hcorner, hown, hphase, hage⟩ := hsome
    exact htrip (timeTick_tripped (s := s.setFed false) hrun hmoving hj hheard hcorner hown hphase hage)

end Sys2Proof.Machine
end

section
/-! PROOFS. What a received frame does to the line it comes on, and the frames that reach no entry (O35). -/

namespace Sys2Proof.Machine

/-! ### The health of the lines, and the own content -/

/-- The health of both lines, with its timers. -/
def State.healths (s : State) : LinkLine → Option Health × Timer := fun l => ((s.line l).health, (s.line l).healthTimer)

theorem onLine_healths {l : LinkLine} {f : LineUnit → LineUnit} {s : State}
    (hf : ((f (s.line l)).health, (f (s.line l)).healthTimer) = ((s.line l).health, (s.line l).healthTimer)) :
    (s.onLine l f).healths = s.healths := by
  funext m
  by_cases hm : m = l
  · subst hm
    simpa [State.healths] using hf
  · simp only [State.healths, State.line_onLine_ne hm]

theorem startAttempt_healths (l : LinkLine) (s : State) : (startAttempt l s).healths = s.healths := by
  have h : (numberSnapshot s).healths = s.healths := by
    funext m
    unfold numberSnapshot
    cases m <;> simp only [State.healths, State.line, State.onLink_link] <;> split <;> first | rfl | (split <;> rfl)
  exact (onLine_healths rfl).trans h

theorem enterDelay_healths (l : LinkLine) (s : State) : (enterDelay l s).healths = s.healths := by
  unfold enterDelay
  split
  · exact startAttempt_healths l s
  · exact onLine_healths rfl

theorem enterGap_healths (l : LinkLine) (s : State) : (enterGap l s).healths = s.healths := by
  unfold enterGap
  split
  · exact enterDelay_healths l s
  · exact onLine_healths rfl

theorem fillSlot_healths (l : LinkLine) (s : State) : (fillSlot l s).healths = s.healths := by
  unfold fillSlot
  dsimp only
  (repeat' split)
  · exact (onLine_healths rfl).trans (onLine_healths rfl)
  · exact (enterGap_healths l _).trans (onLine_healths rfl)
  · exact onLine_healths rfl
  · rfl

theorem fillIfChanged_healths (l : LinkLine) (s : State) : (fillIfChanged l s).healths = s.healths := by
  unfold fillIfChanged
  split
  · exact fillSlot_healths l s
  · rfl

theorem contentChanged_healths (s : State) : (contentChanged s).healths = s.healths := by
  unfold contentChanged
  rw [fillIfChanged_healths, fillIfChanged_healths]
  exact (onLine_healths rfl).trans (onLine_healths rfl)

/-- The end of an event leaves the health of both lines. -/
theorem publish_healths (before after : State) : (publish before after).healths = after.healths := by
  unfold publish
  dsimp only
  split
  · exact contentChanged_healths after
  · rfl

/-- Of the link, the own content shows the health of the lines alone. -/
theorem withLink_ownContent {s : State} {k : Link} (h : (s.withLink k).healths = s.healths) :
    (s.withLink k).ownContent = s.ownContent := by
  have hok : ∀ l, (s.withLink k).lineOk l = s.lineOk l := fun l => by
    have := congrArg Prod.fst (congrFun h l)
    simp only [State.healths] at this
    rw [State.lineOk, this]
    rfl
  simp only [State.ownContent, hok]
  rfl

theorem onLine_ownContent {l : LinkLine} {f : LineUnit → LineUnit} {s : State}
    (hf : ((f (s.line l)).health, (f (s.line l)).healthTimer) = ((s.line l).health, (s.line l).healthTimer)) :
    (s.onLine l f).ownContent = s.ownContent := by
  have h : (s.onLine l f).healths = s.healths := onLine_healths hf
  have hlink : s.onLine l f = s.withLink (s.onLine l f).link := by cases l <;> rfl
  rw [hlink] at h ⊢
  exact withLink_ownContent h

theorem publish_ownContent (before after : State) : (publish before after).ownContent = after.ownContent := by
  unfold publish
  dsimp only
  split
  · have h := contentChanged_healths after
    show (contentChanged after).ownContent = after.ownContent
    rw [contentChanged_linkOnly after] at h ⊢
    exact withLink_ownContent h
  · rfl

/-! ### The line of a received frame -/

/-- The line once a frame has ended on it (R26, R38). -/
def LineUnit.heard (u : LineUnit) : LineUnit := { u with idle := false, ignoring := u.ignoring && u.tx == .sending }

/-- A station whose line `line` has carried a valid frame from `source`, before the Peer Table's first check (R11, R39). -/
def hears (line : LinkLine) (source : Nat) (s : State) : State :=
  healthReact (validFrame line source (s.onLine line LineUnit.heard))

theorem hears_aside (line : LinkLine) (source : Nat) (s : State) : (hears line source s).aside = s.aside := by
  simp [hears]

theorem hears_unlinked (line : LinkLine) (source : Nat) (s : State) :
    (hears line source s).fixed.unlinked = s.fixed.unlinked := by simp [hears]

theorem hears_grows (line : LinkLine) (source : Nat) (s : State) : Grows s (hears line source s) :=
  (Grows.refl s).onLine.validFrame.healthReact

theorem setHealth_line (l m : LinkLine) (x : Health) (n : Nat) (s : State) :
    (setHealth l x n s).line m = if m = l then { s.line l with health := some x } else s.line m := by
  unfold setHealth
  dsimp only
  split
  · rename_i h
    split
    · rename_i hm
      subst hm
      rw [← h]
    · rfl
  · have hlink : ∀ k a b c d e t, (report k a b c d e t).line m = t.line m := fun k a b c d e t => by
      have : (report k a b c d e t).link = t.link := congrArg Fixed.link (report_fixed k a b c d e t)
      simp only [State.line, this]
    rw [hlink]
    split
    · rename_i hm
      subst hm
      rw [State.line_onLine]
    · rename_i hm
      rw [State.line_onLine_ne hm]

theorem hears_line (line m : LinkLine) (source : Nat) (s : State) :
    (hears line source s).line m =
      if m = line then { (s.line line).heard with health := some .ok, healthTimer := some s.staleTime } else s.line m := by
  have hlink : ∀ t : State, (healthReact t).line m = t.line m := fun t => by
    have : (healthReact t).link = t.link := congrArg Fixed.link (healthReact_fixed t)
    simp only [State.line, this]
  have hstale : (s.onLine line LineUnit.heard).staleTime = s.staleTime := by cases line <;> rfl
  rw [hears, hlink, validFrame, setHealth_line]
  split
  · rw [State.line_onLine, State.line_onLine, hstale]
  · rename_i hm
    rw [State.line_onLine_ne hm, State.line_onLine_ne hm]

/-- The receiver takes the frame (R38). -/
def takes (line : LinkLine) (levels : List Bool) (s : State) : Prop :=
  (s.line line).ignoring = false ∨ ((s.line line).tx ≠ .sending ∧ idleFirst levels = true)

theorem receiveFrame_taken {line : LinkLine} {levels : List Bool} {r : Received} {f : Frame} {s : State}
    (hrun : s.running = true) (ht : takes line levels s) (hr : received levels = some r) (hf : readFrame r = some f) :
    receiveFrame line levels s = checkFrame line f (hears line f.source s) := by
  have hign : ((s.line line).ignoring && ((s.line line).tx == .sending || !idleFirst levels)) = false := by
    rcases ht with h | ⟨h1, h2⟩
    · simp [h]
    · simp [h1, h2]
  simp only [receiveFrame, hr, hign, hrun, takeFrame, hf]
  rfl

/-- A frame that is dropped leaves its mark on the line alone. -/
theorem receiveFrame_dropped {line : LinkLine} {levels : List Bool} {r : Received} {s : State}
    (hr : received levels = some r)
    (h : s.running = false ∨ readFrame r = none ∨
      ((s.line line).ignoring = true ∧ ((s.line line).tx = .sending ∨ idleFirst levels = false))) :
    receiveFrame line levels s = s.onLine line LineUnit.heard := by
  unfold receiveFrame
  rw [hr]
  dsimp only
  split
  · rfl
  · rename_i hno
    rcases h with h | h | ⟨h1, h2⟩
    · simp [h] at hno
    · rw [takeFrame, h]
      rfl
    · rcases h2 with h2 | h2 <;> simp [h1, h2] at hno

/-! ### Frames that reach no entry (O35) -/

/-- What leaves the role blocks and the fixed part but for the link writes reports and signals at most beside it. -/
theorem unchangedBut_of_aside {s t : State} (ha : t.aside = s.aside) (hf : t.fixed.unlinked = s.fixed.unlinked) :
    UnchangedBut [.feed, .link, .reports, .signal] s t := by
  intro b hb
  have h := unchangedBut_of_unlinked hf b
  simp only [State.aside, Prod.mk.injEq] at ha
  obtain ⟨htrip, hm, hc, hch, hd⟩ := ha
  cases b <;> simp_all [roleBlocks, same]

/-- Settles O35: the checks of a frame come in order, and the first that fails drops it. -/
theorem otherFramesAreDropped : Obligations.OtherFramesAreDropped := by
  unfold Obligations.OtherFramesAreDropped
  intro line levels r s hr
  constructor
  · intro h
    have hwork : publish s (receiveFrame line levels (s.setFed false)) = s.onLine line LineUnit.heard := by
      rw [receiveFrame_dropped (s := s.setFed false) hr h, event_same]
      · cases line <;> rfl
      · cases line <;> rfl
      · exact (onLine_ownContent (s := s.setFed false) rfl).symm
    refine ⟨_, (exec_of_eventWork s rfl).trans (congrArg _ hwork), ?_, fun l hl => State.line_onLine_ne hl _ _, ?_⟩
    · rw [State.line_onLine]
      simp only [LineUnit.heard]
      congr 2
    · exact (onLine_linkOnly line fun _ => LineUnit.heard).unchangedBut s
  · intro f hrun ht hf
    let v := hears line f.source (s.setFed false)
    have hunlinked : v.fixed.unlinked = s.fixed.unlinked := hears_unlinked line f.source (s.setFed false)
    have haside : v.aside = s.aside := hears_aside line f.source (s.setFed false)
    have hstraps : v.straps = s.straps := congrArg Fixed.straps hunlinked
    have hroster : v.roster = s.roster := congrArg Fixed.roster hunlinked
    have hrunv : v.running = true := (congrArg Fixed.running hunlinked : v.running = s.running).trans hrun
    have hwork : receiveFrame line levels (s.setFed false) = checkFrame line f v :=
      receiveFrame_taken (s := s.setFed false) hrun ht hr hf
    have hexec : exec (.frameReceived line levels) s = .next (publish s (checkFrame line f v)) := by
      rw [exec_of_eventWork s rfl, hwork]
    have hun : UnchangedBut [.feed, .link, .reports, .signal] (s.setFed false) v := unchangedBut_of_aside haside hunlinked
    have latched : ∀ c, checkFrame line f v = latch c v → ∃ t, exec (.frameReceived line levels) s = .next t ∧
        t.latched c = true ∧ UnchangedBut [.link, .reports, .signal] s t := fun c hc => by
      refine ⟨_, hexec, ?_, (event_unchangedBut (l := [.link, .reports, .signal]) ?_).mono (by simp)⟩
      · rw [hc]
        simpa only [State.latched, publish_port] using latch_latched c v
      · rw [hc]
        exact unchangedBut_comp hun (latch_unchangedBut c v) (by simp) (by simp)
    constructor
    · intro hown
      have hc : checkFrame line f v = ownNumberFrame v := by simp [checkFrame, State.number, hstraps, hown]
      let w := { latch .duplicateStation v with duplicateTimer := some v.staleTime }
      have hcause : ownNumberFrame v = submitCause .duplicate w := rfl
      have hstale : v.staleTime = 3 * s.config.item 2 := by
        have : v.config = s.config := congrArg Fixed.config hunlinked
        simp only [State.staleTime, this]
      have hfix : (submitCause .duplicate w).fixed = w.fixed := submitCause_fixed _ _
      have hgrow : Grows w (submitCause .duplicate w) := (Grows.refl w).submitCause
      refine ⟨_, hexec, ?_, ?_, ?_, fun hflag => ?_, ?_⟩ <;> rw [hc, hcause]
      · have := hgrow.latched .duplicateStation (latch_latched .duplicateStation v)
        simpa only [State.latched, publish_port] using this
      · rw [← hstale]
        exact (congrArg Fixed.duplicateTimer (publish_unlinked s _ : Fixed.unlinked _ = _)).trans
          (congrArg Fixed.duplicateTimer hfix)
      · rw [publish_trip]
        exact submitCause_tripped (s := w) .duplicate hrunv
      · rw [publish_trip]
        have htrip : w.trip = s.trip := trip_of_aside haside
        exact submitCause_causes (s := w) .duplicate hrunv (by rw [htrip, hflag])
      · have hw : UnchangedBut [.feed, .duplicate, .link, .reports, .signal] (s.setFed false) w := by
          refine unchangedBut_comp hun (m := [.duplicate, .reports]) (fun b hb => ?_) (by simp) (by simp)
          cases b <;> simp_all [same, w, latch]
        have h2 : UnchangedBut (.feed :: .duplicate :: .link :: roleBlocks) (s.setFed false) (submitCause .duplicate w) :=
          unchangedBut_comp hw (unchangedBut_of_fixed hfix) (by simp [roleBlocks]) (by simp [roleBlocks])
        exact (event_unchangedBut h2).mono (by simp [roleBlocks])
    · intro j hj hne
      have hnum : v.number = s.straps.number.val := by rw [State.number, hstraps]
      have hrole : v.rosterRole j = s.rosterRole j := by simp only [State.rosterRole, hroster]
      constructor
      · intro hnone
        refine latched .stranger ?_
        simp [checkFrame, hnum, hj, hne, hrole, hnone]
      · intro x hx hxf
        refine latched .roleMismatch ?_
        simp [checkFrame, hnum, hj, hne, hrole, hx, Ne.symm hxf]

end Sys2Proof.Machine
end

section
/-! PROOFS. A frame that is accepted into its entry, with what follows it in the same event (O34). -/

namespace Sys2Proof.Machine

/-! ### Persisting causes -/

/-- What persists depends on the trip, the inputs, the Motion Unit, the duplicate timer and the corner entries (R186, R187). -/
theorem firstPersisting_congr {s t : State} (hframe : t.fixed.frame = s.fixed.frame) (hinputs : t.inputs = s.inputs)
    (htrip : t.trip = s.trip) (hmotion : t.motion = s.motion) (hdup : t.duplicateTimer = s.duplicateTimer)
    (hpeer : ∀ k ∈ s.otherCorners, t.peer k = s.peer k) : t.firstPersisting = s.firstPersisting := by
  simp only [Fixed.frame, State.fixed, Prod.mk.injEq] at hframe
  obtain ⟨-, hstraps, hconfig, hroster, -⟩ := hframe
  have hcorners : t.otherCorners = s.otherCorners := by
    unfold State.otherCorners State.rosterRole State.number
    rw [hroster, hstraps]
  have hnot : t.someCornerNotFresh = s.someCornerNotFresh := by
    rw [Bool.eq_iff_iff, State.someCornerNotFresh, State.someCornerNotFresh, List.any_eq_true, List.any_eq_true, hcorners]
    refine exists_congr fun k => and_congr_right fun hk => ?_
    simp only [State.isFresh, hpeer k hk]
  have hskew : t.skewNow = s.skewNow := by
    simp only [State.skewNow, State.skewPositions, hcorners, hmotion]
    congr 2
    exact List.filterMap_congr fun k hk => by rw [hpeer k hk]
  have hinput : ∀ i, t.filtered i = s.filtered i := fun i => by simp only [State.filtered, State.inputLine, hinputs]
  have hlimit : t.skewLimitInForce = s.skewLimitInForce := by
    unfold State.skewLimitInForce State.maint State.maintSkewLimit State.skewLimit
    rw [hinput, hconfig]
  have hover : t.overtravelled = s.overtravelled := by
    unfold State.overtravelled State.maint State.openHeight State.overtravelMargin
    rw [hinput, hconfig, hmotion]
  have hpersists : t.persists = s.persists := by
    funext c
    cases c <;>
      simp only [State.persists, htrip, hmotion, hnot, hskew, hinput, hdup, hlimit, hover, State.driveFaultInput,
        State.brakeFeedback, State.boltPattern]
  simp only [State.firstPersisting, htrip, hpersists, State.role, hstraps]

/-! ### The clear of a trip -/

/-- A role other than CORNER leaves TRIPPED without a word to the Trip Unit. -/
theorem leaveTripped_trip {s : State} (h : s.role ≠ .corner) : (leaveTripped s).trip = s.trip := by
  unfold leaveTripped
  split
  · exact absurd ‹_› h
  · rw [approachReact_trip, enterApproach_trip]
  · rw [channelReact_trip, enterChannel_trip]
  · rw [deskIndicators_trip]
    split <;> rw [enterDesk_trip]

/-- An accepted clear empties the record of a role other than CORNER (R190). -/
theorem acceptClear_trip {s : State} (source : Nat) (h : s.role ≠ .corner) :
    (acceptClear source s).trip = { s.trip with flag := false, causes := [], more := false } := by
  unfold acceptClear
  dsimp only
  rw [leaveTripped_trip]
  · rw [report_trip]
    rfl
  · rw [role_of_frame (frame_of_fixed (report_fixed _ _ _ _ _ _ _))]
    exact h

/-- An accepted clear submits its TRIP_CLEARED report (R191). -/
theorem acceptClear_submitted (source : Nat) (s : State) :
    ∃ r, Submitted s (acceptClear source s) r ∧ r.kind = .tripCleared ∧ r.subject = byteOf source := by
  let s1 := s.onTrip fun t => { t with flag := false, causes := [], more := false }
  exact ⟨Report.mk .tripCleared s1.time (byteOf source) _ _ _ _,
    Grows.submitted (Grows.refl _).leaveTripped (submit_submitted _ s1), rfl, rfl⟩

/-! ### The stages of an acceptance -/

/-- The FRESHNESS or the DIGEST_OK of the entry changes (R22). -/
def Entry.turns (e : Entry) (ok : Bool) : Bool := e.freshness != .fresh || (e.heard.map (·.digestOk)) != some ok

/-- The station's digest is the frame's (R16). -/
def agrees (f : Frame) (s : State) : Bool := s.digest == some f.digest

/-- The entry after the frame. -/
def acceptedEntry (line : LinkLine) (f : Frame) (e : Entry) (s : State) : Entry :=
  e.accept line f (agrees f s) s.staleTime s.lostTime

/-- The frame brings new content (R92). -/
def Entry.renewed (e e1 : Entry) : Bool := (e.heard.map (·.content)) != (e1.heard.map (·.content))

/-- The frame stored, with its condition and its PEER report. -/
def stored (line : LinkLine) (j : Fin 12) (f : Frame) (e : Entry) (s : State) : State :=
  let e1 := acceptedEntry line f e s
  let s1 := s.setPeer j (some e1)
  let s2 := if agrees f s = false ∧ e.heard.map (·.digestOk) ≠ some false then latch .digestMismatch s1 else s1
  if e.turns (agrees f s) then peerReport j e.freshness e1 s2 else s2

/-- The clear attempt of the frame taken. -/
def attempted (line : LinkLine) (j : Fin 12) (f : Frame) (e : Entry) (s : State) : State :=
  if e.clears f then clearAttempt f.source (stored line j f e s) else stored line j f e s

/-- The SYMPATHY test of new content made. -/
def tested (line : LinkLine) (j : Fin 12) (f : Frame) (e : Entry) (s : State) : State :=
  if e.renewed (acceptedEntry line f e s) then sympathyTest (attempted line j f e s) else attempted line j f e s

theorem acceptFrame_eq {line : LinkLine} {j : Fin 12} {f : Frame} {e : Entry} {s : State} (hj : s.peer j = some e) :
    acceptFrame line j f s =
      if e.turns (agrees f s) || e.renewed (acceptedEntry line f e s) then roleReact (tested line j f e s)
      else tested line j f e s := by
  unfold acceptFrame
  rw [hj]
  rfl

section

variable (line : LinkLine) (j : Fin 12) (f : Frame) (e : Entry) (s : State)

theorem stored_fixed : (stored line j f e s).fixed = (s.setPeer j (some (acceptedEntry line f e s))).fixed := by
  unfold stored
  dsimp only
  (repeat' split) <;> simp

theorem stored_frame : (stored line j f e s).fixed.frame = s.fixed.frame :=
  (frame_of_fixed (stored_fixed line j f e s)).trans rfl

theorem stored_aside : (stored line j f e s).aside = s.aside := by
  unfold stored
  extract_lets e1 s1 s2
  have h2 : s2.aside = s.aside := by
    dsimp only [s2]
    split <;> rfl
  split
  · rw [peerReport_aside, h2]
  · exact h2

/-- What the storing of a frame adds to reports and conditions. -/
theorem stored_reports :
    ∃ new, (stored line j f e s).port.reports = s.port.reports ++ new ∧
      (e.turns (agrees f s) = true → 32 ≤ (stored line j f e s).port.reports.length ∨
        peerChange s j e.freshness (acceptedEntry line f e s) ∈ new) ∧
      (e.turns (agrees f s) = false → new = []) ∧ (∀ x ∈ new, x.kind = .peer) ∧
      (stored line j f e s).fed = s.fed ∧
      ((agrees f s = false ∧ e.heard.map (·.digestOk) ≠ some false) → (stored line j f e s).latched .digestMismatch = true) := by
  let e1 := acceptedEntry line f e s
  let s1 := s.setPeer j (some e1)
  let s2 := if agrees f s = false ∧ e.heard.map (·.digestOk) ≠ some false then latch .digestMismatch s1 else s1
  have hreports : s2.port.reports = s.port.reports := by
    dsimp only [s2]
    split <;> rfl
  have hfed : s2.fed = s.fed := by
    dsimp only [s2]
    split <;> rfl
  have hlatch : agrees f s = false ∧ e.heard.map (·.digestOk) ≠ some false → s2.latched .digestMismatch = true := by
    intro h
    dsimp only [s2]
    rw [if_pos h]
    exact latch_latched _ s1
  have hchange : peerChange s2 j e.freshness e1 = peerChange s j e.freshness e1 := by
    dsimp only [s2]
    split <;> rfl
  have hs : stored line j f e s = if e.turns (agrees f s) then peerReport j e.freshness e1 s2 else s2 := rfl
  rw [hs]
  cases ht : e.turns (agrees f s) with
  | false => exact ⟨[], by simp [hreports], by simp, by simp, by simp, hfed, hlatch⟩
  | true =>
    simp only [if_true]
    rw [peerReport_eq, hchange]
    obtain ⟨new, hnew, honly, hin⟩ := submit_reports (peerChange s j e.freshness e1) s2
    refine ⟨new, by rw [hnew, hreports], fun _ => hin.symm, nofun, fun x hx => by rw [honly x hx]; rfl,
      (submit_fed _ s2).trans hfed, fun h => submit_keeps _ _ s2 (hlatch h)⟩

theorem attempted_fixed : (attempted line j f e s).fixed = (stored line j f e s).fixed := by
  unfold attempted
  split <;> simp

theorem attempted_grows : Grows (stored line j f e s) (attempted line j f e s) := by
  unfold attempted
  split
  · exact (Grows.refl _).clearAttempt
  · exact Grows.refl _

theorem tested_fixed : (tested line j f e s).fixed = (stored line j f e s).fixed := by
  rw [← attempted_fixed]
  unfold tested
  split <;> simp

theorem tested_grows : Grows (attempted line j f e s) (tested line j f e s) := by
  unfold tested
  split
  · exact (Grows.refl _).submitIf
  · exact Grows.refl _

end

section

variable {line : LinkLine} {j : Fin 12} {f : Frame} {e : Entry} {s : State}

theorem acceptFrame_fixed (hj : s.peer j = some e) :
    (acceptFrame line j f s).fixed = (s.setPeer j (some (acceptedEntry line f e s))).fixed := by
  rw [acceptFrame_eq hj, ← stored_fixed, ← tested_fixed]
  split <;> simp

theorem acceptFrame_grows_attempted (hj : s.peer j = some e) :
    Grows (attempted line j f e s) (acceptFrame line j f s) := by
  rw [acceptFrame_eq hj]
  split
  · exact (tested_grows line j f e s).roleReact
  · exact tested_grows line j f e s

theorem acceptFrame_grows (hj : s.peer j = some e) : Grows (stored line j f e s) (acceptFrame line j f s) :=
  (attempted_grows line j f e s).trans (acceptFrame_grows_attempted hj)

/-- At a role other than CORNER only the clear attempt of a frame writes the Trip Unit. -/
theorem acceptFrame_trip (hj : s.peer j = some e) (hrole : s.role ≠ .corner) :
    (acceptFrame line j f s).trip = (attempted line j f e s).trip := by
  have hframe : (tested line j f e s).fixed.frame = s.fixed.frame :=
    (frame_of_fixed (tested_fixed line j f e s)).trans (stored_frame line j f e s)
  have hframe' : (attempted line j f e s).fixed.frame = s.fixed.frame :=
    (frame_of_fixed (attempted_fixed line j f e s)).trans (stored_frame line j f e s)
  have htested : tested line j f e s = attempted line j f e s := by
    unfold tested
    split
    · have hm : (attempted line j f e s).isMoving = false := by
        simp [State.isMoving, role_of_frame hframe', hrole]
      simp [sympathyTest, submitIf, hm]
    · rfl
  rw [acceptFrame_eq hj, ← htested]
  split
  · exact roleReact_trip (by rwa [role_of_frame hframe])
  · rfl

/-- A frame that is a clear attempt at a tripped station ends the trip, or is refused where a cause persists (R21, R188). -/
theorem attempted_clear (hc : e.clears f = true) (hflag : s.trip.flag = true) :
    ((stored line j f e s).firstPersisting = none →
      attempted line j f e s = acceptClear f.source (stored line j f e s)) ∧
    ((stored line j f e s).firstPersisting ≠ none → attempted line j f e s = stored line j f e s) := by
  have htrip : (stored line j f e s).trip = s.trip := trip_of_aside (stored_aside line j f e s)
  have hd : attempted line j f e s = clearAttempt f.source (stored line j f e s) := by simp [attempted, hc]
  rw [hd]
  constructor
  · intro h
    simp [clearAttempt, State.decideClear, htrip, hflag, h]
  · intro h
    obtain ⟨c, h⟩ := Option.ne_none_iff_exists'.mp h
    simp [clearAttempt, State.decideClear, htrip, hflag, h]

/-- The TRIPPED flag of another corner, newly stored at a moving corner, trips it (R92). -/
theorem acceptFrame_sympathy (hj : s.peer j = some e) (hrun : s.running = true) (hmoving : s.isMoving = true)
    (hcorner : s.rosterRole j = some .corner) (hown : j.val ≠ s.number) (hf : f.role = .corner)
    (htripped : f.content.tripped = true) (hnew : e.isNew f = true) (hren : e.heard.map (·.content) ≠ some f.content) :
    (acceptFrame line j f s).Tripped := by
  have hcontent : (acceptedEntry line f e s).heard.map (·.content) = some f.content := by
    simp [acceptedEntry, Entry.accept, hnew]
  have hrenewed : e.renewed (acceptedEntry line f e s) = true := by
    rw [Entry.renewed, hcontent]
    simpa using hren
  have hatt : attempted line j f e s = stored line j f e s := by simp [attempted, Entry.clears, hf]
  have hfix := stored_fixed line j f e s
  have hstraps : (stored line j f e s).straps = s.straps := congrArg Fixed.straps hfix
  have hroster : (stored line j f e s).roster = s.roster := congrArg Fixed.roster hfix
  have hpeers : (stored line j f e s).peers = (s.setPeer j (some (acceptedEntry line f e s))).peers := congrArg Fixed.peers hfix
  have hmotion : (stored line j f e s).motion = s.motion := congrArg (·.2.1) (stored_aside line j f e s)
  have hm : (stored line j f e s).isMoving = true := by
    rw [← hmoving]
    simp only [State.isMoving, State.role, State.cornerIn, hstraps, hmotion]
  have hsome : (stored line j f e s).someCornerTripped = true := by
    rw [State.someCornerTripped, List.any_eq_true]
    refine ⟨j, List.mem_filter.mpr ⟨mem_stations j, ?_⟩, ?_⟩
    · have hown' : j.val ≠ s.straps.number.val := hown
      have hcorner' : s.roster[j] = some .corner := hcorner
      simp [State.rosterRole, State.number, hstraps, hroster, hown', hcorner']
    · have hp : (stored line j f e s).peer j = some (acceptedEntry line f e s) := by
        rw [State.peer, hpeers]
        exact State.peer_setPeer j _ s
      simp only [State.storedContent, hp, Option.bind_some, hcontent, Option.map_some, Option.getD_some, htripped]
  have htested : tested line j f e s = submitCause .sympathy (stored line j f e s) := by
    simp [tested, hrenewed, hatt, sympathyTest, hm, hsome, submitIf]
  rw [acceptFrame_eq hj, hrenewed, Bool.or_true, if_pos rfl, htested]
  exact roleReact_tripped (submitCause_tripped _ ((congrArg Fixed.running hfix).trans hrun))

end

end Sys2Proof.Machine
end

section
/-! PROOFS. The accepted frame as an event (O34). -/

namespace Sys2Proof.Machine

section

variable {line : LinkLine} {j : Fin 12} {f : Frame} {e : Entry} {s : State}

/-! ### Copies and new frames (R13) -/

theorem known_iff : e.known = true ↔ e.freshness = .fresh ∨ e.freshness = .stale := by
  simp [Entry.known]

theorem isNew_iff : e.isNew f = true ↔
    ∀ h, e.heard = some h → ¬((e.freshness = .fresh ∨ e.freshness = .stale) ∧ h.lastSequence = f.sequence) := by
  rw [← known_iff]
  cases hk : e.known <;> cases hh : e.heard <;> simp [Entry.isNew, hk, hh]

/-- The content after a copy is the stored one, after a new frame the frame's. -/
theorem acceptedEntry_content : ∃ content,
    (acceptedEntry line f e s).heard = some { content, lastSequence := f.sequence, lastDigest := f.digest, digestOk := agrees f s, age := 0 } ∧
    (∀ h, e.heard = some h → (e.freshness = .fresh ∨ e.freshness = .stale) ∧ h.lastSequence = f.sequence →
      content = h.content) ∧
    ((∀ h, e.heard = some h → ¬((e.freshness = .fresh ∨ e.freshness = .stale) ∧ h.lastSequence = f.sequence)) →
      content = f.content) := by
  refine ⟨_, rfl, fun h hh hcopy => ?_, fun hnew => ?_⟩
  · have hn : e.isNew f = false := by
      rw [Bool.eq_false_iff, Ne, isNew_iff]
      exact fun hall => hall h hh hcopy
    simp [hn, hh]
  · simp [isNew_iff.mpr hnew]

theorem turns_of (ok : Bool) (h : e.freshness ≠ .fresh ∨ ∀ h, e.heard = some h → h.digestOk ≠ ok) : e.turns ok = true := by
  rcases h with h | h
  · simp [Entry.turns, h]
  · cases hh : e.heard with
    | none => simp [Entry.turns, hh]
    | some x => simp [Entry.turns, hh, h x hh]

theorem turns_eq_false {ok : Bool} {h : Heard} (hf : e.freshness = .fresh) (hh : e.heard = some h) (hok : h.digestOk = ok) :
    e.turns ok = false := by
  simp [Entry.turns, hf, hh, hok]

/-- A new frame of a known desk with another CLEAR_COUNT is a clear attempt (R21). -/
theorem clears_of {h : Heard} {demand : Byte} {goal : BitVec 16} {count : Byte} {key ceiling : Bool} {cause : Byte}
    {demand' : Byte} {goal' : BitVec 16} {count' : Byte} {key' ceiling' : Bool} {cause' : Byte}
    (hh : e.heard = some h) (hk : e.freshness = .fresh ∨ e.freshness = .stale) (hcopy : h.lastSequence ≠ f.sequence)
    (hrole : f.role = .desk) (hp : h.content.payload = .desk demand goal count key ceiling cause)
    (hp' : f.content.payload = .desk demand' goal' count' key' ceiling' cause') (hcount : count ≠ count') :
    e.clears f = true := by
  have hn : e.isNew f = true := isNew_iff.mpr fun x hx hc => hcopy (by
    rw [hh] at hx
    cases hx
    exact hc.2)
  simp [Entry.clears, hn, known_iff.mpr hk, hrole, hh, clearCountOf, hp, hp', hcount]

/-! ### The reports of the event -/

/-- The reports and conditions of an accepted frame. -/
theorem acceptance_reports (hfed : s.fed = false) (hj : (hears line f.source s).peer j = some e) :
    ∃ new, (acceptFrame line j f (hears line f.source s)).port.reports = s.port.reports ++ new ∧
      (e.turns (agrees f (hears line f.source s)) = true →
        32 ≤ (acceptFrame line j f (hears line f.source s)).port.reports.length ∨
        peerChange (hears line f.source s) j e.freshness (acceptedEntry line f e (hears line f.source s)) ∈ new) ∧
      (e.turns (agrees f (hears line f.source s)) = false → ∀ x ∈ new, x.kind ≠ .peer) ∧
      ((acceptFrame line j f (hears line f.source s)).fed = true →
        32 ≤ (acceptFrame line j f (hears line f.source s)).port.reports.length ∨ ∃ x ∈ new, x.kind ∈ fedKinds) ∧
      (∀ r, Submitted (stored line j f e (hears line f.source s)) (acceptFrame line j f (hears line f.source s)) r →
        32 ≤ (acceptFrame line j f (hears line f.source s)).port.reports.length ∨ r ∈ new) := by
  obtain ⟨⟨newv, hv, hvpeer, hvfed⟩, -⟩ := hears_grows line f.source s
  obtain ⟨newp, hp, hpin, hpnil, hpkind, hpfed, -⟩ := stored_reports line j f e (hears line f.source s)
  obtain ⟨⟨neww, hw, hwpeer, hwfed⟩, -⟩ := acceptFrame_grows (line := line) (f := f) hj
  refine ⟨newv ++ newp ++ neww, by rw [hw, hp, hv]; simp, fun ht => ?_, fun ht x hx => ?_, fun ht => ?_, fun r hr => ?_⟩
  · rcases hpin ht with h | h
    · exact .inl (by rw [hw, List.length_append]; omega)
    · exact .inr (by simp [h])
  · rw [hpnil ht] at hx
    simp only [List.append_nil, List.mem_append] at hx
    exact hx.elim (hvpeer x) (hwpeer x)
  · rcases hwfed ht with h | h | ⟨x, hx, hk⟩
    · rw [hpfed] at h
      rcases hvfed h with h | h | ⟨x, hx, hk⟩
      · rw [hfed] at h
        cases h
      · exact .inl (by rw [hw, hp, List.length_append, List.length_append]; omega)
      · exact .inr ⟨x, by simp [hx], hk⟩
    · exact .inl h
    · exact .inr ⟨x, by simp [hx], hk⟩
  · obtain ⟨new, hnew, hin⟩ := hr
    rw [hw, List.append_cancel_left_eq] at hnew
    subst hnew
    rcases hin with h | h
    · exact .inr (by simp [h])
    · exact .inl h

end

/-! ### The station that has heard the frame -/

/-- The states agree beside the link, the reports, the signals and the mark of fed changes. -/
structure SameStation (s v : State) : Prop where
  unlinked : v.fixed.unlinked = s.fixed.unlinked
  aside : v.aside = s.aside

theorem hears_same (line : LinkLine) (source : Nat) (s : State) : SameStation s (hears line source (s.setFed false)) :=
  ⟨hears_unlinked line source (s.setFed false), hears_aside line source (s.setFed false)⟩

namespace SameStation

variable {s v : State} (h : SameStation s v)
include h

theorem straps : v.straps = s.straps := congrArg Fixed.straps h.unlinked
theorem roster : v.roster = s.roster := congrArg Fixed.roster h.unlinked
theorem config : v.config = s.config := congrArg Fixed.config h.unlinked
theorem time : v.time = s.time := congrArg Fixed.time h.unlinked
theorem digest : v.digest = s.digest := congrArg Fixed.digest h.unlinked
theorem peers : v.peers = s.peers := congrArg Fixed.peers h.unlinked
theorem inputs : v.inputs = s.inputs := congrArg Fixed.inputs h.unlinked
theorem duplicateTimer : v.duplicateTimer = s.duplicateTimer := congrArg Fixed.duplicateTimer h.unlinked
theorem running : v.running = s.running := congrArg Fixed.running h.unlinked
theorem trip : v.trip = s.trip := trip_of_aside h.aside
theorem motion : v.motion = s.motion := congrArg (·.2.1) h.aside

theorem peer (j : Fin 12) : v.peer j = s.peer j := by rw [State.peer, h.peers]; rfl
theorem rosterRole (j : Fin 12) : v.rosterRole j = s.rosterRole j := by rw [State.rosterRole, h.roster]; rfl
theorem number : v.number = s.straps.number.val := by rw [State.number, h.straps]
theorem role : v.role = s.straps.role := by rw [State.role, h.straps]
theorem staleTime : v.staleTime = 3 * s.config.item 2 := by rw [State.staleTime, h.config]
theorem lostTime : v.lostTime = 10 * s.config.item 2 := by rw [State.lostTime, h.config]
theorem isMoving : v.isMoving = s.isMoving := by
  simp only [State.isMoving, State.role, State.cornerIn, h.straps, h.motion]
theorem agrees (f : Frame) : agrees f v = decide (s.digest = some f.digest) := by
  rw [Machine.agrees, h.digest, Bool.eq_iff_iff]
  simp

/-- The entry that a frame leaves, field by field (R8 to R10). -/
theorem acceptedEntry_eq (line : LinkLine) (f : Frame) (e : Entry) : acceptedEntry line f e v = {
    freshness := .fresh
    heard := (acceptedEntry line f e v).heard
    seenA := e.seenA || decide (line = .a)
    seenB := e.seenB || decide (line = .b)
    staleTimer := some (3 * s.config.item 2)
    lostTimer := some (10 * s.config.item 2)
    seenTimerA := if line = .a then some (3 * s.config.item 2) else e.seenTimerA
    seenTimerB := if line = .b then some (3 * s.config.item 2) else e.seenTimerB } := by
  have hline : (line == .a) = decide (line = .a) ∧ (line == .b) = decide (line = .b) := by cases line <;> exact ⟨rfl, rfl⟩
  simp only [acceptedEntry, Entry.accept, h.staleTime, h.lostTime, hline.1, hline.2]

/-- The PEER report of the frame (R22, R196). -/
theorem peerChange_eq {line : LinkLine} {j : Fin 12} {f : Frame} {e : Entry} (hroster : s.rosterRole j = some f.role) :
    peerChange v j e.freshness (acceptedEntry line f e v) = {
      kind := .peer, time := s.time, subject := BitVec.ofNat 8 j.val
      old := BitVec.ofNat 8 (freshnessCode e.freshness), new := 1
      extra1 := BitVec.ofNat 8 (roleCode f.role + (if decide (s.digest = some f.digest) = true then 4 else 0) +
        (if e.seenA = true ∨ line = .a then 8 else 0) + (if e.seenB = true ∨ line = .b then 16 else 0))
      extra2 := f.digest } := by
  have ha : flagNat (e.seenA || decide (line = .a)) = if e.seenA = true ∨ line = .a then 1 else 0 := by simp [flagNat]
  have hb : flagNat (e.seenB || decide (line = .b)) = if e.seenB = true ∨ line = .b then 1 else 0 := by simp [flagNat]
  have hheard : ∃ content, (acceptedEntry line f e v).heard =
      some { content, lastSequence := f.sequence, lastDigest := f.digest, digestOk := Machine.agrees f v, age := 0 } :=
    ⟨_, rfl⟩
  obtain ⟨content, hheard⟩ := hheard
  rw [h.acceptedEntry_eq, hheard]
  simp only [peerChange, peerFlags, h.rosterRole, hroster, h.time, h.agrees, ha, hb, Option.map_some, Option.getD_some]
  simp only [flagNat, byteOf, mul_ite, mul_one, mul_zero, freshnessCode]
  rfl

/-- A desk's frame stored changes nothing that persists. -/
theorem firstPersisting_stored {line : LinkLine} {j : Fin 12} {f : Frame} {e : Entry} (hroster : s.rosterRole j = some .desk) :
    (stored line j f e v).firstPersisting = s.firstPersisting := by
  have hfix := stored_fixed line j f e v
  have haside : (stored line j f e v).aside = s.aside := (stored_aside line j f e v).trans h.aside
  have hpeers : (stored line j f e v).peers = (s.setPeer j (some (acceptedEntry line f e v))).peers :=
    (congrArg Fixed.peers hfix).trans (by simp [State.fixed, h.peers])
  refine firstPersisting_congr
    ((stored_frame line j f e v).trans (Fixed.frame_of_setup (Fixed.setup_of_unlinked h.unlinked)))
    ((congrArg Fixed.inputs hfix).trans h.inputs) (trip_of_aside haside) (congrArg (·.2.1) haside)
    ((congrArg Fixed.duplicateTimer hfix).trans h.duplicateTimer) fun k hk => ?_
  have hkj : k ≠ j := by
    rintro rfl
    simp [State.otherCorners, hroster] at hk
  rw [State.peer, hpeers]
  exact State.peer_setPeer_ne hkj _ s

/-- An accepted frame is stored in its entry alone. -/
theorem acceptFrame_peers {line : LinkLine} {j : Fin 12} {f : Frame} {e : Entry} (hj : v.peer j = some e) :
    (acceptFrame line j f v).peers = (s.setPeer j (some (acceptedEntry line f e v))).peers :=
  (congrArg Fixed.peers (acceptFrame_fixed hj)).trans (by simp [State.fixed, h.peers])

end SameStation

/-- A taken frame of another rostered station in its role is accepted. -/
theorem receiveFrame_accepted {line : LinkLine} {levels : List Bool} {r : Received} {f : Frame} {j : Fin 12} {s : State}
    (hrun : s.running = true) (ht : takes line levels s) (hr : received levels = some r) (hf : readFrame r = some f)
    (hsource : f.source = j.val) (hown : j.val ≠ s.straps.number.val) (hroster : s.rosterRole j = some f.role) :
    receiveFrame line levels (s.setFed false) = acceptFrame line j f (hears line f.source (s.setFed false)) := by
  have h := hears_same line j.val s
  rw [receiveFrame_taken (s := s.setFed false) hrun ht hr hf]
  simp [checkFrame, hsource, h.number, hown, h.rosterRole, hroster]

/-- The clear attempt of a desk's frame (R21): a trip of which nothing persists ends, with its report; a cause that persists
leaves the Trip Unit. -/
theorem acceptFrame_clears {line : LinkLine} {j : Fin 12} {f : Frame} {e : Entry} {s v : State} (h : SameStation s v)
    (hj : v.peer j = some e) (hroster : s.rosterRole j = some .desk) (hc : e.clears f = true) (hflag : s.trip.flag = true) :
    (s.firstPersisting = none →
      (∃ x, Submitted (stored line j f e v) (acceptFrame line j f v) x ∧ x.kind = .tripCleared ∧ x.subject = byteOf f.source) ∧
      (s.straps.role ≠ .corner → (acceptFrame line j f v).trip = { s.trip with flag := false, causes := [], more := false })) ∧
    (s.firstPersisting ≠ none → s.straps.role ≠ .corner → (acceptFrame line j f v).trip = s.trip) := by
  obtain ⟨hnone, hsome⟩ := attempted_clear (line := line) (j := j) (s := v) hc (by rw [h.trip]; exact hflag)
  rw [h.firstPersisting_stored hroster] at hnone hsome
  have hstrip : (stored line j f e v).trip = s.trip := trip_of_aside ((stored_aside line j f e v).trans h.aside)
  have htrip : s.straps.role ≠ .corner → (acceptFrame line j f v).trip = (attempted line j f e v).trip := fun hrole =>
    acceptFrame_trip hj (by rw [h.role]; exact hrole)
  refine ⟨fun hclear => ⟨?_, fun hrole => ?_⟩, fun hpersists hrole => ?_⟩
  · obtain ⟨x, hx, hkind, hsubject⟩ := acceptClear_submitted f.source (stored line j f e v)
    rw [← hnone hclear] at hx
    exact ⟨x, (acceptFrame_grows_attempted hj).submitted hx, hkind, hsubject⟩
  · have hrole' : (stored line j f e v).role ≠ .corner := by
      rw [role_of_frame (stored_frame line j f e v), h.role]
      exact hrole
    rw [htrip hrole, hnone hclear, acceptClear_trip f.source hrole', hstrip]
  · rw [htrip hrole, hsome hpersists, hstrip]

/-- Settles O34: the frame is stored as its stages say, and what follows is the role block's and the Trip Unit's. -/
theorem frameIsAcceptedIntoItsEntry : Obligations.FrameIsAcceptedIntoItsEntry := by
  unfold Obligations.FrameIsAcceptedIntoItsEntry
  intro line levels r f j e s hrun ht hr hf hsource hown hroster hj
  let v := hears line f.source (s.setFed false)
  let w := acceptFrame line j f v
  have h : SameStation s v := hears_same line f.source s
  have hvj : v.peer j = some e := (h.peer j).trans hj
  have hexec : exec (.frameReceived line levels) s = .next (publish s w) := by
    rw [exec_of_eventWork s rfl, receiveFrame_accepted hrun ht hr hf hsource hown hroster]
  have hpeer : ∀ k, (publish s w).peer k = (s.setPeer j (some (acceptedEntry line f e v))).peer k := fun k => by
    rw [State.peer, publish_peers, h.acceptFrame_peers hvj]
    rfl
  have hline : ∀ l, w.line l = v.line l := fun l => by
    have : w.link = v.link := congrArg Fixed.link (acceptFrame_fixed hvj)
    simp only [State.line, this]
  have hhealth : ((publish s w).line line).health = some .ok ∧
      ((publish s w).line line).healthTimer = some (s.setFed false).staleTime := by
    have hp := congrFun (publish_healths s w) line
    simpa only [State.healths, hline, v, hears_line, if_pos, Prod.mk.injEq] using hp
  obtain ⟨new, hnew, hturns, hstill, hfed, hsub⟩ := acceptance_reports (line := line) (f := f) (s := s.setFed false) rfl hvj
  dsimp only
  refine ⟨publish s w, new, hexec, ?stored, ?others, hhealth.1, hhealth.2, ?digest, by rw [publish_port]; exact hnew, ?report,
    ?silence, ?clear, ?sympathy, ?otherLine, ?frame⟩
  case stored =>
    obtain ⟨content, hheard, hcopy, hfresh⟩ := acceptedEntry_content (line := line) (f := f) (e := e) (s := v)
    rw [h.agrees] at hheard
    refine ⟨content, hcopy, hfresh, ?_⟩
    rw [hpeer, State.peer_setPeer, h.acceptedEntry_eq, hheard]
  case others =>
    intro k hk
    rw [hpeer, State.peer_setPeer_ne hk]
  case digest =>
    intro hno hold
    obtain ⟨-, -, -, -, -, -, hlatch⟩ := stored_reports line j f e v
    have hl : (stored line j f e v).latched .digestMismatch = true := by
      refine hlatch ⟨(h.agrees f).trans hno, ?_⟩
      cases hh : e.heard with
      | none => simp
      | some x => simp [hold x hh]
    simpa only [State.latched, publish_port] using (acceptFrame_grows (line := line) (f := f) hvj).latched _ hl
  case report =>
    intro hchange
    rw [← h.agrees] at hchange
    rw [publish_port, ← h.peerChange_eq hroster]
    exact hturns (turns_of _ hchange)
  case silence =>
    intro x hfresh hx hok
    rw [← h.agrees] at hok
    exact hstill (turns_eq_false hfresh hx hok)
  case clear =>
    intro x demand goal count key ceiling cause demand' goal' count' key' ceiling' cause' hx hk hcopy hdesk hp hp' hcount hflag
    have hclears : e.clears f = true := clears_of hx hk (fun hs => hcopy ⟨hk, hs⟩) hdesk hp hp' hcount
    obtain ⟨hnone, hsome⟩ := acceptFrame_clears (line := line) h hvj (hdesk ▸ hroster) hclears hflag
    rw [publish_port, publish_trip]
    refine ⟨fun hclear => ?_, hsome⟩
    obtain ⟨⟨y, hy, hkind, hsubject⟩, htrip⟩ := hnone hclear
    refine ⟨(hsub y hy).imp id fun hin => ⟨y, hin, hkind, by rw [hsubject, hsource]; rfl⟩, fun hrole => ?_⟩
    rw [htrip hrole]
    exact ⟨rfl, rfl⟩
  case sympathy =>
    intro hmoving hcorner htripped hall
    have hnewContent : e.heard.map (·.content) ≠ some f.content := by
      cases hh : e.heard with
      | none => simp
      | some x => simpa using (hall x hh).2
    rw [publish_trip]
    exact acceptFrame_sympathy hvj (h.running.trans hrun) (h.isMoving.trans hmoving)
      ((h.rosterRole j).trans (hcorner ▸ hroster)) (by rw [h.number]; exact hown) hcorner htripped
      (isNew_iff.mpr fun x hx hc => (hall x hx).1 hc) hnewContent
  case otherLine =>
    intro hcontent hlen hkinds l hl
    rw [publish_port] at hlen
    have hwfed : w.fed = false := by
      cases hw : w.fed with
      | false => rfl
      | true =>
        rcases hfed hw with hfull | ⟨x, hx, hk⟩
        · exact absurd hlen (by simpa using hfull)
        · exact absurd hk (hkinds x hx)
    rw [event_same hwfed (hcontent.trans (publish_ownContent s w))]
    show w.line l = s.line l
    rw [hline, hears_line, if_neg hl]
    rfl
  case frame =>
    have h1 : UnchangedBut [.peers, .feed, .link, .reports, .signal] (s.setFed false)
        (v.setPeer j (some (acceptedEntry line f e v))) := by
      refine unchangedBut_comp (unchangedBut_of_aside h.aside h.unlinked) (m := [.peers]) (fun b hb => ?_) (by simp) (by simp)
      cases b <;> simp_all [same]
    have h2 : UnchangedBut (.feed :: .link :: .peers :: roleBlocks) (s.setFed false) w :=
      unchangedBut_comp h1 (unchangedBut_of_fixed (acceptFrame_fixed hvj)) (by simp [roleBlocks]) (by simp [roleBlocks])
    exact (event_unchangedBut h2).mono (by simp [roleBlocks])

end Sys2Proof.Machine
end

section
/-! PROOFS. What an accepted RUN order leaves (O25). -/

namespace Sys2Proof.Machine

/-! ### The role acts -/

/-- The role of the station has a phase. -/
structure State.Acts (s : State) : Prop where
  corner : s.role = .corner → s.motion.phase.isSome = true
  approach : s.role = .approach → s.closure.phase.isSome = true
  channel : s.role = .channel → s.channel.phase.isSome = true
  desk : s.role = .desk → s.desk.phase.isSome = true

theorem State.Acts.phaseCode_ne {s : State} (h : s.Acts) : s.phaseCode ≠ 255 := by
  have code : ∀ {α : Type} {x : Option α} {g : α → Nat}, x.isSome = true → (∀ p, g p < 255) →
      (x.map g).getD 255 ≠ 255 := fun {α x g} hx hg => by
    obtain ⟨p, rfl⟩ := Option.isSome_iff_exists.mp hx
    exact (hg p).ne
  unfold State.phaseCode
  split
  · exact code (h.corner ‹_›) fun p => by cases p <;> decide
  · exact code (h.approach ‹_›) fun p => by cases p <;> decide
  · exact code (h.channel ‹_›) fun p => by cases p <;> decide
  · exact code (h.desk ‹_›) fun p => by cases p <;> decide

theorem acts_of_corner {s : State} (hrole : s.role = .corner) (h : s.motion.phase.isSome = true) : s.Acts := by
  constructor <;> simp_all
theorem acts_of_approach {s : State} (hrole : s.role = .approach) (h : s.closure.phase.isSome = true) : s.Acts := by
  constructor <;> simp_all
theorem acts_of_channel {s : State} (hrole : s.role = .channel) (h : s.channel.phase.isSome = true) : s.Acts := by
  constructor <;> simp_all
theorem acts_of_desk {s : State} (hrole : s.role = .desk) (h : s.desk.phase.isSome = true) : s.Acts := by
  constructor <;> simp_all

theorem role_of_fixed {s t : State} (h : t.fixed = s.fixed) : t.role = s.role := role_of_frame (frame_of_fixed h)

theorem State.Acts.congr {s t : State} (h : s.Acts) (ha : t.motion = s.motion ∧ t.closure = s.closure ∧
    t.channel = s.channel ∧ t.desk = s.desk) (hr : t.role = s.role) : t.Acts := by
  obtain ⟨hm, hc, hch, hd⟩ := ha
  constructor <;> rw [hr]
  · rw [hm]; exact h.corner
  · rw [hc]; exact h.approach
  · rw [hch]; exact h.channel
  · rw [hd]; exact h.desk

theorem enterChannel_phase (p : ChannelPhase) (s : State) : (enterChannel p s).channel.phase = some p := by
  have h := enterChannel_aside p s
  simp only [State.aside, Prod.mk.injEq] at h
  rw [h.2.2.2.1]

theorem desk_of_aside {s t : State} (h : t.aside = s.aside) : t.desk = s.desk := congrArg (·.2.2.2.2) h

theorem deskIndicators_desk (s : State) : (deskIndicators s).desk = s.desk := desk_of_aside (deskIndicators_aside s)

theorem enterTripped_acts (s : State) : (enterTripped s).Acts := by
  have hr : (enterTripped s).role = s.role := role_of_fixed (enterTripped_fixed s)
  cases hrole : s.role with
  | corner =>
    have e : enterTripped s = enterCorner .tripped .none s := by simp [enterTripped, hrole]
    exact acts_of_corner (hr.trans hrole) (by rw [e, enterCorner_phase]; rfl)
  | approach =>
    have e : enterTripped s = enterApproach .tripped none s := by simp [enterTripped, hrole]
    exact acts_of_approach (hr.trans hrole) (by rw [e, enterApproach_phase]; rfl)
  | channel =>
    have e : enterTripped s = enterChannel .tripped s := by simp [enterTripped, hrole]
    exact acts_of_channel (hr.trans hrole) (by rw [e, enterChannel_phase]; rfl)
  | desk =>
    have e : enterTripped s = deskIndicators (enterDesk .tripped .halt s) := by simp [enterTripped, hrole]
    refine acts_of_desk (hr.trans hrole) ?_
    rw [e, deskIndicators_desk, enterDesk_desk]
    rfl

theorem State.Acts.submitCause {s : State} (h : s.Acts) (c : Cause) : (submitCause c s).Acts := by
  rcases submitCause_cases c s with ⟨-, hc⟩ | ⟨-, -, trip, -, ha, -⟩ | ⟨-, -, t, ht, -⟩
  · rwa [hc]
  · simp only [State.aside, Prod.mk.injEq] at ha
    exact h.congr ha.2 (role_of_fixed (submitCause_fixed c s))
  · rw [ht]
    exact enterTripped_acts t

theorem State.Acts.submitIf {s : State} (h : s.Acts) (b : Bool) (c : Cause) : (submitIf b c s).Acts := by
  unfold Machine.submitIf
  split
  · exact h.submitCause c
  · exact h

/-- A corner with a phase. -/
def CornerActs (t : State) : Prop := t.role = .corner ∧ t.Acts

theorem enterCorner_acts {t : State} (hrole : t.role = .corner) (p : CornerPhase) (rel : Intent) :
    CornerActs (enterCorner p rel t) := by
  have hr : (enterCorner p rel t).role = .corner := (role_of_fixed (enterCorner_fixed p rel t)).trans hrole
  exact ⟨hr, acts_of_corner hr (by rw [enterCorner_phase]; rfl)⟩

theorem acts_keptByCorner : KeptByCorner CornerActs where
  motion t f hf h := ⟨h.1, acts_of_corner h.1 (by simpa [hf] using h.2.corner h.1)⟩
  latch _ _ h := ⟨h.1, h.2.congr ⟨rfl, rfl, rfl, rfl⟩ rfl⟩
  enter t p rel _ _ h := enterCorner_acts h.1 p rel
  cause t c h := ⟨(role_of_fixed (submitCause_fixed c t)).trans h.1, h.2.submitCause c⟩

/-- The Closure Unit has a phase. -/
def ClosureActs (t : State) : Prop := t.closure.phase.isSome = true

/-- The Channel Unit has a phase. -/
def ChannelActs (t : State) : Prop := t.channel.phase.isSome = true

theorem acts_keptByApproach : KeptByApproach ClosureActs where
  hold t _ h := by
    have hp : (setHold t).closure.phase = t.closure.phase := by
      unfold setHold
      dsimp only
      split
      · exact (congrArg (·.2.2.1) (besideStage_of_besideArms (commandArms_besideArms _ _ _))).trans rfl
      · rfl
    rwa [ClosureActs, hp]
  enter t p held _ _ _ _ _ := by rw [ClosureActs, enterApproach_phase]; rfl
  resume t _ _ := by rw [ClosureActs, enterApproach_phase]; rfl
  anew t _ h := by rwa [ClosureActs, newClosure_phase]

theorem acts_keptByChannel : KeptByChannel ChannelActs where
  enter t p _ _ _ _ := by rw [ChannelActs, enterChannel_phase]; rfl
  fallback t _ h := by
    have ha := takeFallback_aside t
    simp only [State.aside, Prod.mk.injEq] at ha
    rw [ChannelActs, ha.2.2.2.1]
    exact h

/-- At RUN every role takes a first phase (R69, R113, R158, R168). -/
theorem runRole_acts (s : State) : (runRole s).Acts := by
  have hr : (runRole s).role = s.role := role_of_fixed (runRole_fixed s)
  cases hrole : s.role with
  | corner =>
    have e : runRole s = runCorner s := by simp [runRole, hrole]
    have hfirst : (CornerRun.cornerAtRun s).role = .corner :=
      (role_of_fixed (by simp [CornerRun.cornerAtRun])).trans hrole
    have hk : CornerActs (runRole s) :=
      e ▸ acts_keptByCorner.run (CornerRun.runCorner s) (enterCorner_acts hfirst _ _)
    exact hk.2
  | approach =>
    let s1 := enterApproach .holding (some .redClearance) (deriveArms s)
    have e : runRole s = approachReact (submitIf s1.trip.estopFiltered .estop s1) := by
      simp [runRole, hrole, runApproach, s1]
    have h1 : s1.role = .approach := (role_of_fixed (by simp [s1])).trans hrole
    have hp : s1.closure.phase.isSome = true := by simp [s1, enterApproach_phase]
    have h2 : ∀ b c, ClosureActs (submitIf b c s1) := fun b c =>
      ((acts_of_approach h1 hp).submitIf b c).approach ((role_of_fixed (submitIf_fixed b c s1)).trans h1)
    have hk : ClosureActs (runRole s) := by
      rw [e]
      exact acts_keptByApproach.react (h2 _ _)
    exact acts_of_approach (hr.trans hrole) hk
  | channel =>
    let s1 := enterChannel .closing s
    have e : runRole s = channelReact (submitIf s1.trip.estopFiltered .estop s1) := by
      simp [runRole, hrole, runChannel, s1]
    have h1 : s1.role = .channel := (role_of_fixed (by simp [s1])).trans hrole
    have hp : s1.channel.phase.isSome = true := by simp [s1, enterChannel_phase]
    have h2 : ∀ b c, ChannelActs (submitIf b c s1) := fun b c =>
      ((acts_of_channel h1 hp).submitIf b c).channel ((role_of_fixed (submitIf_fixed b c s1)).trans h1)
    have hk : ChannelActs (runRole s) := by
      rw [e]
      exact acts_keptByChannel.react (h2 _ _)
    exact acts_of_channel (hr.trans hrole) hk
  | desk =>
    let s1 := enterDesk (if s.enableKey then .active else .inactive) s.desk.heldDemand s
    have e : runRole s = deskIndicators (submitIf s1.trip.estopFiltered .estop s1) := by
      simp [runRole, hrole, runDesk, s1]
    have h1 : s1.role = .desk := (role_of_fixed (by simp [s1])).trans hrole
    have hp : s1.desk.phase.isSome = true := by simp [s1, enterDesk_desk]
    have h2 : ∀ b c, (submitIf b c s1).desk.phase.isSome = true := fun b c =>
      ((acts_of_desk h1 hp).submitIf b c).desk ((role_of_fixed (submitIf_fixed b c s1)).trans h1)
    refine acts_of_desk (hr.trans hrole) ?_
    rw [e, deskIndicators_desk]
    exact h2 _ _

/-! ### The lines at RUN -/

theorem numberSnapshot_line (l : LinkLine) (s : State) : (numberSnapshot s).line l = s.line l := by
  unfold numberSnapshot
  cases l <;> simp only [State.line, State.onLink_link] <;> split <;> first | rfl | (split <;> rfl)

/-- A filled line: its slot is full, and a CHANGED flag that was clear stays clear. -/
structure Filled (l : LinkLine) (s t : State) : Prop where
  slot : (t.line l).slot ≠ .empty
  changed : (s.line l).changed = false → (t.line l).changed = false
  other : ∀ m, m ≠ l → t.line m = s.line m

theorem Filled.onLine {l : LinkLine} {s t : State} (h : Filled l s t) (f : LineUnit → LineUnit)
    (hs : (f (t.line l)).slot ≠ .empty) (hc : (t.line l).changed = false → (f (t.line l)).changed = false) :
    Filled l s (t.onLine l f) :=
  ⟨by rwa [State.line_onLine], fun h0 => by rw [State.line_onLine]; exact hc (h.changed h0),
    fun m hm => by rw [State.line_onLine_ne hm, h.other m hm]⟩

theorem Filled.startAttempt {l : LinkLine} {s t : State} (h : Filled l s t) : Filled l s (startAttempt l t) := by
  have h1 : Filled l s (numberSnapshot t) := by
    constructor
    · rw [numberSnapshot_line]; exact h.slot
    · rw [numberSnapshot_line]; exact h.changed
    · intro m hm; rw [numberSnapshot_line]; exact h.other m hm
  unfold Machine.startAttempt
  exact h1.onLine _ (by simp) (fun _ => rfl)

theorem Filled.enterGap {l : LinkLine} {s t : State} (h : Filled l s t) : Filled l s (enterGap l t) := by
  unfold Machine.enterGap enterDelay
  (repeat' split)
  · exact h.startAttempt
  · exact h.onLine _ h.slot id
  · exact h.onLine _ h.slot id

theorem fillSlot_filled (l : LinkLine) (s : State) : Filled l s (fillSlot l s) := by
  unfold fillSlot
  split
  · have h1 : Filled l s (s.onLine l fun u => { u with slot := .full false }) :=
      ⟨by simp, fun h => by simpa using h, fun m hm => State.line_onLine_ne hm _ _⟩
    dsimp only
    (repeat' split)
    · exact h1.onLine _ (by simp) (fun h => by simpa using h)
    · exact h1.enterGap
    · exact h1
  · exact ⟨‹_›, id, fun _ _ => rfl⟩

theorem fillBoth_line (l : LinkLine) (s : State) : ((fillBoth s).line l).slot ≠ .empty ∧
    ((s.line l).changed = false → ((fillBoth s).line l).changed = false) := by
  have ha := fillSlot_filled .a s
  have hb := fillSlot_filled .b (fillSlot .a s)
  cases l
  · rw [fillBoth, hb.other .a (by decide)]
    exact ⟨ha.slot, ha.changed⟩
  · exact ⟨hb.slot, fun h => hb.changed (by rwa [ha.other .b (by decide)])⟩

theorem fillBoth_healths (s : State) : (fillBoth s).healths = s.healths := by
  rw [fillBoth, fillSlot_healths, fillSlot_healths]

/-- At RUN both lines wait, with a full slot and CHANGED clear (R30, R32, R39). -/
theorem startRun_line (s : State) (l : LinkLine) :
    ((startRun s).line l).health = some .waiting ∧ ((startRun s).line l).healthTimer = some s.staleTime ∧
      ((startRun s).line l).slot ≠ .empty ∧ ((startRun s).line l).changed = false := by
  let s1 := startBlocks s
  let s2 := (s1.onLine .a fun u => { u with changed := false }).onLine .b fun u => { u with changed := false }
  have hlink : s1.link = (atRun s).link := congrArg Fixed.link (runRole_fixed (atRun s))
  have hatRun : (atRun s).healths l = (some .waiting, some s.staleTime) := by
    have hl : (atRun s).link = (runLine .b (runLine .a s.started)).link := congrArg Fixed.link (setNotProved_fixed _)
    cases l <;> simp only [State.healths, State.line, hl] <;> rfl
  have hhealth : (startRun s).healths l = (some .waiting, some s.staleTime) := by
    have h2 : (fillBoth s2).healths = s1.healths :=
      (fillBoth_healths s2).trans ((onLine_healths rfl).trans (onLine_healths rfl))
    have h1 : s1.healths = (atRun s).healths := by
      funext m
      simp only [State.healths, State.line, hlink]
    rw [← hatRun, ← h1, ← h2]
    rfl
  have hchanged : (s2.line l).changed = false := by cases l <;> rfl
  obtain ⟨hslot, hclear⟩ := fillBoth_line l s2
  simp only [State.healths, Prod.mk.injEq] at hhealth
  exact ⟨hhealth.1, hhealth.2, hslot, hclear hchanged⟩

theorem startRun_acts (s : State) : (startRun s).Acts := by
  have h : (startBlocks s).Acts := runRole_acts (atRun s)
  have ha : (startRun s).aside = (startBlocks s).aside := by
    rw [startRun, fillBoth_aside, onLine_aside, onLine_aside]
  simp only [State.aside, Prod.mk.injEq] at ha
  refine h.congr ha.2 (role_of_frame (Fixed.frame_of_setup (Fixed.setup_of_unlinked ?_)))
  rw [startRun, fillBoth_unlinked, onLine_unlinked, onLine_unlinked]

/-! ### RUN (O25) -/

theorem newEntry_of_run (s : State) (j : Fin 12) : runSlot s j =
    if (s.rosterRole j).isSome = true ∧ j.val ≠ s.straps.number.val then some newEntry else none := rfl

/-- What the accepted RUN order hands on to its answer. -/
def runAnswered (s : State) : State := (startRun ((removeOrder .run s).setFed false)).setFed s.fed

/-- An accepted RUN order is `startRun`, answered (R206). -/
theorem exec_run {s : State} (ho : s.port.orders.head? = some .run) (hrun : s.running = false) (hc : s.failedCheck = none) :
    exec .run s = .next (answerOrder .run s.port.orderNumber accepted (runAnswered s)) := by
  have hd : orderRun ((removeOrder .run s).setFed false) = (startRun ((removeOrder .run s).setFed false), accepted) := by
    have hrun' : (removeOrder .run s).running = false := hrun
    have hc' : ((removeOrder .run s).setFed false).failedCheck = none := hc
    simp [orderRun, hrun', hc']
  rw [exec_of_orderDecision (o := .run) s rfl rfl, takeOrder_head .run orderRun s ho, hd,
    publish_same (removeOrder .run s) _ (.inl hrun)]
  rfl

/-- Settles O25: what RUN leaves is what `startRun` makes of each block. -/
theorem runStartsTheStation : Obligations.RunStartsTheStation := by
  unfold Obligations.RunStartsTheStation
  intro s ho hrun hc
  let u := (removeOrder .run s).setFed false
  let w := runAnswered s
  have hfix : (answerOrder .run s.port.orderNumber accepted w).fixed = (startRun u).fixed := answerOrder_fixed _ _ _ _
  have hun : (answerOrder .run s.port.orderNumber accepted w).fixed.unlinked = u.started.fixed.unlinked :=
    (congrArg Fixed.unlinked hfix).trans (startRun_unlinked u)
  have hlink : (answerOrder .run s.port.orderNumber accepted w).link = (startRun u).link := congrArg Fixed.link hfix
  refine ⟨_, exec_run ho hrun hc, ⟨?_, ?_, ?_, ?_⟩, ?_, ?_, ?_, fun j => ?_, fun l => ?_, ?_, ?_⟩
  · exact congrArg Fixed.orders hun
  · exact congrArg Fixed.orderNumber hun
  · have htime : w.time = s.time := congrArg Fixed.time (startRun_unlinked u)
    have := answerOrder_last .run s.port.orderNumber accepted w
    rw [htime] at this
    exact this
  · intro h
    cases h
  · exact congrArg Fixed.running hun
  · exact congrArg Fixed.startInhibit hun
  · exact congrArg Fixed.digest hun
  · rw [runPeers_peer u _ (congrArg Fixed.peers hun), newEntry_of_run]
    rfl
  · have hline : (answerOrder .run s.port.orderNumber accepted w).line l = (startRun u).line l := by
      unfold State.line
      rw [hlink]
    have h := startRun_line u l
    rw [← hline] at h
    exact h
  · have hacts : w.Acts := (startRun_acts u).congr ⟨rfl, rfl, rfl, rfl⟩ rfl
    refine State.Acts.phaseCode_ne (hacts.congr ?_ (role_of_fixed (answerOrder_fixed _ _ _ _)))
    have ha : (answerOrder .run s.port.orderNumber accepted w).aside = w.aside :=
      aside_of_unchangedBut (answerOrder_unchangedBut _ _ _ _) (by decide)
    simp only [State.aside, Prod.mk.injEq] at ha
    exact ha.2
  · have h1 : UnchangedBut [.orderQueue, .feed] s u := unchangedBut_comp (removeOrder_unchangedBut .run s)
      (setFed_unchangedBut false _) (by simp) (by simp)
    have h2 : UnchangedBut [.running, .digest, .peers, .inhibit] u u.started := by
      intro b hb
      cases b <;> simp_all [same, State.started]
    exact unchangedBut_comp (unchangedBut_comp h1 h2 (n := [.orderQueue, .feed, .running, .digest, .peers, .inhibit])
      (by simp) (by simp)) (unchangedBut_of_unlinked hun) (by simp [roleBlocks]) (by simp [roleBlocks])

end Sys2Proof.Machine
end

section
/-! PROOFS. The arm controllers and the Channel Unit stay safe: what the operations of the arms leave of their outputs, and the
invariant that arms and channels keep at every role. -/

namespace Sys2Proof.Machine

/-! ### The outputs of one arm -/

/-- An arm's motor outputs stand as R117 and R128 ask. -/
def ArmSafe (s : State) (i : Fin 4) : Prop :=
  ((s.arm i).up = true → (s.arm i).state = some .raising ∧ s.trip.flag = false) ∧
    ((s.arm i).down = true → (s.arm i).state = some .lowering ∧ s.presence i = false ∧ s.trip.flag = false)

theorem presence_of_inputs {s t : State} (h : t.inputs = s.inputs) (i : Fin 4) : t.presence i = s.presence i := by
  simp only [State.presence, State.loop, State.filtered, State.inputLine, h]

theorem ArmSafe.congr {s t : State} {i : Fin 4} (h : ArmSafe s i)
    (ha : (t.arm i).state = (s.arm i).state ∧ (t.arm i).up = (s.arm i).up ∧ (t.arm i).down = (s.arm i).down)
    (hflag : t.trip.flag = s.trip.flag) (hin : t.inputs = s.inputs) : ArmSafe t i := by
  obtain ⟨hstate, hup, hdown⟩ := ha
  unfold ArmSafe
  rw [hstate, hup, hdown, hflag, presence_of_inputs hin]
  exact h

/-- An arm with both outputs off is safe. -/
theorem armSafe_of_off {s : State} {i : Fin 4} (hup : (s.arm i).up = false) (hdown : (s.arm i).down = false) : ArmSafe s i := by
  simp [ArmSafe, hup, hdown]

theorem inputs_of_fixed {s t : State} (h : t.fixed = s.fixed) : t.inputs = s.inputs := congrArg Fixed.inputs h

theorem trip_of_besideArm {i : Fin 4} {s t : State} (h : t.besideArm i = s.besideArm i) : t.trip = s.trip := congrArg (·.1) h

/-- An operation of one arm leaves the others safe. -/
theorem ArmSafe.beside {s t : State} {i j : Fin 4} (h : ArmSafe s j) (hj : j ≠ i) (hb : t.besideArm i = s.besideArm i)
    (hf : t.fixed = s.fixed) : ArmSafe t j := by
  have ha := arm_of_besideArm hb hj
  exact h.congr ⟨by rw [ha], by rw [ha], by rw [ha]⟩ (by rw [trip_of_besideArm hb]) (inputs_of_fixed hf)

/-- An arm is safe once its outputs are brought up to date. -/
theorem armSafe_driveArm (i : Fin 4) (s : State) : ArmSafe (driveArm i s) i := by
  obtain ⟨hstate, hup, hdown, -⟩ := driveArm_safe i s
  have htrip : (driveArm i s).trip = s.trip := trip_of_besideArm (driveArm_besideArm i s)
  have hin : (driveArm i s).inputs = s.inputs := inputs_of_fixed (driveArm_fixed i s)
  unfold ArmSafe
  rw [hstate, htrip, presence_of_inputs hin]
  exact ⟨hup, hdown⟩

/-- Every arm is safe. -/
def ArmsDriven (s : State) : Prop := ∀ i, ArmSafe s i

namespace ArmsDriven

variable {s t : State}

theorem congr (h : ArmsDriven s) (ha : t.closure.arms = s.closure.arms) (hflag : t.trip.flag = s.trip.flag)
    (hin : t.inputs = s.inputs) : ArmsDriven t := by
  intro i
  have hi : t.arm i = s.arm i := by rw [State.arm, ha]; rfl
  exact (h i).congr ⟨by rw [hi], by rw [hi], by rw [hi]⟩ hflag hin

theorem of_aside (h : ArmsDriven s) (ha : t.aside = s.aside) (hf : t.fixed = s.fixed) : ArmsDriven t := by
  have hc : t.closure = s.closure := congrArg (·.2.2.1) ha
  exact h.congr (by rw [hc]) (by rw [trip_of_aside ha]; rfl) (inputs_of_fixed hf)

/-- An arm acts, and its outputs follow. -/
theorem drive (h : ArmsDriven s) (i : Fin 4) (hb : t.besideArm i = s.besideArm i) (hf : t.fixed = s.fixed) :
    ArmsDriven (driveArm i t) := by
  intro j
  by_cases hj : j = i
  · subst hj
    exact armSafe_driveArm j t
  · exact (h j).beside hj ((driveArm_besideArm i t).trans hb) ((driveArm_fixed i t).trans hf)

/-- A write to an arm that leaves its state and its outputs. -/
theorem onArm (h : ArmsDriven s) {i : Fin 4} {f : Arm → Arm}
    (hf : ∀ a, (f a).state = a.state ∧ (f a).up = a.up ∧ (f a).down = a.down := by intro a; exact ⟨rfl, rfl, rfl⟩) :
    ArmsDriven (s.onArm i f) := by
  intro j
  by_cases hj : j = i
  · subst hj
    exact (h j).congr (by rw [State.arm_onArm]; exact hf _) rfl rfl
  · exact (h j).beside hj (onArm_besideArm i s f) rfl

theorem onClosure (h : ArmsDriven s) {f : ClosureUnit → ClosureUnit} (hf : (f s.closure).arms = s.closure.arms := by rfl) :
    ArmsDriven (s.onClosure f) := h.congr hf rfl rfl

theorem commandArm (h : ArmsDriven s) (i : Fin 4) (c : ArmCommand) : ArmsDriven (commandArm i c s) := by
  unfold Machine.commandArm
  dsimp only
  (repeat' split)
  · exact h
  · exact h.drive i (by simp) (by simp)
  · exact h.drive i (by simp) (by simp)
  · exact h.onArm.onArm
  · exact h.drive i (by simp) (by simp)
  · exact h.drive i (by simp) (by simp)
  · exact h.drive i (by simp) (by simp)
  · exact h.onArm.onArm
  · exact h.drive i (by simp) (by simp)
  · exact h.drive i (by simp) (by simp)
  · exact h.onArm

theorem foldl {g : State → Fin 4 → State} (hg : ∀ t i, ArmsDriven t → ArmsDriven (g t i)) (l : List (Fin 4))
    (h : ArmsDriven s) : ArmsDriven (l.foldl g s) := by
  induction l generalizing s with
  | nil => exact h
  | cons i l ih => exact ih (hg s i h)

theorem commandArms (h : ArmsDriven s) (which : Fin 4 → Bool) (c : ArmCommand) : ArmsDriven (commandArms which c s) := by
  refine foldl (fun t i ht => ?_) _ h
  split
  · exact ht.commandArm i c
  · exact ht

theorem newClosure (h : ArmsDriven s) : ArmsDriven (newClosure s) := foldl (fun _ _ ht => ht.onArm) _ h

end ArmsDriven

/-- Stopping an arm at a trip leaves that arm safe, and safe arms safe. -/
theorem armSafe_tripArm (i j : Fin 4) (s : State) (h : j = i ∨ ArmSafe s j) : ArmSafe (tripArm i s) j := by
  by_cases hj : j = i
  · subst hj
    unfold tripArm
    exact armSafe_driveArm _ _
  · exact (h.resolve_left hj).beside hj (tripArm_besideArm i s) (tripArm_fixed i s)

/-- Stopping arms leaves those and every safe one safe. -/
theorem armSafe_foldl_tripArm (l : List (Fin 4)) (j : Fin 4) (s : State) (h : j ∈ l ∨ ArmSafe s j) :
    ArmSafe (l.foldl (fun t i => tripArm i t) s) j := by
  induction l generalizing s with
  | nil => exact h.resolve_left (by simp)
  | cons i l ih =>
    refine ih _ ?_
    rcases h with h | h
    · rcases List.mem_cons.mp h with h | h
      · exact .inr (armSafe_tripArm i j s (.inl h))
      · exact .inl h
    · exact .inr (armSafe_tripArm i j s (.inr h))

/-- Stopping every arm leaves every arm safe (R114, R128). -/
theorem armsDriven_tripArms (s : State) : ArmsDriven (arms.foldl (fun t i => tripArm i t) s) :=
  fun j => armSafe_foldl_tripArm arms j s (.inl (by revert j; decide))

/-- Every entry of an approach leaves safe arms safe; the entry into TRIPPED leaves every arm safe. -/
theorem armsDriven_enterApproach {p : ApproachPhase} {held : Option ApproachPhase} {s : State}
    (h : p = .tripped ∨ ArmsDriven s) : ArmsDriven (enterApproach p held s) := by
  obtain ⟨t, ht, ha, hf⟩ := enterApproach_eq p held s
  have hin : t.inputs = s.inputs := inputs_of_fixed hf
  simp only [State.aside, Prod.mk.injEq] at ha
  obtain ⟨htrip, -, hclosure, -, -⟩ := ha
  rw [ht]
  by_cases hp : p = .tripped
  · subst hp
    exact armsDriven_tripArms t
  · have hd : ArmsDriven t := (h.resolve_left hp).congr (by rw [hclosure]; rfl) (by rw [htrip]) hin
    cases p with
    | opened => exact hd.commandArms _ _
    | amber => exact hd.onClosure
    | redClearance =>
      exact (hd.of_aside (renewFailedReds_aside t) (renewFailedReds_fixed t)).onClosure
    | entryLowering => exact hd.commandArms _ _
    | deckClearing => exact hd.onClosure
    | exitLowering => exact hd.commandArms _ _
    | closed => exact hd
    | raisingArms => exact hd.commandArms _ _
    | holding => exact hd.commandArms _ _
    | tripped => exact absurd rfl hp

end Sys2Proof.Machine
end

section
/-! PROOFS. Every command keeps the arm outputs safe, the arm controllers quiet at a station that is no approach, and the Channel
Unit at rest at a station that is no channel. -/

namespace Sys2Proof.Machine

/-- The Closure Unit of a station that is no approach in RUN. -/
def ClosureUnit.Quiet (c : ClosureUnit) : Prop :=
  c.phase = none ∧ c.amberTimer = none ∧ c.redTimer = none ∧ c.deckClearTimer = none ∧ ∀ i : Fin 4, ArmQuiet c.arms[i]

/-- The Channel Unit of a station that is no channel in RUN. -/
def ChannelUnit.Idle (c : ChannelUnit) : Prop := c.phase = none ∧ c.clearingTimer = none

/-- Arms and channel stand as R117, R128, R153 and R162 ask at every role. -/
structure State.Safe (s : State) : Prop where
  closure : (s.running = true ∧ s.role = .approach ∧ ArmsDriven s) ∨ s.closure.Quiet
  channel : (s.running = true ∧ s.role = .channel) ∨ s.channel.Idle

theorem armsDriven_of_quiet {s : State} (h : s.closure.Quiet) : ArmsDriven s := by
  intro i
  obtain ⟨-, -, -, -, harms⟩ := h
  obtain ⟨-, hup, hdown, -⟩ := harms i
  exact armSafe_of_off hup hdown

theorem State.Safe.driven {s : State} (h : s.Safe) : ArmsDriven s := by
  rcases h.closure with ⟨-, -, hd⟩ | hq
  · exact hd
  · exact armsDriven_of_quiet hq

theorem safe_iff (s : State) : ArmsSafe s ∧ ChannelAtRest s ↔ s.Safe := by
  constructor
  · rintro ⟨⟨hc, hd⟩, hch⟩
    exact ⟨hc.imp (fun ⟨hrun, hrole⟩ => ⟨hrun, hrole, hd⟩) id, hch⟩
  · intro h
    exact ⟨⟨h.closure.imp (fun ⟨hrun, hrole, _⟩ => ⟨hrun, hrole⟩) id, h.driven⟩, h.channel⟩

namespace State.Safe

variable {s t : State}

/-! ### What keeps it -/

theorem write (h : s.Safe) (hf : t.fixed.frame = s.fixed.frame) (hin : t.inputs = s.inputs)
    (hflag : t.trip.flag = s.trip.flag ∨ ¬(s.running = true ∧ s.role = .approach)) (hc : t.closure = s.closure)
    (hch : s.channel.Idle → t.channel.Idle) : t.Safe := by
  have hrun := running_of_frame hf
  have hrole := role_of_frame hf
  constructor
  · rw [hrun, hrole, hc]
    rcases h.closure with ⟨h1, h2, hd⟩ | hq
    · have hflag := hflag.resolve_right (fun hn => hn ⟨h1, h2⟩)
      exact .inl ⟨h1, h2, hd.congr (by rw [hc]) hflag hin⟩
    · exact .inr hq
  · rw [hrun, hrole]
    exact h.channel.imp id hch

theorem congr (h : s.Safe) (ha : t.aside = s.aside) (hf : t.fixed.frame = s.fixed.frame) (hin : t.inputs = s.inputs) :
    t.Safe := by
  simp only [State.aside, Prod.mk.injEq] at ha
  obtain ⟨htrip, -, hc, hch, -⟩ := ha
  exact h.write hf hin (.inl (by rw [htrip])) hc (by rw [hch]; exact id)

theorem of_fixed (h : s.Safe) (ha : t.aside = s.aside) (hf : t.fixed = s.fixed) : t.Safe :=
  h.congr ha (frame_of_fixed hf) (inputs_of_fixed hf)

/-- An approach in RUN whose arms are safe. -/
theorem of_driven (hrun : t.running = true) (hrole : t.role = .approach) (hd : ArmsDriven t) (hch : t.channel.Idle) :
    t.Safe := ⟨.inl ⟨hrun, hrole, hd⟩, .inr hch⟩

theorem idle_of_role (h : s.Safe) (hrole : s.role ≠ .channel) : s.channel.Idle :=
  h.channel.resolve_left fun ⟨_, hr⟩ => hrole hr

/-- An operation of the Closure Unit of an approach in RUN. -/
theorem drive (h : s.Safe) (hrun : s.running = true) (hrole : s.role = .approach) (hf : t.fixed = s.fixed)
    (hch : t.channel = s.channel) (hd : ArmsDriven t) : t.Safe :=
  of_driven ((running_of_fixed hf).trans hrun) ((role_of_frame (frame_of_fixed hf)).trans hrole) hd
    (hch ▸ h.idle_of_role (by simp [hrole]))

/-- A Closure Unit that is not quiet is that of an approach in RUN. -/
theorem approach_of (h : s.Safe) (hq : ¬s.closure.Quiet) : s.running = true ∧ s.role = .approach := by
  have ⟨hrun, hrole, _⟩ := h.closure.resolve_right hq
  exact ⟨hrun, hrole⟩

theorem approach_of_phase (h : s.Safe) (hp : s.closure.phase ≠ none) : s.running = true ∧ s.role = .approach :=
  h.approach_of fun hq => hp hq.1

theorem channel_of (h : s.Safe) (hq : ¬s.channel.Idle) : s.running = true ∧ s.role = .channel := h.channel.resolve_right hq

/-- A change of one arm by an operation of its own, which keeps safe arms safe. -/
theorem arm (h : s.Safe) {i : Fin 4} (hquiet : ¬ArmQuiet (s.arm i)) (hb : t.besideArm i = s.besideArm i)
    (hf : t.fixed = s.fixed) (hd : ArmsDriven s → ArmsDriven t) : t.Safe := by
  obtain ⟨hrun, hrole⟩ := h.approach_of fun ⟨_, _, _, _, harms⟩ => hquiet (harms i)
  exact h.drive hrun hrole hf (congrArg (·.2.2.2.1) hb) (hd h.driven)

/-! ### Entries and trip causes -/

theorem enterApproach (h : s.Safe) {p : ApproachPhase} {held : Option ApproachPhase} (hrun : s.running = true)
    (hrole : s.role = .approach) : (enterApproach p held s).Safe :=
  h.drive hrun hrole (enterApproach_fixed p held s) (enterApproach_channel p held s) (armsDriven_enterApproach (.inr h.driven))

theorem enterChannel (h : s.Safe) {p : ChannelPhase} (hrun : s.running = true) (hrole : s.role = .channel) :
    (enterChannel p s).Safe := by
  have hf : (Machine.enterChannel p s).fixed = s.fixed := enterChannel_fixed p s
  have ha := enterChannel_aside p s
  simp only [State.aside, Prod.mk.injEq] at ha
  obtain ⟨htrip, -, hc, -, -⟩ := ha
  have hk : (Machine.enterChannel p s).closure.Quiet :=
    hc ▸ h.closure.resolve_left fun ⟨_, hr, _⟩ => by simp [hrole] at hr
  exact ⟨.inr hk, .inl ⟨(running_of_fixed hf).trans hrun, (role_of_frame (frame_of_fixed hf)).trans hrole⟩⟩

theorem enterCorner (h : s.Safe) (p : CornerPhase) (rel : Intent) : (enterCorner p rel s).Safe := by
  have hb := enterCorner_besideMotion p rel s
  simp only [State.besideMotion, Prod.mk.injEq] at hb
  obtain ⟨htrip, hc, hch, -, -⟩ := hb
  have hf := enterCorner_fixed p rel s
  exact h.write (frame_of_fixed hf) (inputs_of_fixed hf) (.inl (by rw [htrip])) hc (by rw [hch]; exact id)

theorem enterDesk (h : s.Safe) (p : DeskPhase) (d : Demand) : (enterDesk p d s).Safe := by
  have ha := enterDesk_aside p d s
  simp only [State.aside, Prod.mk.injEq] at ha
  obtain ⟨htrip, -, hc, hch, -⟩ := ha
  have hf := enterDesk_fixed p d s
  exact h.write (frame_of_fixed hf) (inputs_of_fixed hf) (.inl (by rw [htrip])) hc (by rw [hch]; exact id)

theorem deskIndicators (h : s.Safe) : (deskIndicators s).Safe := h.of_fixed (deskIndicators_aside s) (deskIndicators_fixed s)

/-- The entry into TRIPPED stops every arm, whatever the flag was before. -/
theorem submitCause (h : s.Safe) (c : Cause) : (submitCause c s).Safe := by
  rcases submitCause_cases c s with ⟨-, hc⟩ | ⟨-, hflag, trip, htrip, ha, -⟩ | ⟨hrun, -, t, ht, ha, -, hf⟩
  · rwa [hc]
  · simp only [State.aside, Prod.mk.injEq] at ha
    obtain ⟨hteq, -, hc, hch, -⟩ := ha
    have hf := submitCause_fixed c s
    exact h.write (frame_of_fixed hf) (inputs_of_fixed hf) (.inl (by rw [hteq, htrip, hflag])) hc (by rw [hch]; exact id)
  · simp only [State.aside, Prod.mk.injEq] at ha
    obtain ⟨-, -, hc, hch, -⟩ := ha
    have hrole : t.role = s.role := role_of_frame (frame_of_fixed hf)
    have hrunt : t.running = true := (running_of_fixed hf).trans hrun
    rw [ht]
    by_cases happroach : s.role = .approach
    · have e : enterTripped t = Machine.enterApproach .tripped none t := by simp [enterTripped, hrole, happroach]
      rw [e]
      have hfix : (Machine.enterApproach .tripped none t).fixed = t.fixed := enterApproach_fixed _ _ t
      refine of_driven ((running_of_fixed hfix).trans hrunt)
        ((role_of_frame (frame_of_fixed hfix)).trans (hrole.trans happroach)) (armsDriven_enterApproach (.inl rfl)) ?_
      rw [enterApproach_channel, hch]
      exact h.idle_of_role (by simp [happroach])
    · have h1 : t.Safe := h.write (frame_of_fixed hf) (inputs_of_fixed hf) (.inr fun hn => happroach hn.2) hc
        (by rw [hch]; exact id)
      unfold enterTripped
      split
      · exact h1.enterCorner _ _
      · exact absurd (hrole.symm.trans ‹_›) happroach
      · exact h1.enterChannel hrunt ‹_›
      · exact (h1.enterDesk _ _).deskIndicators

theorem submitIf (h : s.Safe) (b : Bool) (c : Cause) : (submitIf b c s).Safe := by
  unfold Machine.submitIf
  split
  · exact h.submitCause c
  · exact h

/-! ### The sequences of the roles -/

theorem keptByCorner : KeptByCorner State.Safe where
  motion _ _ _ h := h.write rfl rfl (.inl rfl) rfl id
  latch _ _ h := h.of_fixed rfl rfl
  enter _ p rel _ _ h := h.enterCorner p rel
  cause _ c h := h.submitCause c

theorem ofRun (h : s.Safe) (hr : CornerRun s t) : t.Safe := keptByCorner.run hr h

theorem phase_of_inClosingStage (h : s.inClosingStage = true) : s.closure.phase ≠ none := by
  intro hp
  simp [State.inClosingStage, hp] at h

theorem setHold (h : s.Safe) (hp : s.closure.phase ≠ none) : (setHold s).Safe := by
  obtain ⟨hrun, hrole⟩ := h.approach_of_phase hp
  have h1 : (s.onClosure fun c => { c with holdPending := true }).Safe :=
    h.drive hrun hrole rfl rfl h.driven.onClosure
  unfold Machine.setHold
  dsimp only
  split
  · exact h1.drive hrun hrole (commandArms_fixed _ _ _) (congrArg (·.2.2.2.1) (commandArms_besideArms _ _ _))
      (h1.driven.commandArms _ _)
  · exact h1

theorem keptByApproach : KeptByApproach State.Safe where
  hold _ hs h := h.setHold (phase_of_inClosingStage hs)
  enter _ _ _ _ _ hp _ h := by
    obtain ⟨hrun, hrole⟩ := h.approach_of_phase hp
    exact h.enterApproach hrun hrole
  resume _ hp h := by
    obtain ⟨hrun, hrole⟩ := h.approach_of_phase (by simp [hp])
    exact h.enterApproach hrun hrole
  anew t hp h := by
    obtain ⟨hrun, hrole⟩ := h.approach_of_phase (by simp [hp])
    exact h.drive hrun hrole (newClosure_fixed t) (congrArg (·.2.2.2.1) (newClosure_besideArms t)) h.driven.newClosure

theorem approachReact (h : s.Safe) : (approachReact s).Safe := keptByApproach.react h

theorem takeFallback (h : s.Safe) : (takeFallback s).Safe := by
  have ha := takeFallback_aside s
  simp only [State.aside, Prod.mk.injEq] at ha
  obtain ⟨htrip, -, hc, hch, -⟩ := ha
  have hf := takeFallback_fixed s
  exact h.write (frame_of_fixed hf) (inputs_of_fixed hf) (.inl (by rw [htrip])) hc (by rw [hch]; exact id)

theorem channel_of_phase (h : s.Safe) (hp : s.channel.phase ≠ none) : s.running = true ∧ s.role = .channel :=
  h.channel_of fun hq => hp hq.1

theorem keptByChannel : KeptByChannel State.Safe where
  enter _ _ _ _ hp h := by
    obtain ⟨hrun, hrole⟩ := h.channel_of_phase hp
    exact h.enterChannel hrun hrole
  fallback _ _ h := h.takeFallback

theorem channelReact (h : s.Safe) : (channelReact s).Safe := keptByChannel.react h

theorem roleReact (h : s.Safe) : (roleReact s).Safe := by
  unfold Machine.roleReact
  (repeat' split)
  · exact h.ofRun CornerRun.refl.cornerReact
  · exact h.approachReact
  · exact h.channelReact
  · exact h.deskIndicators
  · exact h

theorem lampReact (h : s.Safe) : (lampReact s).Safe := by
  unfold Machine.lampReact
  (repeat' split)
  · exact h.approachReact
  · exact h.channelReact
  · exact h
  · exact h
  · exact h

/-! ### The clear of a trip -/

/-- In RUN the role leaves TRIPPED with safe arms. -/
theorem leaveTripped (h : s.Safe) (hrun : s.running = true) : (leaveTripped s).Safe := by
  unfold Machine.leaveTripped
  split
  · exact (h.enterCorner _ _).ofRun (CornerRun.afterEntry (CornerRun.clearedCornerPhase_ne s) .none s).cornerReact
  · exact (h.enterApproach hrun ‹_›).approachReact
  · exact (h.enterChannel hrun ‹_›).channelReact
  · refine deskIndicators ?_
    split <;> exact h.enterDesk _ _

/-- With the flag set every output is off, so the flag can fall. -/
theorem clearFlag (h : s.Safe) (hflag : s.trip.flag = true) :
    (s.onTrip fun t => { t with flag := false, causes := [], more := false }).Safe := by
  refine ⟨?_, h.channel⟩
  rcases h.closure with ⟨hrun, hrole, hd⟩ | hq
  · refine .inl ⟨hrun, hrole, fun i => armSafe_of_off ?_ ?_⟩
    · cases hup : (s.arm i).up with
      | false => exact hup
      | true => simp [((hd i).1 hup).2] at hflag
    · cases hdown : (s.arm i).down with
      | false => exact hdown
      | true => simp [((hd i).2 hdown).2.2] at hflag
  · exact .inr hq

theorem acceptClear (h : s.Safe) (source : Nat) (hrun : s.running = true) (hflag : s.trip.flag = true) :
    (acceptClear source s).Safe := by
  unfold Machine.acceptClear
  refine leaveTripped ((h.clearFlag hflag).of_fixed (report_aside _ _ _ _ _ _ _) (report_fixed _ _ _ _ _ _ _)) ?_
  exact (running_of_fixed (report_fixed _ _ _ _ _ _ _)).trans hrun

theorem flag_of_accepted (hd : s.decideClear = .accepted) : s.trip.flag = true := by
  unfold State.decideClear at hd
  split at hd
  · cases hd
  · simpa using ‹¬s.trip.flag = false›

theorem clearAttempt (h : s.Safe) (source : Nat) (hrun : s.running = true) : (clearAttempt source s).Safe := by
  unfold Machine.clearAttempt
  split
  · exact h.acceptClear source hrun (flag_of_accepted ‹_›)
  · exact h
  · exact h

theorem clearPress (h : s.Safe) (hrun : s.running = true) : (clearPress s).Safe :=
  clearAttempt (s := s.onDesk fun k => { k with clearCount := (k.clearCount + 1) % 16 })
    (h.write rfl rfl (.inl rfl) rfl id) _ hrun

/-! ### Frames and the peer table -/

theorem acceptFrame (h : s.Safe) (line : LinkLine) (j : Fin 12) (f : Frame) (hrun : s.running = true) :
    (acceptFrame line j f s).Safe := by
  unfold Machine.acceptFrame
  split
  · exact h
  · extract_lets digestOk oldDigestOk oldContent e1 s1 s2 changed s3 s4 newContent s5
    have h2 : s2.Safe ∧ s2.running = true := by
      dsimp only [s2]
      split <;> exact ⟨h.congr rfl rfl rfl, hrun⟩
    have h3 : s3.Safe ∧ s3.running = true := by
      dsimp only [s3]
      split
      · exact ⟨h2.1.of_fixed (peerReport_aside _ _ _ _) (peerReport_fixed _ _ _ _),
          (running_of_fixed (peerReport_fixed _ _ _ _)).trans h2.2⟩
      · exact h2
    have h4 : s4.Safe := by
      dsimp only [s4]
      split
      · exact h3.1.clearAttempt _ h3.2
      · exact h3.1
    have h5 : s5.Safe := by
      dsimp only [s5]
      split
      · exact h4.submitIf _ _
      · exact h4
    split
    · exact h5.roleReact
    · exact h5

theorem ownNumberFrame (h : s.Safe) : (ownNumberFrame s).Safe := by
  have h1 : ({ Machine.latch .duplicateStation s with duplicateTimer := some s.staleTime } : State).Safe :=
    h.congr rfl rfl rfl
  unfold Machine.ownNumberFrame
  exact h1.submitCause _

theorem checkFrame (h : s.Safe) (line : LinkLine) (f : Frame) (hrun : s.running = true) : (checkFrame line f s).Safe := by
  unfold Machine.checkFrame
  (repeat' split)
  · exact h.ownNumberFrame
  · exact h.congr rfl rfl rfl
  · exact h.congr rfl rfl rfl
  · exact h.acceptFrame _ _ _ hrun
  · exact h

/-- An operation of the link. -/
theorem unlinked (h : s.Safe) (ha : t.aside = s.aside) (hf : t.fixed.unlinked = s.fixed.unlinked) : t.Safe :=
  h.congr ha (Fixed.frame_of_setup (Fixed.setup_of_unlinked hf)) (congrArg Fixed.inputs hf : t.fixed.unlinked.inputs = _)

theorem onLine (h : s.Safe) (l : LinkLine) (f : LineUnit → LineUnit) : (s.onLine l f).Safe :=
  h.unlinked (onLine_aside l f s) (onLine_unlinked l f s)

theorem healthReact (h : s.Safe) : (healthReact s).Safe := h.of_fixed (healthReact_aside s) (healthReact_fixed s)

theorem receiveFrame (h : s.Safe) (line : LinkLine) (levels : List Bool) : (receiveFrame line levels s).Safe := by
  unfold Machine.receiveFrame Machine.takeFrame
  dsimp only
  split
  · exact h
  · split
    · exact h.onLine _ _
    · rename_i hc
      have hrun : s.running = true := by
        cases hr : s.running with
        | true => rfl
        | false => exact absurd (.inr hr) hc
      split
      · exact h.onLine _ _
      · refine checkFrame (healthReact ((h.onLine _ _).unlinked (validFrame_aside _ _ _) (validFrame_unlinked _ _ _))) _ _ ?_
        rw [running_of_fixed (healthReact_fixed _), running_of_setup (validFrame_setup _ _ _),
          running_of_setup (onLine_setup _ _ _)]
        exact hrun

theorem staleExpiry (h : s.Safe) (j : Fin 12) : (staleExpiry j s).Safe := by
  unfold Machine.staleExpiry
  split
  · exact h
  · split
    · refine roleReact (submitIf ?_ _ _)
      exact congr (s := s.setPeer _ _) (h.congr rfl rfl rfl)
        (peerReport_aside _ _ _ _) (frame_of_fixed (peerReport_fixed _ _ _ _)) (inputs_of_fixed (peerReport_fixed _ _ _ _))
    · exact h

theorem lostExpiry (h : s.Safe) (j : Fin 12) : (lostExpiry j s).Safe := by
  unfold Machine.lostExpiry
  split
  · exact h
  · split
    · refine roleReact ?_
      exact congr (s := s.setPeer _ _) (h.congr rfl rfl rfl)
        (peerReport_aside _ _ _ _) (frame_of_fixed (peerReport_fixed _ _ _ _)) (inputs_of_fixed (peerReport_fixed _ _ _ _))
    · exact h

theorem seenExpiry (h : s.Safe) (j : Fin 12) (line : LinkLine) : (seenExpiry j line s).Safe := by
  unfold Machine.seenExpiry
  (repeat' split) <;> exact h.congr rfl rfl rfl

end State.Safe

end Sys2Proof.Machine
end

section
/-! PROOFS. The events, the RUN order and the other orders keep arms and channel safe. -/

namespace Sys2Proof.Machine

/-! ### Presence at a change of an input -/

theorem filtered_setInput_ne {i k : Fin 25} (hk : k ≠ i) (x : InputLine) (s : State) :
    (s.setInput i x).filtered k = s.filtered k := by
  rw [State.filtered, State.inputLine_setInput_ne hk]
  rfl

theorem filtered_setInput (i : Fin 25) (x : InputLine) (s : State) : (s.setInput i x).filtered i = x.filtered := by
  rw [State.filtered, State.inputLine_setInput]

/-- Only an input of FI8 to FI15 changes a presence, and only that of its own arm. -/
theorem presence_setInput {i : Fin 25} {j : Fin 4} (hj : j ≠ laneArm i ∨ i.val < 8 ∨ 16 ≤ i.val) (x : InputLine) (s : State) :
    (s.setInput i x).presence j = s.presence j := by
  have hlane : loopInput j ≠ i ∧ obstructionInput j ≠ i := by
    simp only [loopInput, obstructionInput, laneArm, ne_eq, Fin.ext_iff] at hj ⊢
    omega
  simp only [State.presence, State.loop, filtered_setInput_ne hlane.1, filtered_setInput_ne hlane.2]

/-- An input whose filtered state stays leaves every presence. -/
theorem presence_setInput_same {i : Fin 25} {x : InputLine} {s : State} (hx : x.filtered = s.filtered i) (j : Fin 4) :
    (s.setInput i x).presence j = s.presence j := by
  have hall : ∀ k, (s.setInput i x).filtered k = s.filtered k := fun k => by
    by_cases hk : k = i
    · rw [hk, filtered_setInput, hx]
    · exact filtered_setInput_ne hk x s
  simp only [State.presence, State.loop, hall]

/-- An input that falls gives no presence. -/
theorem presence_setInput_false {i : Fin 25} {x : InputLine} {s : State} (hx : x.filtered = false) {j : Fin 4}
    (h : s.presence j = false) : (s.setInput i x).presence j = false := by
  have hall : ∀ k, s.filtered k = false → (s.setInput i x).filtered k = false := fun k hf => by
    by_cases hk : k = i
    · rw [hk, filtered_setInput, hx]
    · rw [filtered_setInput_ne hk, hf]
  simp only [State.presence, State.loop, Bool.or_eq_false_iff] at h ⊢
  exact ⟨hall _ h.1, hall _ h.2⟩

/-! ### The arms at their events -/

/-- An arm acts, and its outputs follow: it need not have been safe before. -/
theorem armsDriven_driveArm {s t : State} {i : Fin 4} (h : ∀ j, j ≠ i → ArmSafe s j) (hb : t.besideArm i = s.besideArm i)
    (hf : t.fixed = s.fixed) : ArmsDriven (driveArm i t) := by
  intro j
  by_cases hj : j = i
  · subst hj
    exact armSafe_driveArm j t
  · exact (h j hj).beside hj ((driveArm_besideArm i t).trans hb) ((driveArm_fixed i t).trans hf)

theorem ArmsDriven.patternEvent {s : State} (h : ArmsDriven s) (i : Fin 4) (old : LimitPattern) :
    ArmsDriven (patternEvent i old s) := by
  unfold Machine.patternEvent
  split
  case h_1 | h_2 | h_3 | h_4 | h_5 => exact h.drive i (by simp) (by simp)
  case h_6 => exact h.drive i (by simp) (by simp)
  case h_7 => exact h.drive i (by simp) (by simp)
  case h_8 | h_9 | h_10 | h_11 =>
    split
    · exact h.drive i (by simp) (by simp)
    · exact h
  case h_12 => exact h

/-- A presence that rises reverses or holds its arm; one that falls leaves it safe. -/
theorem armsDriven_presenceEvent {s : State} {i : Fin 4} {active : Bool} (h : ∀ j, j ≠ i → ArmSafe s j)
    (hi : active = false → ArmSafe s i) : ArmsDriven (presenceEvent i active s) := by
  unfold presenceEvent
  split
  · split
    · exact armsDriven_driveArm h (by simp) (by simp)
    · intro j
      by_cases hj : j = i
      · exact hj ▸ hi (by simpa using ‹¬active = true›)
      · exact h j hj
  · exact armsDriven_driveArm h (by simp) (by simp)

/-- The report of a new arm state leaves the outputs. -/
theorem enterArm_outputs (i : Fin 4) (x : ArmState) (event : Nat) (s : State) :
    ((enterArm i x event s).arm i).up = (s.arm i).up ∧ ((enterArm i x event s).arm i).down = (s.arm i).down := by
  have closure_arm : ∀ {t u : State}, t.closure = u.closure → t.arm i = u.arm i := fun e => by rw [State.arm, e]; rfl
  unfold enterArm
  dsimp only
  split
  · exact ⟨rfl, rfl⟩
  · have e : ∀ a b c d (f : Arm → Arm), ((report .arm a b c event d (feed s (s.onArm i f))).arm i) = f (s.arm i) :=
      fun a b c d f => (closure_arm (report_closure _ _ _ _ _ _ _)).trans (State.arm_onArm i f s)
    split
    · have hl : ∀ t : State, (latch .armFault t).arm i = t.arm i := fun _ => rfl
      rw [hl, e]
      exact ⟨rfl, rfl⟩
    · rw [e]
      exact ⟨rfl, rfl⟩

/-- An arm with both outputs off. -/
def ArmOff (s : State) (i : Fin 4) : Prop := (s.arm i).up = false ∧ (s.arm i).down = false

theorem armOff_deriveArm {i j : Fin 4} {s : State} (h : ArmOff s j) : ArmOff (deriveArm i s) j := by
  by_cases hj : j = i
  · subst hj
    unfold deriveArm
    dsimp only
    split
    · obtain ⟨hup, hdown⟩ := enterArm_outputs j (derivedState (s.armPattern j)) 1 (s.onArm j fun a => { a with retry := 0 })
      rw [State.arm_onArm] at hup hdown
      exact ⟨hup.trans h.1, hdown.trans h.2⟩
    · unfold ArmOff
      rw [State.arm_onArm, State.arm_onArm]
      exact h
  · unfold ArmOff
    rw [arm_of_besideArm (deriveArm_besideArm i s) hj]
    exact h

theorem armOff_deriveArms {s : State} (h : ∀ j, ArmOff s j) (j : Fin 4) : ArmOff (deriveArms s) j := by
  have fold : ∀ (l : List (Fin 4)) (t : State), (∀ j, ArmOff t j) → ∀ j, ArmOff (l.foldl (fun t i => deriveArm i t) t) j := by
    intro l
    induction l with
    | nil => exact fun t ht => ht
    | cons i l ih => exact fun t ht => ih _ fun j => armOff_deriveArm (ht j)
  exact fold arms s h j

namespace State.Safe

variable {s t : State}

/-! ### Inputs -/

theorem followDeck (h : s.Safe) (old : Bool) : (followDeck old s).Safe := by
  unfold Machine.followDeck
  split
  · rename_i hc
    have hp : s.closure.phase = some .deckClearing := by simpa [State.approachIs] using (Bool.and_eq_true_iff.mp hc).1
    obtain ⟨hrun, hrole⟩ := h.approach_of_phase (by simp [hp])
    exact h.drive hrun hrole rfl rfl h.driven.onClosure
  · exact h

theorem testVesselAlert (h : s.Safe) : (testVesselAlert s).Safe := by
  have ha := testVesselAlert_aside s
  simp only [State.aside, Prod.mk.injEq] at ha
  obtain ⟨htrip, -, hc, hch, -⟩ := ha
  have hf := testVesselAlert_fixed s
  exact h.write (frame_of_fixed hf) (inputs_of_fixed hf) (.inl (by rw [htrip])) hc (by rw [hch]; exact id)

theorem vesselEvent (h : s.Safe) (active : Bool) : (vesselEvent active s).Safe := by
  unfold Machine.vesselEvent
  dsimp only
  refine channelReact (testVesselAlert ?_)
  split
  · rename_i hp
    rw [State.channelIs, beq_iff_eq] at hp
    have hc := h.channel_of_phase (by simp [hp])
    exact ⟨h.closure, .inl hc⟩
  · exact h

theorem setDemand (h : s.Safe) (d : Demand) : (setDemand d s).Safe :=
  deskIndicators (s := s.onDesk fun k => { k with heldDemand := d }) (h.write rfl rfl (.inl rfl) rfl id)

theorem demandPress (h : s.Safe) (d : Demand) : (demandPress d s).Safe := by
  unfold Machine.demandPress
  split
  · exact h.setDemand d
  · exact h

theorem keyEvent (h : s.Safe) (active : Bool) : (keyEvent active s).Safe := by
  unfold Machine.keyEvent
  (repeat' split)
  · exact (h.enterDesk _ _).deskIndicators
  · exact (h.enterDesk _ _).deskIndicators
  · exact h.deskIndicators

theorem deliverDesk (h : s.Safe) (i : Fin 25) (active : Bool) (hrun : s.running = true) : (deliverDesk i active s).Safe := by
  unfold Machine.deliverDesk
  (repeat' split)
  · exact h.demandPress _
  · exact h
  · exact h.demandPress _
  · exact h
  · exact h.demandPress _
  · exact h
  · exact h.clearPress hrun
  · exact h
  · exact h.keyEvent active
  · exact h

/-- An input's new filtered state is safe where it changes no presence, or where no arm is concerned. -/
theorem setInput (h : s.Safe) {i : Fin 25} {x : InputLine}
    (hp : s.running = true → s.role = .approach → ∀ j, (s.setInput i x).presence j = s.presence j) :
    (s.setInput i x).Safe := by
  refine ⟨?_, h.channel⟩
  rcases h.closure with ⟨hrun, hrole, hd⟩ | hq
  · refine .inl ⟨hrun, hrole, fun j => ?_⟩
    unfold ArmSafe
    rw [hp hrun hrole j]
    exact hd j
  · exact .inr hq

/-- What the filter of an approach hands on: `t` is the state with the input's new level, before the role block acts. -/
theorem deliverApproach (h : s.Safe) {i : Fin 25} {x : InputLine} (hrun : s.running = true) (hrole : s.role = .approach)
    (ha : t.aside = (s.setInput i x).aside) (hf : t.fixed = (s.setInput i x).fixed) :
    (deliverApproach i x.filtered s t).Safe := by
  have hsafe : (∀ j, (s.setInput i x).presence j = s.presence j) → t.Safe := fun hp =>
    (h.setInput fun _ _ => hp).of_fixed ha hf
  have hrunt : t.running = true := (running_of_fixed hf).trans hrun
  have hrolet : t.role = .approach := (role_of_frame (frame_of_fixed hf)).trans hrole
  have hidle : t.channel.Idle := by
    have : t.channel = s.channel := congrArg (·.2.2.2.1) ha
    rw [this]
    exact h.idle_of_role (by simp [hrole])
  have htrip : t.trip = s.trip := trip_of_aside ha
  have harm : ∀ j, t.arm j = s.arm j := fun j => by
    have : t.closure = s.closure := congrArg (·.2.2.1) ha
    rw [State.arm, this]
    rfl
  have hpresence : ∀ j, t.presence j = (s.setInput i x).presence j := presence_of_inputs (inputs_of_fixed hf)
  have hlane : ∀ j, j ≠ laneArm i → ArmSafe t j := fun j hj => by
    unfold ArmSafe
    rw [harm, htrip, hpresence, presence_setInput (.inl hj)]
    exact h.driven j
  have hfall : x.filtered = false → ArmSafe t (laneArm i) := fun hx => by
    obtain ⟨hup, hdown⟩ := h.driven (laneArm i)
    unfold ArmSafe
    rw [harm, htrip, hpresence]
    refine ⟨hup, fun hd => ?_⟩
    obtain ⟨h1, h2, h3⟩ := hdown hd
    exact ⟨h1, presence_setInput_false hx h2, h3⟩
  unfold Machine.deliverApproach
  (repeat' split)
  · have hs : t.Safe := hsafe fun j => presence_setInput (.inr (.inl ‹_›)) x s
    exact (hs.drive hrunt hrolet (patternEvent_fixed _ _ _) (congrArg (·.2.2.2.1) (patternEvent_besideArm _ _ _))
      (hs.driven.patternEvent _ _)).approachReact
  · have hfix : (presenceEvent (laneArm i) x.filtered t).fixed = t.fixed := presenceEvent_fixed _ _ _
    have hch : (presenceEvent (laneArm i) x.filtered t).channel = t.channel :=
      congrArg (·.2.2.2.1) (presenceEvent_besideArm _ _ _)
    have hs : (presenceEvent (laneArm i) x.filtered t).Safe :=
      of_driven ((running_of_fixed hfix).trans hrunt) ((role_of_frame (frame_of_fixed hfix)).trans hrolet)
        (armsDriven_presenceEvent hlane hfall) (by rw [hch]; exact hidle)
    exact (hs.followDeck _).approachReact
  · exact ((hsafe fun j => presence_setInput (.inr (.inr (by omega))) x s).followDeck _).approachReact
  · exact hsafe fun j => presence_setInput (.inr (.inr (by omega))) x s

theorem filterExpiry (h : s.Safe) (i : Fin 25) : (filterExpiry i s).Safe := by
  unfold Machine.filterExpiry
  extract_lets x s1 s2
  split
  · split
    · rename_i hc
      refine h.setInput fun hrun _ j => presence_setInput_same ?_ j
      exact hc.resolve_right (by simp [hrun])
    · rename_i hc
      have hrun : s.running = true := by
        cases hr : s.running with
        | true => rfl
        | false => exact absurd (.inr hr) hc
      have h2 : s2.aside = s1.aside ∧ s2.fixed = s1.fixed := by
        dsimp only [s2]
        split
        · exact ⟨report_aside _ _ _ _ _ _ _, report_fixed _ _ _ _ _ _ _⟩
        · exact ⟨rfl, rfl⟩
      have hrole2 : s2.role = s.role := (role_of_frame (frame_of_fixed h2.2)).trans rfl
      have hs : s2.role ≠ .approach → s2.Safe := fun hne =>
        (h.setInput fun _ hr => absurd (hrole2.trans hr) hne).of_fixed h2.1 h2.2
      unfold deliverInput
      split
      · exact (hs (by rw [‹s2.role = _›]; decide)).ofRun CornerRun.refl.deliverCorner
      · exact h.deliverApproach (x := { x with filtered := x.raw, filterTimer := none, bounce := 0 }) hrun
          (hrole2.symm.trans ‹_›) h2.1 h2.2
      · unfold deliverChannel
        split
        · exact (hs (by rw [‹s2.role = _›]; decide)).vesselEvent _
        · exact hs (by rw [‹s2.role = _›]; decide)
      · exact (hs (by rw [‹s2.role = _›]; decide)).deliverDesk _ _ ((running_of_fixed h2.2).trans hrun)
  · exact h

theorem sampleInput (h : s.Safe) (i : Fin 25) (active : Bool) : (sampleInput i active s).Safe := by
  unfold Machine.sampleInput
  dsimp only
  split
  · exact h
  · refine h.setInput fun _ _ j => presence_setInput_same ?_ j
    rfl

theorem estopExpiry (h : s.Safe) : (estopExpiry s).Safe := by
  unfold Machine.estopExpiry
  split
  · refine submitIf (s := s.onTrip _) (h.write rfl rfl (.inl rfl) rfl id) _ _
  · exact h

/-! ### Timers of an approach and a channel -/

/-- The Closure Unit of a station that is no approach has no stage timer that could expire. -/
theorem approach_of_timer (h : s.Safe) (ht : s.closure.amberTimer.isSome = true ∨ s.closure.redTimer.isSome = true ∨
    s.closure.deckClearTimer.isSome = true) : s.running = true ∧ s.role = .approach := by
  refine h.approach_of fun ⟨_, hamber, hred, hdeck, _⟩ => ?_
  simp [hamber, hred, hdeck] at ht

theorem completeStage (h : s.Safe) (next : ApproachPhase) (ht : s.closure.amberTimer.isSome = true ∨
    s.closure.redTimer.isSome = true ∨ s.closure.deckClearTimer.isSome = true) : (completeStage next s).Safe := by
  obtain ⟨hrun, hrole⟩ := h.approach_of_timer ht
  unfold Machine.completeStage
  split <;> exact h.enterApproach hrun hrole

theorem redExpiry (h : s.Safe) : (redExpiry s).Safe := by
  unfold Machine.redExpiry
  split
  · rename_i ht
    obtain ⟨hrun, hrole⟩ := h.approach_of_timer (.inr (.inl ht))
    have h1 : (latch .stopSignalFailed s).Safe := h.of_fixed rfl rfl
    dsimp only
    (repeat' split)
    · exact (h.completeStage _ (.inr (.inl ht))).approachReact
    · exact (h1.enterApproach hrun hrole).approachReact
    · exact approachReact (h1.drive hrun hrole rfl rfl h1.driven.onClosure)
  · exact h

theorem deckLimitExpiry (h : s.Safe) : (deckLimitExpiry s).Safe := by
  unfold Machine.deckLimitExpiry
  split
  · rcases h.closure with ⟨hrun, hrole, hd⟩ | hq
    · have h1 : (s.onClosure fun c => { c with deckLimitTimer := none }).Safe := h.drive hrun hrole rfl rfl hd.onClosure
      exact h1.of_fixed rfl rfl
    · exact ⟨.inr hq, h.channel⟩
  · exact h

theorem clearingExpiry (h : s.Safe) : (clearingExpiry s).Safe := by
  unfold Machine.clearingExpiry
  split
  · rename_i ht
    obtain ⟨hrun, hrole⟩ := h.channel_of fun hq => by simp [hq.2] at ht
    exact (h.enterChannel hrun hrole).channelReact
  · exact h

theorem gapExpiry (h : s.Safe) (i : Fin 4) : (gapExpiry i s).Safe := by
  unfold Machine.gapExpiry
  split
  · rename_i ht
    exact h.arm (i := i) (fun ⟨_, _, _, _, _, _, hgap⟩ => by simp [hgap] at ht) (by simp) (by simp)
      fun hd => hd.drive i (by simp) (by simp)
  · exact h

theorem armTravelExpiry (h : s.Safe) (i : Fin 4) : (armTravelExpiry i s).Safe := by
  unfold Machine.armTravelExpiry
  split
  · rename_i ht
    exact h.arm (i := i) (fun ⟨_, _, _, htravel, _⟩ => by simp [htravel] at ht) (by simp) (by simp)
      fun hd => hd.drive i (by simp) (by simp)
  · exact h

theorem retryExpiry (h : s.Safe) (i : Fin 4) : (retryExpiry i s).Safe := by
  unfold Machine.retryExpiry
  split
  · rename_i ht
    exact h.arm (i := i) (fun ⟨_, _, _, _, hretry, _⟩ => by simp [hretry] at ht) (by simp) (by simp)
      fun hd => hd.drive i (by simp) (by simp)
  · exact h

theorem laneExpiry (h : s.Safe) (i : Fin 4) : (laneExpiry i s).Safe := by
  unfold Machine.laneExpiry
  dsimp only
  split
  · rename_i ht
    exact h.arm (i := i) (fun ⟨_, _, _, _, _, hlane, _⟩ => by simp [hlane] at ht) (by simp) (by simp)
      fun hd => (hd.onArm (f := fun a => { a with laneTimer := none })).of_aside
        (report_aside _ _ _ _ _ _ _) (report_fixed _ _ _ _ _ _ _)
  · exact h

/-! ### Events -/

theorem event {c : Instr} {f : State → State} (hf : eventWork c = some f) (h : s.Safe) : (f s).Safe := by
  have lamp : ∀ {t : State}, t.aside = s.aside → t.fixed = s.fixed → (Machine.lampReact t).Safe := fun ha ht =>
    (h.of_fixed ha ht).lampReact
  have table (ht : transmitterEvent c = false) (hc : cornerEvent c = false) : (f s).Safe := by
    cases c <;> cases ht <;> cases hc <;> cases hf
    case frameReceived line levels => exact h.receiveFrame line levels
    case staleTimerExpiry j => exact h.staleExpiry j
    case lostTimerExpiry j => exact h.lostExpiry j
    case seenTimerExpiry j line => exact h.seenExpiry j line
    case duplicateTimerExpiry => exact h.congr rfl rfl rfl
    case stationTimeTick =>
      have h1 : s.aged.Safe := h.congr rfl rfl rfl
      rw [timeTick_eq]
      exact h1.submitIf _ _
    case healthTimerExpiry l =>
      exact (h.unlinked (healthExpiry_aside l s) (healthExpiry_unlinked l s)).healthReact
    case inputRawChange i active => exact h.sampleInput i active
    case filterTimerExpiry i => exact h.filterExpiry i
    case estopRawChange active => unfold sampleEstop; split; exacts [h, h.write rfl rfl (.inl rfl) rfl id]
    case estopEvent => exact h.estopExpiry
    case amberTimerExpiry =>
      unfold amberExpiry
      split
      · exact (h.completeStage _ (.inl ‹_›)).approachReact
      · exact h
    case redClearanceExpiry => exact h.redExpiry
    case deckClearExpiry =>
      unfold deckClearExpiry
      split
      · exact (h.completeStage _ (.inr (.inr ‹_›))).approachReact
      · exact h
    case deckLimitExpiry => exact h.deckLimitExpiry
    case gapTimerExpiry i => exact h.gapExpiry i
    case armTravelTimeout i => exact (h.armTravelExpiry i).approachReact
    case retryTimerExpiry i => exact (h.retryExpiry i).approachReact
    case laneTimerExpiry i => exact h.laneExpiry i
    case clearingTimerExpiry => exact h.clearingExpiry
    case flashHalfExpiry => exact lamp (by simp) (by simp)
    case lampSenseEvent i sensed => exact lamp (by simp) (by simp)
    case provingTimerExpiry i => exact lamp (by simp) (by simp)
    case watchTimerExpiry i => exact lamp (by simp) (by simp)
    case darkTimerExpiry i => exact lamp (by simp) (by simp)
    case stepTimerExpiry k => exact h.of_fixed (by simp) (by simp)
  cases ht : transmitterEvent c with
  | true =>
    exact h.unlinked (eventWork_transmitter_aside hf ht s) (eventWork_unlinked hf (by cases c <;> cases ht <;> rfl) s)
  | false =>
    cases hc : cornerEvent c with
    | true => exact h.ofRun (eventWork_cornerRun hf hc s)
    | false => exact table ht hc

/-! ### RUN -/

theorem runRole (h : s.Safe) (hrun : s.running = true) (hq : s.closure.Quiet) (hidle : s.channel.Idle) :
    (runRole s).Safe := by
  unfold Machine.runRole
  split
  · have hb := cornerAtRun_besideMotion s
    simp only [State.besideMotion, Prod.mk.injEq] at hb
    obtain ⟨htrip, hc, hch, -, -⟩ := hb
    have hf : (CornerRun.cornerAtRun s).fixed = s.fixed := by simp [CornerRun.cornerAtRun]
    have h1 : (CornerRun.cornerAtRun s).Safe :=
      h.write (frame_of_fixed hf) (inputs_of_fixed hf) (.inl (by rw [htrip])) hc (by rw [hch]; exact id)
    exact (h1.enterCorner _ _).ofRun (CornerRun.runCorner s)
  · rename_i hrole
    have hf : (deriveArms s).fixed = s.fixed := deriveArms_fixed s
    have hch : (deriveArms s).channel = s.channel := congrArg (·.2.2.2.1) (deriveArms_besideArms s)
    have hrund := (running_of_fixed hf).trans hrun
    have hroled := (role_of_frame (frame_of_fixed hf)).trans hrole
    have hoff : ∀ j, ArmOff s j := fun j => by
      obtain ⟨-, -, -, -, harms⟩ := hq
      obtain ⟨-, hup, hdown, -⟩ := harms j
      exact ⟨hup, hdown⟩
    have hd : ArmsDriven (deriveArms s) := fun j => by
      obtain ⟨hup, hdown⟩ := armOff_deriveArms hoff j
      exact armSafe_of_off hup hdown
    have h1 : (deriveArms s).Safe := of_driven hrund hroled hd (by rw [hch]; exact hidle)
    exact ((h1.enterApproach hrund hroled).submitIf _ _).approachReact
  · exact ((h.enterChannel hrun ‹_›).submitIf _ _).channelReact
  · exact ((h.enterDesk _ _).submitIf _ _).deskIndicators

theorem startRun (h : s.Safe) (hrun : s.running = false) : (startRun s).Safe := by
  have hq : s.closure.Quiet := h.closure.resolve_left fun ⟨hr, _⟩ => by simp [hrun] at hr
  have hidle : s.channel.Idle := h.channel.resolve_left fun ⟨hr, _⟩ => by simp [hrun] at hr
  have ha := atRun_aside s
  simp only [State.aside, Prod.mk.injEq] at ha
  obtain ⟨-, -, hc, hch, -⟩ := ha
  have hq1 : (atRun s).closure.Quiet := by rw [hc]; exact hq
  have hidle1 : (atRun s).channel.Idle := by rw [hch]; exact hidle
  have hrun1 : (atRun s).running = true := (congrArg Fixed.running (atRun_unlinked s) : (atRun s).fixed.unlinked.running = _)
  have h1 : (atRun s).Safe := ⟨.inr hq1, .inr hidle1⟩
  have h2 := h1.runRole hrun1 hq1 hidle1
  rw [← startBlocks_eq] at h2
  exact ((h2.onLine .a _).onLine .b _).unlinked (fillBoth_aside _) (fillBoth_unlinked _)

/-! ### Orders -/

theorem setInhibit (h : s.Safe) (on : Bool) : (setInhibit on s).Safe := by
  unfold Machine.setInhibit
  split
  · exact h
  · exact roleReact (h.congr rfl rfl rfl)

theorem takeNavAccept (h : s.Safe) : (takeNavAccept s).Safe := by
  unfold Machine.takeNavAccept
  split
  · exact h
  · extract_lets s1
    have h1 : s1.Safe := h.write rfl rfl (.inl rfl) rfl id
    split
    · rename_i hp
      rw [State.channelIs, beq_iff_eq] at hp
      obtain ⟨hrun, hrole⟩ := h.channel_of_phase (by simp [hp])
      exact (h1.enterChannel hrun hrole).channelReact
    · exact h1

theorem order {c : Instr} {d : State → State × Answer} (hd : orderDecision c = some d) (h : s.Safe) : (d s).1.Safe := by
  cases c <;> cases hd
  case setItem item value => unfold orderSetItem; (repeat' split); exacts [h, h, ⟨h.closure, h.channel⟩]
  case setRoster codes => unfold orderSetRoster; (repeat' split); exacts [h, ⟨h.closure, h.channel⟩, h]
  case run =>
    unfold orderRun
    (repeat' split)
    · exact h
    · exact h
    · rename_i hrun _ _
      exact h.startRun (by simpa using hrun)
  case enableReset => exact h.congr rfl rfl rfl
  case setMask => exact h.congr rfl rfl rfl
  case setThreshold threshold =>
    unfold orderSetThreshold
    exact h.congr rfl rfl rfl
  case clearInhibit => unfold orderClearInhibit; (repeat' split); exacts [h, h, h.setInhibit _]
  case setInhibit => unfold orderSetInhibit; split; exacts [h, h.setInhibit _]
  case clearTrip =>
    unfold orderClearTrip
    (repeat' split)
    · exact h
    · exact h
    · exact h
    · rename_i hrun _ hd
      exact h.acceptClear _ (by simpa using hrun) (flag_of_accepted hd)
  case home =>
    unfold orderHome
    (repeat' split)
    · exact h
    · exact h
    · exact h
    · exact h
    · rename_i hp _ _
      refine h.ofRun (CornerRun.refl.toCorner (p := .homing) (by decide) ?_).cornerReact
      intro ht
      simp [State.cornerIs, ht] at hp
  case armAccept arm =>
    unfold orderArmAccept
    dsimp only
    split
    · exact h
    · rename_i hrole
      have hrole : s.role = .approach := by simpa using hrole
      split
      · exact h
      · exact h
      · exact h
      · rename_i p i hrun _ _
        (repeat' split)
        · exact h
        · exact h
        · have ht : (driveArm i (enterArm i .manual 3 s)).Safe :=
            h.drive hrun hrole (by simp) (congrArg (·.2.2.2.1) (by simp : State.besideArm i _ = s.besideArm i))
              (h.driven.drive i (by simp) (by simp))
          exact ht.approachReact
  case armReset arm =>
    unfold orderArmReset
    dsimp only
    split
    · exact h
    · rename_i hrole
      have hrole : s.role = .approach := by simpa using hrole
      split
      · exact h
      · rename_i hrun
        have hrun : s.running = true := by simpa using hrun
        split
        · exact h
        · rename_i i _
          (repeat' split)
          · exact h
          · exact h
          · unfold resetArm
            exact approachReact (h.drive hrun hrole (by simp)
              (congrArg (·.2.2.2.1) (by simp : State.besideArm i _ = s.besideArm i))
              (h.driven.drive i (by simp) (by simp)))
  case navAccept =>
    unfold orderNavAccept
    (repeat' split)
    · exact h
    · exact h
    · exact h
    · exact h.takeNavAccept
  case demand value =>
    unfold orderDemand
    (repeat' split)
    · exact h
    · exact h
    · exact h
    · exact h
    · exact h
    · dsimp only
      exact h.setDemand _
  case setGoal height =>
    unfold orderSetGoal
    split
    · exact h
    · split
      · exact h
      · exact h.write rfl rfl (.inl rfl) rfl id
  case clearRequest =>
    unfold orderClearRequest
    split
    · exact h
    · split
      · exact h
      · rename_i hrun
        dsimp only
        exact h.clearPress (by simpa using hrun)

end State.Safe

/-- A station at rest is safe. -/
theorem State.AtRest.safe {s : State} (h : s.AtRest) : s.Safe :=
  ⟨.inr ⟨h.closure.phase, h.closure.amberTimer, h.closure.redTimer, h.closure.deckClearTimer, h.closure.arms⟩, .inr h.channel⟩

theorem safe_keptByCommands : KeptByCommands State.Safe where
  handled _ _ hu h := h.congr (aside_of_unchangedBut hu (by decide)) (frame_of_unchangedBut hu (by decide)) (hu .inputs (by decide))
  published before after h := h.unlinked (publish_aside before after) (publish_unlinked before after)
  filled s _ h := h.unlinked (fillBoth_aside s) (fillBoth_unlinked s)
  powerOn _ _ _ := (afterReset_atRest _ _ _ _ _ _ _).safe
  orderReset straps s _ := (orderReset_atRest straps s).safe
  order _ _ _ hd h := h.order hd
  event _ _ _ hf h := h.event hf
  period _ _ _ h := h.ofRun CornerRun.refl.controlWork

end Sys2Proof.Machine
end

section
/-! PROOFS. What the nine indicators of a desk show: which operations keep the modes of the lamps, and what their tests read. -/

namespace Sys2Proof.Machine

/-! ### Modes of lamps -/

/-- The modes of the lamp outputs. -/
def State.modes (s : State) : Fin 16 → LampMode := fun i => (s.lamp i).mode

theorem modes_of_signal {s t : State} (h : t.signal = s.signal) : t.modes = s.modes := by
  funext i
  rw [State.modes, State.lamp, h]
  rfl

theorem onLamp_modes {i : Fin 16} {f : Lamp → Lamp} {s : State} (hf : ∀ l, (f l).mode = l.mode := by intro l; rfl) :
    (s.onLamp i f).modes = s.modes := by
  funext j
  by_cases hj : j = i
  · subst hj
    rw [State.modes, State.lamp_onLamp, hf]
    rfl
  · rw [State.modes, State.lamp_onLamp_ne hj]
    rfl

theorem feed_modes (before after : State) : (feed before after).modes = after.modes := rfl
theorem onSounder_modes (k : Fin 2) (f : Sounder → Sounder) (s : State) : (s.onSounder k f).modes = s.modes := rfl

theorem setProving_modes (i : Fin 16) (p : Proving) (s : State) : (setProving i p s).modes = s.modes := by
  unfold setProving
  dsimp only
  have h : ∀ a b c d e, (report .lamp a b c d e (feed s (s.onLamp i fun l => { l with proving := p }))).modes = s.modes :=
    fun a b c d e => by
      rw [modes_of_signal (report_signal _ _ _ _ _ _ _), feed_modes, onLamp_modes]
  (repeat' split)
  · rfl
  · exact h _ _ _ _ _
  · exact h _ _ _ _ _

theorem windowSucceeds_modes (i : Fin 16) (s : State) : (windowSucceeds i s).modes = s.modes :=
  (setProving_modes _ _ _).trans onLamp_modes

theorem windowFails_modes (i : Fin 16) (s : State) : (windowFails i s).modes = s.modes :=
  (setProving_modes _ _ _).trans onLamp_modes

theorem beginOnPhase_modes (i : Fin 16) (s : State) : (beginOnPhase i s).modes = s.modes := by
  unfold beginOnPhase
  dsimp only
  (repeat' split)
  · rw [windowSucceeds_modes, onLamp_modes]
  · rw [onLamp_modes, onLamp_modes]
  · rfl

theorem endOnPhase_modes (i : Fin 16) (b : Bool) (s : State) : (endOnPhase i b s).modes = s.modes := by
  unfold endOnPhase
  dsimp only
  split
  · rw [onLamp_modes]
    split
    · exact windowFails_modes i s
    · rfl
  · rfl

/-- A requested mode is the lamp's mode, and no other lamp's mode changes (R138). -/
theorem requestMode_modes (i : Fin 16) (m : LampMode) (s : State) :
    (requestMode i m s).modes = Function.update s.modes i m := by
  have set : ∀ t : State, t.modes = s.modes →
      (t.onLamp i fun l => { l with mode := m }).modes = Function.update s.modes i m := fun t ht => by
    funext j
    by_cases hj : j = i
    · subst hj
      rw [State.modes, State.lamp_onLamp, Function.update_self]
    · rw [State.modes, State.lamp_onLamp_ne hj, Function.update_of_ne hj, ← ht]
      rfl
  unfold requestMode
  split
  · rename_i h
    exact (Function.update_eq_self_iff.mpr h.symm).symm
  · extract_lets s1 s2
    have h1 : s1.modes = s.modes := by
      dsimp only [s1]
      split
      · exact endOnPhase_modes i false s
      · rfl
    split
    · rw [beginOnPhase_modes]
      exact set s1 h1
    · exact set s1 h1

/-- A row leaves the lamps that it does not name. -/
theorem requestRow_modes_ne {i : Fin 16} {row : List (Fin 16 × LampMode)} (h : ∀ r ∈ row, r.1 ≠ i) (s : State) :
    (requestRow row s).modes i = s.modes i := by
  induction row generalizing s with
  | nil => rfl
  | cons r row ih =>
    rw [List.forall_mem_cons] at h
    have hr : (requestRow row (requestMode r.1 r.2 s)).modes i = (requestMode r.1 r.2 s).modes i := ih h.2 _
    rw [requestMode_modes, Function.update_of_ne h.1.symm] at hr
    exact hr

/-- A row that names each lamp once gives each its mode. -/
theorem requestRow_modes {row : List (Fin 16 × LampMode)} (h : (row.map (·.1)).Nodup) (s : State) :
    ∀ r ∈ row, (requestRow row s).modes r.1 = r.2 := by
  induction row generalizing s with
  | nil => simp
  | cons r row ih =>
    rw [List.map_cons, List.nodup_cons] at h
    obtain ⟨hr, hrow⟩ := h
    rw [List.forall_mem_cons]
    refine ⟨?_, ih hrow (requestMode r.1 r.2 s)⟩
    have hne : ∀ q ∈ row, q.1 ≠ r.1 := fun q hq he => hr (he ▸ List.mem_map_of_mem hq)
    have h1 : (requestRow row (requestMode r.1 r.2 s)).modes r.1 = (requestMode r.1 r.2 s).modes r.1 :=
      requestRow_modes_ne hne _
    rw [requestMode_modes, Function.update_self] at h1
    exact h1

/-! ### What the tests read -/

/-- The lines' health, as the LINK indicator shows it. -/
def State.linesOk (s : State) : Bool := s.lineOk .a && s.lineOk .b

/-- The indicators of a desk with the modes of their tests (R177). -/
def State.deskRow (s : State) : List (Fin 16 × LampMode) :=
  [(0, indicator s.approachesClosed), (1, indicator s.spanSeatedLocked), (2, indicator s.spanClear),
    (3, indicator s.channelOpenSeen), (4, indicator s.anyTrip), (5, indicator s.linesOk),
    (6, indicator (s.publishedDemand == .raise)), (7, indicator (s.publishedDemand == .lower)),
    (8, indicator (s.publishedDemand == .halt))]

theorem deskIndicators_eq (s : State) : deskIndicators s = requestRow s.deskRow s := rfl

theorem deskRow_nodup (s : State) : (s.deskRow.map (·.1)).Nodup := by
  simp only [State.deskRow, List.map_cons, List.map_nil]
  decide

/-- What the tests of a desk's indicators read. -/
structure SameView (s t : State) : Prop where
  straps : t.straps = s.straps
  roster : t.roster = s.roster
  config : t.config = s.config
  flag : t.trip.flag = s.trip.flag
  lines : t.linesOk = s.linesOk
  demand : t.publishedDemand = s.publishedDemand
  qualifying : ∀ j, t.qualifying j = s.qualifying j

/-- A view that no desk's content meets reads, at a desk, the entries of the other stations alone. -/
theorem everyStation_congr {s t : State} {r : Role} {test : Content → Bool} (hv : SameView s t) (hs : test s.ownContent = false)
    (ht : test t.ownContent = false) : t.everyStation r test = s.everyStation r test := by
  have hroster : ∀ j, t.rosterRole j = s.rosterRole j := fun j => by rw [State.rosterRole, hv.roster]; rfl
  have hnumber : t.number = s.number := by rw [State.number, hv.straps]; rfl
  refine Bool.eq_iff_iff.mpr ?_
  rw [everyStation_iff, everyStation_iff]
  refine forall_congr' fun j => ?_
  rw [hroster j]
  refine imp_congr_right fun _ => ?_
  simp only [State.counted, hnumber, hv.qualifying j]
  split
  · simp [hs, ht]
  · rfl

theorem ownPayload_desk {s : State} (h : s.role = .desk) : ∃ demand goal count key ceiling cause,
    s.ownContent.payload = .desk demand goal count key ceiling cause := by
  refine ⟨_, _, _, _, _, _, (ownPayload_eq_desk s _ _ _ _ _ _).mpr ⟨h, rfl, rfl, rfl, rfl, rfl, rfl⟩⟩

/-- At a desk the tests read what `SameView` names alone (R177). -/
theorem deskRow_congr {s t : State} (hrole : s.role = .desk) (hv : SameView s t) : t.deskRow = s.deskRow := by
  have hrolet : t.role = .desk := by rw [State.role, hv.straps]; exact hrole
  obtain ⟨_, _, _, _, _, _, hs⟩ := ownPayload_desk hrole
  obtain ⟨_, _, _, _, _, _, ht⟩ := ownPayload_desk hrolet
  have hclear : t.clearanceHeight = s.clearanceHeight := by rw [State.clearanceHeight, hv.config]; rfl
  have hclosed : t.approachesClosed = s.approachesClosed := everyStation_congr hv (by simp [hs]) (by simp [ht])
  have hseated : t.spanSeatedLocked = s.spanSeatedLocked := everyStation_congr hv (by simp [hs]) (by simp [ht])
  have hspan : t.spanClear = s.spanClear := by
    unfold State.spanClear
    rw [hclear]
    exact everyStation_congr hv (by simp [hs]) (by simp [ht])
  have hopen : t.channelOpenSeen = s.channelOpenSeen := by
    simp only [State.channelOpenSeen, hv.qualifying]
  have htrip : t.anyTrip = s.anyTrip := by simp only [State.anyTrip, hv.flag, hv.qualifying]
  simp only [State.deskRow, hclosed, hseated, hspan, hopen, htrip, hv.lines, hv.demand]

theorem publishedDemand_of {s t : State} (hdesk : t.desk = s.desk) (hin : t.port.startInhibit = s.port.startInhibit) :
    t.publishedDemand = s.publishedDemand := by
  simp only [State.publishedDemand, hdesk, hin]

theorem qualifying_of_peers {s t : State} (h : t.peers = s.peers) (j : Fin 12) : t.qualifying j = s.qualifying j := by
  simp only [State.qualifying, State.peer, h]

theorem linesOk_of_healths {s t : State} (h : t.healths = s.healths) : t.linesOk = s.linesOk := by
  have hl : ∀ l, (t.line l).health = (s.line l).health := fun l => congrArg (·.1) (congrFun h l)
  simp only [State.linesOk, State.lineOk, hl]

theorem healths_of_fixed {s t : State} (h : t.fixed = s.fixed) : t.healths = s.healths := by
  have hl : t.link = s.link := congrArg Fixed.link h
  funext l
  simp only [State.healths, State.line, hl]

namespace SameView

variable {s t u : State}

theorem trans (h : SameView s t) (k : SameView t u) : SameView s u :=
  ⟨k.straps.trans h.straps, k.roster.trans h.roster, k.config.trans h.config, k.flag.trans h.flag, k.lines.trans h.lines,
    k.demand.trans h.demand, fun j => (k.qualifying j).trans (h.qualifying j)⟩

/-- An operation of the role blocks that leaves the Desk Unit and the trip flag. -/
theorem of_fixed (hf : t.fixed = s.fixed) (hflag : t.trip.flag = s.trip.flag) (hdesk : t.desk = s.desk) : SameView s t :=
  ⟨congrArg Fixed.straps hf, congrArg Fixed.roster hf, congrArg Fixed.config hf, hflag,
    linesOk_of_healths (healths_of_fixed hf), publishedDemand_of hdesk (congrArg Fixed.startInhibit hf),
    qualifying_of_peers (congrArg Fixed.peers hf)⟩

theorem of_aside (hf : t.fixed = s.fixed) (ha : t.aside = s.aside) : SameView s t :=
  of_fixed hf (by rw [trip_of_aside ha]; rfl) (desk_of_aside ha)

/-- An operation of the link that leaves the health of the lines. -/
theorem of_unlinked (hf : t.fixed.unlinked = s.fixed.unlinked) (ha : t.aside = s.aside) (hh : t.healths = s.healths) :
    SameView s t :=
  ⟨(congrArg Fixed.straps hf : t.fixed.unlinked.straps = _), (congrArg Fixed.roster hf : t.fixed.unlinked.roster = _),
    (congrArg Fixed.config hf : t.fixed.unlinked.config = _), by rw [trip_of_aside ha]; rfl, linesOk_of_healths hh,
    publishedDemand_of (desk_of_aside ha) (congrArg Fixed.startInhibit hf : t.fixed.unlinked.startInhibit = _),
    qualifying_of_peers (congrArg Fixed.peers hf : t.fixed.unlinked.peers = _)⟩

end SameView

/-! ### What a desk shows -/

/-- Each indicator of a desk in RUN has the mode of its test (R177). -/
def State.Shows (s : State) : Prop := s.running = true → s.role = .desk → ∀ r ∈ s.deskRow, s.modes r.1 = r.2

theorem mode_eq_indicator (m : LampMode) (b : Bool) :
    m = indicator b ↔ (b = true → m = .steady) ∧ (¬b = true → m = .off) := by
  cases b <;> simp [indicator]

theorem channelOpenSeen_iff (s : State) : s.channelOpenSeen = true ↔ SomeQualifying s fun c =>
    ∃ vessel alert closed stop lamps cause, c.payload = .channel 2 vessel alert closed stop lamps cause := by
  simp only [State.channelOpenSeen, List.any_eq_true, mem_stations, true_and]
  refine exists_congr fun j => ?_
  constructor
  · intro h
    split at h
    · rename_i c hc
      split at h
      · rename_i aspect vessel alert closed stop lamps cause hp
        obtain ⟨e, hd, he, hf, hh, hok, rfl⟩ := (qualifying_eq_some s j c).mp hc
        exact ⟨e, hd, he, hf, hh, hok, vessel, alert, closed, stop, lamps, cause, by rw [hp, beq_iff_eq.mp h]⟩
      · cases h
    · cases h
  · rintro ⟨e, hd, he, hf, hh, hok, vessel, alert, closed, stop, lamps, cause, hp⟩
    rw [(qualifying_eq_some s j _).mpr ⟨e, hd, he, hf, hh, hok, rfl⟩]
    dsimp only
    rw [hp]
    rfl

theorem anyTrip_iff (s : State) : s.anyTrip = true ↔ s.trip.flag = true ∨ SomeQualifying s fun c => c.tripped = true := by
  simp only [State.anyTrip, Bool.or_eq_true, List.any_eq_true, mem_stations, true_and]
  refine or_congr_right (exists_congr fun j => ?_)
  constructor
  · intro h
    cases hc : s.qualifying j with
    | none => simp [hc] at h
    | some c =>
      rw [hc] at h
      obtain ⟨e, hd, he, hf, hh, hok, rfl⟩ := (qualifying_eq_some s j c).mp hc
      exact ⟨e, hd, he, hf, hh, hok, h⟩
  · rintro ⟨e, hd, he, hf, hh, hok, hp⟩
    rw [(qualifying_eq_some s j _).mpr ⟨e, hd, he, hf, hh, hok, rfl⟩]
    exact hp

theorem linesOk_iff (s : State) :
    s.linesOk = true ↔ s.link.lineA.health = some .ok ∧ s.link.lineB.health = some .ok := by
  simp [State.linesOk, State.lineOk, State.line]

theorem indicatorsShow_iff (s : State) : IndicatorsShow s ↔ s.Shows := by
  have demand : ∀ d, (s.publishedDemand == d) = true ↔ s.publishedDemand = d := fun d => beq_iff_eq
  simp only [IndicatorsShow, State.Shows, State.deskRow, List.forall_mem_cons, List.not_mem_nil, false_implies, implies_true,
    and_true, State.modes, mode_eq_indicator, channelOpenSeen_iff, anyTrip_iff, linesOk_iff, demand]
  rfl

/-- The indicators show their tests once they follow them. -/
theorem deskIndicators_shows (s : State) : (deskIndicators s).Shows := by
  intro _ hrole r hr
  have hroles : s.role = .desk := (role_of_frame (frame_of_fixed (deskIndicators_fixed s))).symm.trans hrole
  have hv : SameView s (deskIndicators s) := .of_aside (deskIndicators_fixed s) (deskIndicators_aside s)
  rw [deskRow_congr hroles hv] at hr
  rw [deskIndicators_eq]
  exact requestRow_modes (deskRow_nodup s) s r hr

namespace State.Shows

variable {s t : State}

theorem congr (h : s.Shows) (hrun : t.running = s.running) (hv : SameView s t) (hm : t.modes = s.modes) : t.Shows := by
  intro hrunt hrolet r hr
  have hrole : s.role = .desk := by rw [State.role, ← hv.straps]; exact hrolet
  rw [deskRow_congr hrole hv] at hr
  rw [hm]
  exact h (hrun.symm.trans hrunt) hrole r hr

theorem of_fixed (h : s.Shows) (hf : t.fixed = s.fixed) (ha : t.aside = s.aside) (hm : t.modes = s.modes) : t.Shows :=
  h.congr (running_of_fixed hf) (.of_aside hf ha) hm

/-- Nothing is asked of a station that is no desk in RUN. -/
theorem of_other (h : ¬(s.running = true ∧ s.role = .desk)) : s.Shows := fun hrun hrole => absurd ⟨hrun, hrole⟩ h

end State.Shows

end Sys2Proof.Machine
end

section
/-! PROOFS. Every command keeps the nine indicators of a desk at their tests. -/

namespace Sys2Proof.Machine

/-! ### Entries as the tests read them -/

/-- What the tests read of an entry. -/
def Entry.shown (e : Entry) : Freshness × Option (Content × Bool) := (e.freshness, e.heard.map fun h => (h.content, h.digestOk))

theorem qualifying_congr {s t : State} {j : Fin 12} (h : (t.peer j).map Entry.shown = (s.peer j).map Entry.shown) :
    t.qualifying j = s.qualifying j := by
  unfold State.qualifying
  cases hs : s.peer j with
  | none =>
    rw [hs, Option.map_none, Option.map_eq_none_iff] at h
    rw [h]
  | some e =>
    rw [hs, Option.map_some, Option.map_eq_some_iff] at h
    obtain ⟨e1, ht, he⟩ := h
    simp only [Entry.shown, Prod.mk.injEq] at he
    obtain ⟨hf, hh⟩ := he
    rw [ht]
    dsimp only
    cases hs' : e.heard with
    | none =>
      rw [hs', Option.map_none, Option.map_eq_none_iff] at hh
      rw [hh]
    | some x =>
      rw [hs', Option.map_some, Option.map_eq_some_iff] at hh
      obtain ⟨y, hy, hxy⟩ := hh
      simp only [Prod.mk.injEq] at hxy
      rw [hy]
      dsimp only
      rw [hf, hxy.1, hxy.2]

theorem setPeer_sameView {s : State} {j : Fin 12} {e e1 : Entry} (hj : s.peer j = some e) (h : e1.shown = e.shown) :
    SameView s (s.setPeer j (some e1)) := by
  refine ⟨rfl, rfl, rfl, rfl, rfl, rfl, fun k => qualifying_congr ?_⟩
  by_cases hk : k = j
  · rw [hk, State.peer_setPeer, hj, Option.map_some, Option.map_some, h]
  · rw [State.peer_setPeer_ne hk]

/-- A frame that turns nothing and brings nothing new leaves the entry as the tests read it. -/
theorem acceptedEntry_shown {line : LinkLine} {f : Frame} {e : Entry} {s : State} (ht : e.turns (agrees f s) = false)
    (hr : e.renewed (acceptedEntry line f e s) = false) : (acceptedEntry line f e s).shown = e.shown := by
  simp only [Entry.turns, Entry.renewed, Bool.or_eq_false_iff, bne_eq_false_iff_eq] at ht hr
  obtain ⟨hfresh, hok⟩ := ht
  simp only [Entry.shown, acceptedEntry, Entry.accept] at hr ⊢
  cases hh : e.heard with
  | none => simp [hh] at hok
  | some x =>
    simp only [hh, Option.map_some, Option.some.injEq] at hok hr ⊢
    rw [hfresh, hok, ← hr]

/-! ### The link leaves what a desk shows -/

theorem LinkOnly.modes {f : State → State} (h : LinkOnly f) (s : State) : (f s).modes = s.modes := by
  rw [h s]
  rfl

/-- A transmitter's event leaves the lamps' modes and the health of the lines. -/
theorem eventWork_transmitter_shown {c : Instr} {f : State → State} (h : eventWork c = some f)
    (hc : transmitterEvent c = true) (s : State) : (f s).modes = s.modes ∧ (f s).healths = s.healths := by
  have on : ∀ {t : State} (l : LinkLine) (g : LineUnit → LineUnit), (t.onLine l g).modes = t.modes :=
    fun l g => (onLine_linkOnly l fun _ => g).modes _
  have fill : ∀ {t : State} (l : LinkLine), (fillIfChanged l t).modes = t.modes ∧ (fillIfChanged l t).healths = t.healths :=
    fun l => ⟨(fillIfChanged_linkOnly l).modes _, fillIfChanged_healths l _⟩
  have gap : ∀ {t : State} (l : LinkLine), (enterGap l t).modes = t.modes ∧ (enterGap l t).healths = t.healths :=
    fun l => ⟨(enterGap_linkOnly l).modes _, enterGap_healths l _⟩
  cases c <;> cases hc <;> cases h
  case spacingTimerExpiry l =>
    unfold spacingExpiry
    dsimp only
    (repeat' split)
    · exact ⟨(gap l).1.trans (on _ _), (gap l).2.trans (onLine_healths rfl)⟩
    · exact ⟨(fill l).1.trans (on _ _), (fill l).2.trans (onLine_healths rfl)⟩
    · exact ⟨rfl, rfl⟩
  case refreshTimerExpiry l =>
    unfold refreshExpiry
    split
    · exact ⟨((fillSlot_linkOnly l).modes _).trans (on _ _), (fillSlot_healths l _).trans (onLine_healths rfl)⟩
    · exact ⟨rfl, rfl⟩
  case idleGapMet l =>
    unfold idleGap
    dsimp only
    (repeat' split)
    · exact ⟨rfl, rfl⟩
    · exact ⟨((enterDelay_linkOnly l).modes _).trans (on _ _), (enterDelay_healths l _).trans (onLine_healths rfl)⟩
    · exact ⟨on _ _, onLine_healths rfl⟩
  case deferral l => exact ⟨on _ _, onLine_healths rfl⟩
  case attemptStart l =>
    unfold delayExpiry
    split
    · exact ⟨(startAttempt_linkOnly l).modes s, startAttempt_healths l s⟩
    · exact ⟨rfl, rfl⟩
  case collision p =>
    unfold collide
    dsimp only
    have release : (releaseLine p.line (p.bit == 0) s).modes = s.modes ∧
        (releaseLine p.line (p.bit == 0) s).healths = s.healths := ⟨on _ _, onLine_healths rfl⟩
    (repeat' split)
    · exact ⟨(gap _).1.trans ((on _ _).trans release.1), (gap _).2.trans ((onLine_healths rfl).trans release.2)⟩
    · have hreport : ∀ (a b c d e : Nat) (t : State), (report .link a b c d e (latch (jamCondition p.line) t)).modes = t.modes ∧
          (report .link a b c d e (latch (jamCondition p.line) t)).healths = t.healths := fun a b c d e t =>
        ⟨modes_of_signal (report_signal _ _ _ _ _ _ _), healths_of_fixed (report_fixed _ _ _ _ _ _ _)⟩
      exact ⟨(fill _).1.trans ((hreport _ _ _ _ _ _).1.trans ((on _ _).trans release.1)),
        (fill _).2.trans ((hreport _ _ _ _ _ _).2.trans ((onLine_healths rfl).trans release.2))⟩
    · exact ⟨rfl, rfl⟩
  case transmissionComplete l =>
    unfold completeTransmission
    split
    · exact ⟨(fill l).1.trans (on _ _), (fill l).2.trans (onLine_healths rfl)⟩
    · exact ⟨rfl, rfl⟩

namespace State.Shows

variable {s t : State}

theorem of_unlinked (h : s.Shows) (hf : t.fixed.unlinked = s.fixed.unlinked) (ha : t.aside = s.aside)
    (hm : t.modes = s.modes) (hh : t.healths = s.healths) : t.Shows :=
  h.congr (congrArg Fixed.running hf : t.fixed.unlinked.running = _) (.of_unlinked hf ha hh) hm

theorem onLine (h : s.Shows) {l : LinkLine} {f : LineUnit → LineUnit}
    (hf : ((f (s.line l)).health, (f (s.line l)).healthTimer) = ((s.line l).health, (s.line l).healthTimer)) :
    (s.onLine l f).Shows :=
  h.of_unlinked (onLine_unlinked l f s) (onLine_aside l f s) ((onLine_linkOnly l fun _ => f).modes s) (onLine_healths hf)

/-! ### Operations that end at the indicators -/

/-- What acts on the indicators in a desk in RUN shows the tests, whatever stood before. -/
theorem of_indicators {f : State → State} (hf : (f s).fixed = s.fixed)
    (h : s.running = true → s.role = .desk → (f s).Shows) : (f s).Shows := by
  by_cases hd : s.running = true ∧ s.role = .desk
  · exact h hd.1 hd.2
  · exact of_other fun ⟨hrun, hrole⟩ =>
      hd ⟨(running_of_fixed hf).symm.trans hrun, (role_of_frame (frame_of_fixed hf)).symm.trans hrole⟩

theorem roleReact (s : State) : (roleReact s).Shows := by
  refine of_indicators (roleReact_fixed s) fun hrun hrole => ?_
  have e : Machine.roleReact s = deskIndicators s := by simp [Machine.roleReact, hrun, hrole]
  rw [e]
  exact deskIndicators_shows s

theorem healthReact (s : State) : (healthReact s).Shows := by
  refine of_indicators (healthReact_fixed s) fun hrun hrole => ?_
  have e : Machine.healthReact s = deskIndicators s := by simp [Machine.healthReact, hrun, hrole]
  rw [e]
  exact deskIndicators_shows s

theorem enterTripped (s : State) : (enterTripped s).Shows := by
  refine of_indicators (enterTripped_fixed s) fun _ hrole => ?_
  have e : Machine.enterTripped s = deskIndicators (enterDesk .tripped .halt s) := by simp [Machine.enterTripped, hrole]
  rw [e]
  exact deskIndicators_shows _

theorem leaveTripped (s : State) : (leaveTripped s).Shows := by
  refine of_indicators (leaveTripped_fixed s) fun _ hrole => ?_
  have e : ∃ t, Machine.leaveTripped s = deskIndicators t := by
    unfold Machine.leaveTripped
    rw [hrole]
    exact ⟨_, rfl⟩
  obtain ⟨t, e⟩ := e
  rw [e]
  exact deskIndicators_shows t

theorem acceptClear (source : Nat) (s : State) : (acceptClear source s).Shows := leaveTripped _

theorem setDemand (d : Demand) (s : State) : (setDemand d s).Shows := deskIndicators_shows _

theorem keyEvent (active : Bool) (s : State) : (keyEvent active s).Shows := by
  unfold Machine.keyEvent
  (repeat' split) <;> exact deskIndicators_shows _

theorem clearAttempt (h : s.Shows) (source : Nat) : (clearAttempt source s).Shows := by
  unfold Machine.clearAttempt
  split
  · exact acceptClear source s
  · exact h
  · exact h

theorem clearPress (h : s.Shows) : (clearPress s).Shows :=
  clearAttempt (s := s.onDesk fun k => { k with clearCount := (k.clearCount + 1) % 16 })
    (h.congr rfl ⟨rfl, rfl, rfl, rfl, rfl, rfl, fun _ => rfl⟩ rfl) _

theorem demandPress (h : s.Shows) (d : Demand) : (demandPress d s).Shows := by
  unfold Machine.demandPress
  split
  · exact setDemand d s
  · exact h

theorem submitCause (h : s.Shows) (c : Cause) : (submitCause c s).Shows := by
  rcases submitCause_cases c s with ⟨-, hc⟩ | ⟨-, hflag, trip, htrip, ha, hsig⟩ | ⟨-, -, t, ht, -⟩
  · rwa [hc]
  · have hf := submitCause_fixed c s
    simp only [State.aside, Prod.mk.injEq] at ha
    obtain ⟨hteq, -, -, -, hdesk⟩ := ha
    exact h.congr (running_of_fixed hf) (.of_fixed hf (by rw [hteq, htrip, hflag]) hdesk) (modes_of_signal hsig)
  · rw [ht]
    exact enterTripped t

theorem submitIf (h : s.Shows) (b : Bool) (c : Cause) : (submitIf b c s).Shows := by
  unfold Machine.submitIf
  split
  · exact h.submitCause c
  · exact h

theorem keptByCorner : KeptByCorner State.Shows where
  motion _ _ _ h := h.congr rfl (.of_fixed rfl rfl rfl) rfl
  latch _ _ h := h.congr rfl (.of_fixed rfl rfl rfl) rfl
  enter t p rel _ _ h := by
    have hb := enterCorner_besideMotion p rel t
    simp only [State.besideMotion, Prod.mk.injEq] at hb
    obtain ⟨htrip, -, -, hdesk, hsig⟩ := hb
    have hf := enterCorner_fixed p rel t
    exact h.congr (running_of_fixed hf) (.of_fixed hf (by rw [htrip]) hdesk) (modes_of_signal hsig)
  cause _ c h := h.submitCause c

/-! ### Frames and the peer table -/

theorem stored (h : s.Shows) {line : LinkLine} {j : Fin 12} {f : Frame} {e : Entry} (hj : s.peer j = some e)
    (ht : e.turns (agrees f s) = false) (hr : e.renewed (acceptedEntry line f e s) = false) :
    (stored line j f e s).Shows := by
  have hv : SameView s (s.setPeer j (some (acceptedEntry line f e s))) := setPeer_sameView hj (acceptedEntry_shown ht hr)
  have hv' : SameView (s.setPeer j (some (acceptedEntry line f e s))) (Machine.stored line j f e s) :=
    .of_aside (stored_fixed line j f e s) ((stored_aside line j f e s).trans rfl)
  refine h.congr (running_of_frame (stored_frame line j f e s)) (hv.trans hv') ?_
  unfold Machine.stored
  simp only [ht, Bool.false_eq_true, if_false]
  split <;> rfl

theorem acceptFrame (h : s.Shows) (line : LinkLine) (j : Fin 12) (f : Frame) : (acceptFrame line j f s).Shows := by
  cases hj : s.peer j with
  | none =>
    have e : Machine.acceptFrame line j f s = s := by simp [Machine.acceptFrame, hj]
    rwa [e]
  | some e =>
    rw [acceptFrame_eq hj]
    split
    · exact roleReact _
    · rename_i hc
      simp only [Bool.or_eq_true, not_or, Bool.not_eq_true] at hc
      obtain ⟨ht, hr⟩ := hc
      have hs := h.stored hj ht hr
      simp only [tested, attempted, hr, Bool.false_eq_true, if_false]
      split
      · exact hs.clearAttempt _
      · exact hs

theorem ownNumberFrame (h : s.Shows) : (ownNumberFrame s).Shows := by
  have h1 : ({ Machine.latch .duplicateStation s with duplicateTimer := some s.staleTime } : State).Shows :=
    h.congr rfl ⟨rfl, rfl, rfl, rfl, rfl, rfl, fun _ => rfl⟩ rfl
  unfold Machine.ownNumberFrame
  exact h1.submitCause _

theorem latch (h : s.Shows) (c : Condition) : (latch c s).Shows := h.congr rfl (.of_fixed rfl rfl rfl) rfl

theorem checkFrame (h : s.Shows) (line : LinkLine) (f : Frame) : (checkFrame line f s).Shows := by
  unfold Machine.checkFrame
  (repeat' split)
  · exact h.ownNumberFrame
  · exact h.latch _
  · exact h.latch _
  · exact h.acceptFrame _ _ _
  · exact h

/-- The LINK indicator follows the health that a frame renews. -/
theorem receiveFrame (h : s.Shows) (line : LinkLine) (levels : List Bool) : (receiveFrame line levels s).Shows := by
  unfold Machine.receiveFrame Machine.takeFrame
  dsimp only
  (repeat' split)
  · exact h
  · exact h.onLine rfl
  · exact h.onLine rfl
  · exact checkFrame (healthReact _) _ _

theorem staleExpiry (h : s.Shows) (j : Fin 12) : (staleExpiry j s).Shows := by
  unfold Machine.staleExpiry
  split
  · exact h
  · split
    · exact roleReact _
    · exact h

theorem lostExpiry (h : s.Shows) (j : Fin 12) : (lostExpiry j s).Shows := by
  unfold Machine.lostExpiry
  split
  · exact h
  · split
    · exact roleReact _
    · exact h

theorem seenExpiry (h : s.Shows) (j : Fin 12) (line : LinkLine) : (seenExpiry j line s).Shows := by
  unfold Machine.seenExpiry
  split
  · exact h
  · rename_i e hj
    (repeat' split)
    · exact h.congr rfl (setPeer_sameView hj rfl) rfl
    · exact h
    · exact h.congr rfl (setPeer_sameView hj rfl) rfl
    · exact h

theorem timeTick (h : s.Shows) : (timeTick s).Shows := by
  have hq : ∀ j, s.aged.qualifying j = s.qualifying j := fun j => qualifying_congr <| by
    rw [aged_peer, Option.map_map]
    congr 1
    funext e
    simp only [Function.comp, Entry.shown, Entry.grow, Option.map_map]
    rfl
  have h1 : s.aged.Shows := h.congr rfl ⟨rfl, rfl, rfl, rfl, rfl, rfl, hq⟩ rfl
  rw [timeTick_eq]
  exact h1.submitIf _ _

/-! ### Inputs -/

theorem setInput (h : s.Shows) (i : Fin 25) (x : InputLine) : (s.setInput i x).Shows :=
  h.congr rfl ⟨rfl, rfl, rfl, rfl, rfl, rfl, fun _ => rfl⟩ rfl

theorem deliverDesk (h : s.Shows) (i : Fin 25) (active : Bool) : (deliverDesk i active s).Shows := by
  unfold Machine.deliverDesk
  (repeat' split)
  · exact h.demandPress _
  · exact h
  · exact h.demandPress _
  · exact h
  · exact h.demandPress _
  · exact h
  · exact h.clearPress
  · exact h
  · exact keyEvent active s
  · exact h

theorem filterExpiry (h : s.Shows) (i : Fin 25) (hrole : s.role = .desk) : (filterExpiry i s).Shows := by
  unfold Machine.filterExpiry
  extract_lets x s1 s2
  have h1 : s1.Shows := h.setInput i _
  have h2 : s2.Shows ∧ s2.role = .desk := by
    dsimp only [s2]
    split
    · exact ⟨h1.of_fixed (report_fixed _ _ _ _ _ _ _) (report_aside _ _ _ _ _ _ _) (modes_of_signal (report_signal _ _ _ _ _ _ _)),
        (role_of_frame (frame_of_fixed (report_fixed _ _ _ _ _ _ _))).trans hrole⟩
    · exact ⟨h1, hrole⟩
  (repeat' split)
  · exact h1
  · have e : ∀ b, deliverInput i b s s2 = Machine.deliverDesk i b s2 := fun b => by simp [deliverInput, h2.2]
    rw [e]
    exact h2.1.deliverDesk i _
  · exact h

theorem estopExpiry (h : s.Shows) : (estopExpiry s).Shows := by
  unfold Machine.estopExpiry
  split
  · refine submitIf (s := s.onTrip _) (h.congr rfl (.of_fixed rfl rfl rfl) rfl) _ _
  · exact h

end State.Shows

end Sys2Proof.Machine
end

section
/-! PROOFS. The events, RUN and the other orders keep the indicators of a desk, beside safe arms and a channel at rest (the first
half of O58). -/

namespace Sys2Proof.Machine

/-! ### Lamps at their timers -/

theorem senseEvent_modes (i : Fin 16) (sensed : Bool) (s : State) : (senseEvent i sensed s).modes = s.modes := by
  unfold senseEvent
  dsimp only
  (repeat' split)
  · rw [windowSucceeds_modes, onLamp_modes]
  · rw [onLamp_modes, onLamp_modes]
  · rw [onLamp_modes, onLamp_modes]
  · rw [onLamp_modes, onLamp_modes]
  · rfl

theorem provingExpiry_modes (i : Fin 16) (s : State) : (provingExpiry i s).modes = s.modes := by
  unfold provingExpiry
  split
  · exact windowFails_modes i s
  · rfl

theorem watchExpiry_modes (i : Fin 16) (s : State) : (watchExpiry i s).modes = s.modes := by
  unfold watchExpiry
  split
  · rw [setProving_modes, onLamp_modes]
  · rfl

theorem darkExpiry_modes (i : Fin 16) (s : State) : (darkExpiry i s).modes = s.modes := by
  unfold darkExpiry
  split
  · rw [setProving_modes, onLamp_modes]
  · rfl

theorem foldl_modes {g : State → Fin 16 → State} (hg : ∀ t i, (g t i).modes = t.modes) (l : List (Fin 16)) (s : State) :
    (l.foldl g s).modes = s.modes := by
  induction l generalizing s with
  | nil => rfl
  | cons i l ih => exact (ih _).trans (hg s i)

theorem flashExpiry_modes (s : State) : (flashExpiry s).modes = s.modes := by
  unfold flashExpiry
  dsimp only
  split
  · refine (foldl_modes (fun t i => ?_) _ _).trans rfl
    (repeat' split)
    · exact endOnPhase_modes i true t
    · exact beginOnPhase_modes i t
    · rfl
  · rfl

/-- A desk hears nothing of its lamps. -/
theorem lampReact_desk {s : State} (h : s.role = .desk) : lampReact s = s := by
  simp [lampReact, h]

/-- An approach without a phase has no condition cause. -/
theorem approachReact_of_none {s : State} (h : s.closure.phase = none) : approachReact s = s := by
  have hc : approachCondition s = none := by simp [approachCondition, State.inClosingStage, h]
  have hn : ∀ n, approachSettle n s = s := fun n => by
    cases n with
    | zero => rfl
    | succ n => simp [approachSettle, hc]
  exact hn 16

namespace State.Shows

variable {s t : State}

theorem lamp (h : s.Shows) {t : State} (hrole : s.role = .desk) (ha : t.aside = s.aside) (hf : t.fixed = s.fixed)
    (hm : t.modes = s.modes) : (lampReact t).Shows := by
  rw [lampReact_desk ((role_of_frame (frame_of_fixed hf)).trans hrole)]
  exact h.of_fixed hf ha hm

theorem event {c : Instr} {f : State → State} (hf : eventWork c = some f) (hsafe : s.Safe) (h : s.Shows) : (f s).Shows := by
  have hframe : (f s).fixed.frame = s.fixed.frame := Fixed.frame_of_setup (eventWork_setup hf s)
  by_cases hdesk : s.running = true ∧ s.role = .desk
  swap
  · exact of_other fun ⟨hrun, hrole⟩ =>
      hdesk ⟨(running_of_frame hframe).symm.trans hrun, (role_of_frame hframe).symm.trans hrole⟩
  obtain ⟨-, hrole⟩ := hdesk
  obtain ⟨hphase, hamber, hred, hdeck, harms⟩ := hsafe.closure.resolve_left fun ⟨_, hr, _⟩ => by simp [hrole] at hr
  obtain ⟨-, hclearing⟩ := hsafe.idle_of_role (by simp [hrole])
  have arm : ∀ i, ArmQuiet (s.arm i) := harms
  have table (ht : transmitterEvent c = false) (hc : cornerEvent c = false) : (f s).Shows := by
    cases c <;> cases ht <;> cases hc <;> cases hf
    case frameReceived line levels => exact h.receiveFrame line levels
    case staleTimerExpiry j => exact h.staleExpiry j
    case lostTimerExpiry j => exact h.lostExpiry j
    case seenTimerExpiry j line => exact h.seenExpiry j line
    case duplicateTimerExpiry => exact h.congr rfl ⟨rfl, rfl, rfl, rfl, rfl, rfl, fun _ => rfl⟩ rfl
    case stationTimeTick => exact h.timeTick
    case healthTimerExpiry l => exact healthReact _
    case inputRawChange i active =>
      unfold sampleInput
      dsimp only
      split
      · exact h
      · exact h.setInput i _
    case filterTimerExpiry i => exact h.filterExpiry i hrole
    case estopRawChange active =>
      unfold sampleEstop
      split
      · exact h
      · exact h.congr rfl (.of_fixed rfl rfl rfl) rfl
    case estopEvent => exact h.estopExpiry
    case amberTimerExpiry => simpa [amberExpiry, hamber] using h
    case redClearanceExpiry => simpa [redExpiry, hred] using h
    case deckClearExpiry => simpa [deckClearExpiry, hdeck] using h
    case deckLimitExpiry =>
      unfold deckLimitExpiry
      split
      · exact h.congr rfl (.of_fixed rfl rfl rfl) rfl
      · exact h
    case gapTimerExpiry i =>
      obtain ⟨-, -, -, -, -, -, hgap⟩ := arm i
      simpa [gapExpiry, hgap] using h
    case armTravelTimeout i =>
      obtain ⟨-, -, -, htravel, -⟩ := arm i
      simpa [armTravelExpiry, htravel, approachReact_of_none hphase] using h
    case retryTimerExpiry i =>
      obtain ⟨-, -, -, -, hretry, -⟩ := arm i
      simpa [retryExpiry, hretry, approachReact_of_none hphase] using h
    case laneTimerExpiry i =>
      obtain ⟨-, -, -, -, -, hlane, -⟩ := arm i
      simpa [laneExpiry, hlane] using h
    case clearingTimerExpiry => simpa [clearingExpiry, hclearing] using h
    case flashHalfExpiry => exact h.lamp hrole (by simp) (by simp) (flashExpiry_modes s)
    case lampSenseEvent i sensed => exact h.lamp hrole (by simp) (by simp) (senseEvent_modes i sensed s)
    case provingTimerExpiry i => exact h.lamp hrole (by simp) (by simp) (provingExpiry_modes i s)
    case watchTimerExpiry i => exact h.lamp hrole (by simp) (by simp) (watchExpiry_modes i s)
    case darkTimerExpiry i => exact h.lamp hrole (by simp) (by simp) (darkExpiry_modes i s)
    case stepTimerExpiry k => exact h.of_fixed (by simp) (by simp) (onSounder_modes k _ s)
  cases ht : transmitterEvent c with
  | true =>
    obtain ⟨hm, hh⟩ := eventWork_transmitter_shown hf ht s
    exact h.of_unlinked (eventWork_unlinked hf (by cases c <;> cases ht <;> rfl) s) (eventWork_transmitter_aside hf ht s) hm hh
  | false =>
    cases hc : cornerEvent c with
    | true => exact keptByCorner.run (eventWork_cornerRun hf hc s) h
    | false => exact table ht hc

/-! ### RUN and the orders -/

/-- At RUN a desk brings its indicators up to date, whatever stood before (R177). -/
theorem startRun (s : State) : (startRun s).Shows := by
  have h1 : (startBlocks s).Shows := by
    rw [startBlocks_eq]
    refine of_indicators (runRole_fixed _) fun _ hrole => ?_
    have e : ∃ t, runRole (atRun s) = deskIndicators t := by
      unfold runRole
      rw [hrole]
      exact ⟨_, rfl⟩
    obtain ⟨t, e⟩ := e
    rw [e]
    exact deskIndicators_shows t
  have h2 := (h1.onLine (l := .a) (f := fun u => { u with changed := false }) rfl).onLine (l := .b)
    (f := fun u => { u with changed := false }) rfl
  exact h2.of_unlinked (fillBoth_unlinked _) (fillBoth_aside _) (fillBoth_linkOnly.modes _) (fillBoth_healths _)

theorem setInhibit (h : s.Shows) (on : Bool) : (setInhibit on s).Shows := by
  unfold Machine.setInhibit
  split
  · exact h
  · exact roleReact _

/-- An order that no desk takes. -/
theorem of_foreign {d : State → State × Answer} (h : s.Shows) (hf : (d s).1.fixed = s.fixed)
    (hd : s.role = .desk → (d s).1 = s) : (d s).1.Shows := by
  by_cases hrole : s.role = .desk
  · rwa [hd hrole]
  · exact of_other fun ⟨_, hr⟩ => hrole ((role_of_frame (frame_of_fixed hf)).symm.trans hr)

theorem order {c : Instr} {d : State → State × Answer} (hd : orderDecision c = some d) (h : s.Shows) : (d s).1.Shows := by
  cases c <;> cases hd
  case setItem item value =>
    unfold orderSetItem
    (repeat' split)
    · exact h
    · exact h
    · exact of_other fun ⟨hrun, _⟩ => absurd hrun ‹_›
  case setRoster codes =>
    unfold orderSetRoster
    (repeat' split)
    · exact h
    · exact of_other fun ⟨hrun, _⟩ => absurd hrun ‹_›
    · exact h
  case run =>
    unfold orderRun
    (repeat' split)
    · exact h
    · exact h
    · exact startRun s
  case enableReset => exact h.congr rfl ⟨rfl, rfl, rfl, rfl, rfl, rfl, fun _ => rfl⟩ rfl
  case setMask => exact h.congr rfl ⟨rfl, rfl, rfl, rfl, rfl, rfl, fun _ => rfl⟩ rfl
  case setThreshold threshold =>
    unfold orderSetThreshold
    exact h.congr rfl ⟨rfl, rfl, rfl, rfl, rfl, rfl, fun _ => rfl⟩ rfl
  case clearInhibit => unfold orderClearInhibit; (repeat' split); exacts [h, h, h.setInhibit _]
  case setInhibit => unfold orderSetInhibit; split; exacts [h, h.setInhibit _]
  case clearTrip =>
    unfold orderClearTrip
    (repeat' split)
    · exact h
    · exact h
    · exact h
    · exact acceptClear _ s
  case home => exact h.of_foreign (orderHome_fixed s) fun hr => by simp [orderHome, hr]
  case armAccept arm => exact h.of_foreign (orderArmAccept_fixed arm s) fun hr => by simp [orderArmAccept, hr]
  case armReset arm => exact h.of_foreign (orderArmReset_fixed arm s) fun hr => by simp [orderArmReset, hr]
  case navAccept => exact h.of_foreign (orderNavAccept_fixed s) fun hr => by simp [orderNavAccept, hr]
  case demand value =>
    unfold orderDemand
    (repeat' split)
    · exact h
    · exact h
    · exact h
    · exact h
    · exact h
    · dsimp only
      exact setDemand _ s
  case setGoal height =>
    unfold orderSetGoal
    split
    · exact h
    · split
      · exact h
      · exact h.congr rfl ⟨rfl, rfl, rfl, rfl, rfl, rfl, fun _ => rfl⟩ rfl
  case clearRequest => unfold orderClearRequest; (repeat' split); exacts [h, h, h.clearPress]

end State.Shows

/-- Arms, channel and indicators stand together. -/
def State.Settled (s : State) : Prop := s.Safe ∧ s.Shows

theorem shows_of_handled {s t : State} (hu : UnchangedBut handlingBlocks s t) (h : s.Shows) : t.Shows := by
  have hpeers : t.peers = s.peers := hu .peers (by decide)
  have htrip : t.trip = s.trip := hu .trip (by decide)
  have hlink : t.link = s.link := hu .link (by decide)
  have hh : t.healths = s.healths := by
    funext l
    simp only [State.healths, State.line, hlink]
  exact h.congr (hu .running (by decide))
    ⟨hu .straps (by decide), hu .roster (by decide), hu .config (by decide), by rw [htrip], linesOk_of_healths hh,
      publishedDemand_of (hu .desk (by decide)) (hu .inhibit (by decide)), qualifying_of_peers hpeers⟩
    (modes_of_signal (hu .signal (by decide)))

theorem publish_modes (before after : State) : (publish before after).modes = after.modes := by
  unfold publish
  dsimp only
  split
  · exact contentChanged_linkOnly.modes after
  · rfl

theorem State.Shows.published {after : State} (before : State) (h : after.Shows) : (publish before after).Shows :=
  h.of_unlinked (publish_unlinked before after) (publish_aside before after) (publish_modes before after)
    (publish_healths before after)

theorem settled_keptByCommands : KeptByCommands State.Settled where
  handled s t hu h := ⟨safe_keptByCommands.handled s t hu h.1, shows_of_handled hu h.2⟩
  published before after h := ⟨safe_keptByCommands.published before after h.1, h.2.published before⟩
  filled s hrun h := ⟨safe_keptByCommands.filled s hrun h.1, h.2.of_unlinked (fillBoth_unlinked s) (fillBoth_aside s)
    (fillBoth_linkOnly.modes s) (fillBoth_healths s)⟩
  powerOn straps s h := ⟨safe_keptByCommands.powerOn straps s h.1, (nomatch ·)⟩
  orderReset straps s h := ⟨safe_keptByCommands.orderReset straps s h.1, (nomatch ·)⟩
  order c d s hd h := ⟨safe_keptByCommands.order c d s hd h.1, h.2.order hd⟩
  event c f s hf h := ⟨safe_keptByCommands.event c f s hf h.1, h.2.event hf h.1⟩
  period s hrun hrole h := ⟨safe_keptByCommands.period s hrun hrole h.1,
    State.Shows.keptByCorner.run CornerRun.refl.controlWork h.2⟩

/-- Every step keeps the indicators of a desk at their tests (R177). -/
theorem indicators_kept : Kept fun s => ArmsSafe s ∧ ChannelAtRest s ∧ IndicatorsShow s := by
  have hs : (fun s => ArmsSafe s ∧ ChannelAtRest s ∧ IndicatorsShow s) = State.Settled := funext fun s => propext <| by
    rw [State.Settled, ← safe_iff, ← indicatorsShow_iff, and_assoc]
  rw [hs]
  exact settled_keptByCommands.kept

end Sys2Proof.Machine
end

section
/-! PROOFS. What a desk makes of a filtered change of its inputs (O58). -/

namespace Sys2Proof.Machine

theorem UnchangedBut.narrow {l m : List Block} {s t : State} (h : UnchangedBut l s t) (hl : ∀ b ∈ l, b ∉ m → same s t b) :
    UnchangedBut m s t := by
  intro b hb
  by_cases hmem : b ∈ l
  · exact hl b hmem hb
  · exact h b hmem

theorem publish_signal (before after : State) : (publish before after).signal = after.signal := by
  unfold publish
  dsimp only
  split
  · rw [contentChanged_linkOnly after]
    rfl
  · rfl

/-! ### The desk's operations -/

/-- The role blocks of the other roles. -/
def State.besideDesk (s : State) : MotionUnit × ClosureUnit × ChannelUnit := (s.motion, s.closure, s.channel)

theorem besideDesk_of_aside {s t : State} (h : t.aside = s.aside) : t.besideDesk = s.besideDesk :=
  congrArg (fun a : TripUnit × MotionUnit × ClosureUnit × ChannelUnit × DeskUnit => (a.2.1, a.2.2.1, a.2.2.2.1)) h

theorem enterDesk_besideDesk (p : DeskPhase) (d : Demand) (s : State) : (enterDesk p d s).besideDesk = s.besideDesk := by
  have h := enterDesk_aside p d s
  simp only [State.aside, Prod.mk.injEq] at h
  obtain ⟨-, hm, hc, hch, -⟩ := h
  rw [State.besideDesk, hm, hc, hch]
  rfl

theorem deskIndicators_besideDesk (s : State) : (deskIndicators s).besideDesk = s.besideDesk :=
  besideDesk_of_aside (deskIndicators_aside s)

theorem setDemand_desk (d : Demand) (s : State) : (setDemand d s).desk = { s.desk with heldDemand := d } :=
  deskIndicators_desk _

theorem setDemand_trip (d : Demand) (s : State) : (setDemand d s).trip = s.trip := deskIndicators_trip _

theorem keyEvent_trip (active : Bool) (s : State) : (keyEvent active s).trip = s.trip := by
  unfold keyEvent
  (repeat' split) <;> rw [deskIndicators_trip]
  · exact enterDesk_trip _ _ s
  · exact enterDesk_trip _ _ s

theorem keyEvent_besideDesk (active : Bool) (s : State) : (keyEvent active s).besideDesk = s.besideDesk := by
  unfold keyEvent
  (repeat' split) <;> rw [deskIndicators_besideDesk]
  · exact enterDesk_besideDesk _ _ s
  · exact enterDesk_besideDesk _ _ s

/-- The enable key moves a desk between ACTIVE and INACTIVE, and no held demand outlives ACTIVE (R169). -/
theorem keyEvent_desk (active : Bool) (s : State) : (keyEvent active s).desk =
    if s.desk.phase = some .active ∧ active = false then { s.desk with phase := some .inactive, heldDemand := .none }
    else if s.desk.phase = some .inactive ∧ active = true then { s.desk with phase := some .active }
    else s.desk := by
  unfold keyEvent
  simp only [State.deskIs, Bool.and_eq_true, beq_iff_eq, Bool.not_eq_true']
  (repeat' split) <;> rw [deskIndicators_desk]
  · exact enterDesk_desk _ _ s
  · exact enterDesk_desk _ _ s

/-! ### The clear attempt of a desk -/

/-- A desk that leaves TRIPPED is ACTIVE or INACTIVE by its key (R169, R190). -/
theorem acceptClear_desk {s : State} (source : Nat) (h : s.role = .desk) : (acceptClear source s).desk =
    { s.desk with
      phase := some (if s.enableKey then .active else .inactive)
      heldDemand := if s.enableKey then s.desk.heldDemand else .none } := by
  have leave : ∀ t : State, t.role = .desk → (leaveTripped t).desk =
      { t.desk with
        phase := some (if t.enableKey then .active else .inactive)
        heldDemand := if t.enableKey then t.desk.heldDemand else .none } := fun t ht => by
    unfold leaveTripped
    rw [ht]
    dsimp only
    rw [deskIndicators_desk]
    split <;> rw [enterDesk_desk]
  unfold acceptClear
  extract_lets s1
  have hf : ∀ a b c d e, (report .tripCleared a b c d e s1).fixed = s.fixed := fun a b c d e => report_fixed _ _ _ _ _ _ _
  have hd : ∀ a b c d e, (report .tripCleared a b c d e s1).desk = s.desk := fun a b c d e => report_desk _ _ _ _ _ _ _
  have hk : ∀ a b c d e, (report .tripCleared a b c d e s1).enableKey = s.enableKey := fun a b c d e => by
    simp only [State.enableKey, State.filtered, State.inputLine, inputs_of_fixed (hf a b c d e)]
  rw [leave _ ((role_of_frame (frame_of_fixed (hf _ _ _ _ _))).trans h), hd, hk]

theorem acceptClear_besideDesk {s : State} (source : Nat) (h : s.role = .desk) :
    (acceptClear source s).besideDesk = s.besideDesk := by
  have leave : ∀ t : State, t.role = .desk → (leaveTripped t).besideDesk = t.besideDesk := fun t ht => by
    unfold leaveTripped
    rw [ht]
    dsimp only
    rw [deskIndicators_besideDesk]
    split <;> rw [enterDesk_besideDesk]
  unfold acceptClear
  extract_lets s1
  have h1 : s1.role = .desk := h
  rw [leave _ ((role_of_frame (frame_of_fixed (report_fixed _ _ _ _ _ _ _))).trans h1),
    besideDesk_of_aside (report_aside _ _ _ _ _ _ _)]
  rfl

/-- A clear is accepted where no recorded cause persists, nor any cause of the role once the record overflowed (R187, R188). -/
theorem decideClear_accepted_iff (s : State) : s.decideClear = .accepted ↔ s.trip.flag = true ∧
    ∀ c, c ∈ s.trip.causes ∨ (s.trip.more = true ∧ c ∈ causesOfRole s.role) → s.persists c = false := by
  have hfind : s.firstPersisting = none ↔
      ∀ c, c ∈ s.trip.causes ∨ (s.trip.more = true ∧ c ∈ causesOfRole s.role) → s.persists c = false := by
    rw [State.firstPersisting, List.find?_eq_none]
    refine forall_congr' fun c => imp_congr ?_ (by simp)
    rw [List.mem_append]
    cases s.trip.more <;> simp
  rw [← hfind]
  unfold State.decideClear
  split
  · rename_i hflag
    simp [hflag]
  · rename_i hflag
    split <;> simp_all

/-- A desk's clear press once its count has advanced (R175). -/
def clearCounted (s : State) : State := s.onDesk fun k => { k with clearCount := (k.clearCount + 1) % 16 }

theorem clearPress_accepted {s : State} (h : (clearCounted s).decideClear = .accepted) :
    clearPress s = acceptClear s.number (clearCounted s) := by
  have h' : (s.onDesk fun k => { k with clearCount := (k.clearCount + 1) % 16 }).decideClear = .accepted := h
  simp only [clearPress, clearAttempt, h']
  rfl

theorem clearPress_refused {s : State} (h : (clearCounted s).decideClear ≠ .accepted) : clearPress s = clearCounted s := by
  unfold clearPress clearAttempt
  split
  · exact absurd ‹_› h
  · rfl
  · rfl

theorem clearPress_besideDesk {s : State} (h : s.role = .desk) : (clearPress s).besideDesk = s.besideDesk := by
  by_cases hd : (clearCounted s).decideClear = .accepted
  · rw [clearPress_accepted hd, acceptClear_besideDesk (s := clearCounted s) _ h]
    rfl
  · rw [clearPress_refused hd]
    rfl

/-! ### Delivery -/

theorem deliverDesk_demand {i : Fin 25} {d : Demand} (hi : ([.raise, .lower, .halt] : List Demand)[i.val]? = some d)
    (active : Bool) (s : State) : deliverDesk i active s = if active then demandPress d s else s := by
  obtain ⟨n, hn⟩ := i
  match n with
  | 0 | 1 | 2 => cases hi; rfl
  | n + 3 => simp at hi

/-- The ceiling switch and the inputs that a desk does not read (R178). -/
theorem deliverDesk_unread {i : Fin 25} (hi : 5 ≤ i.val) (active : Bool) (s : State) : deliverDesk i active s = s := by
  unfold deliverDesk
  split
  case h_6 => rfl
  all_goals omega

theorem demandPress_trip (d : Demand) (s : State) : (demandPress d s).trip = s.trip := by
  unfold demandPress
  split
  · exact setDemand_trip d s
  · rfl

theorem demandPress_besideDesk (d : Demand) (s : State) : (demandPress d s).besideDesk = s.besideDesk := by
  unfold demandPress
  split
  · exact (deskIndicators_besideDesk _).trans rfl
  · rfl

/-- Only the CLEAR button reaches the Trip Unit of a desk. -/
theorem deliverDesk_trip {i : Fin 25} (hi : i ≠ 3) (active : Bool) (s : State) : (deliverDesk i active s).trip = s.trip := by
  unfold deliverDesk
  split
  case h_4 h => exact absurd (Fin.ext h) hi
  case h_1 | h_2 | h_3 =>
    split
    · exact demandPress_trip _ s
    · rfl
  case h_5 => exact keyEvent_trip active s
  case h_6 => rfl

theorem deliverDesk_besideDesk {s : State} (h : s.role = .desk) (i : Fin 25) (active : Bool) :
    (deliverDesk i active s).besideDesk = s.besideDesk := by
  unfold deliverDesk
  split
  case h_1 | h_2 | h_3 =>
    split
    · exact demandPress_besideDesk _ s
    · rfl
  case h_4 =>
    split
    · exact clearPress_besideDesk h
    · rfl
  case h_5 => exact keyEvent_besideDesk active s
  case h_6 => rfl

theorem deliverDesk_fixed (i : Fin 25) (active : Bool) (s : State) : (deliverDesk i active s).fixed = s.fixed := by
  unfold deliverDesk
  (repeat' split) <;> simp

/-- An input that has taken this level. -/
def levelTaken (level : Bool) : InputLine := { raw := level, filtered := level, filterTimer := none, bounce := 0 }

/-- What the Input Scanner hands to the role block: the new level is taken, and nothing is changed beside it but the reports. -/
structure HandedOn (i : Fin 25) (level : Bool) (s u : State) : Prop where
  fixed : u.fixed = (s.setInput i (levelTaken level)).fixed
  aside : u.aside = s.aside
  signal : u.signal = s.signal

/-- A filtered change at a desk is delivered in the event of its filter timer (R135, R136). -/
theorem exec_filtered {i : Fin 25} {level : Bool} {s : State} (h : FilteredChange i level s) (hrole : s.role = .desk) :
    ∃ u, HandedOn i level s u ∧ exec (.filterTimerExpiry i) s = .next (publish s (deliverDesk i level u)) := by
  obtain ⟨hrun, hraw, hfiltered, htimer⟩ := h
  let s1 := (s.setFed false).setInput i (levelTaken level)
  let u := if (s.setFed false).inputReported i then
    report .input i.val (flagNat !level) (flagNat level) (s.inputLine i).bounce (s.setFed false).phaseCode s1 else s1
  have hu : HandedOn i level s u := by
    dsimp only [u]
    split
    · exact ⟨report_fixed _ _ _ _ _ _ _, report_aside _ _ _ _ _ _ _, report_signal _ _ _ _ _ _ _⟩
    · exact ⟨rfl, rfl, rfl⟩
  have hroleu : u.role = .desk := (congrArg (fun x : Fixed => x.straps.role) hu.fixed).trans hrole
  refine ⟨u, hu, ?_⟩
  have hline : (s.setFed false).inputLine i = s.inputLine i := rfl
  have hrun' : (s.setFed false).running = true := hrun
  have hwork : filterExpiry i (s.setFed false) = deliverInput i level (s.setFed false) u := by
    simp only [filterExpiry, hline, htimer, hraw, hfiltered, hrun', if_true]
    cases level <;> rfl
  rw [exec_of_eventWork s rfl, hwork]
  simp only [deliverInput, hroleu]

section

variable {i : Fin 25} {level : Bool} {s u : State} (h : HandedOn i level s u)
include h

theorem HandedOn.role : u.role = s.role := congrArg (fun x : Fixed => x.straps.role) h.fixed

theorem HandedOn.desk : u.desk = s.desk := desk_of_aside h.aside

theorem HandedOn.trip : u.trip = s.trip := trip_of_aside h.aside

/-- No other input has changed. -/
theorem HandedOn.filtered {k : Fin 25} (hk : k ≠ i) : u.filtered k = s.filtered k := by
  have hin : u.inputs = (s.setInput i (levelTaken level)).inputs := congrArg Fixed.inputs h.fixed
  rw [State.filtered, State.inputLine, hin]
  exact filtered_setInput_ne hk (levelTaken level) s

/-- The level is taken by its own input alone. -/
theorem HandedOn.takesLevel : TakesLevel i level s (publish s (deliverDesk i level u)) := by
  have hun : (publish s (deliverDesk i level u)).fixed.unlinked = (s.setInput i (levelTaken level)).fixed.unlinked := by
    rw [publish_unlinked, deliverDesk_fixed, h.fixed]
  exact (congrArg Fixed.inputs hun : (publish s (deliverDesk i level u)).fixed.unlinked.inputs = _)

/-- A desk's input reaches nothing of the other roles (R136). -/
theorem HandedOn.unchangedBut (hrole : s.role = .desk) :
    UnchangedBut [.inputs, .link, .reports, .trip, .signal, .desk] s (publish s (deliverDesk i level u)) := by
  have hun : (publish s (deliverDesk i level u)).fixed.unlinked = (s.setInput i (levelTaken level)).fixed.unlinked := by
    rw [publish_unlinked, deliverDesk_fixed, h.fixed]
  have h1 : UnchangedBut [.inputs] s (s.setInput i (levelTaken level)) := by
    intro b hb
    cases b <;> simp_all [same]
  have h2 : UnchangedBut (.inputs :: .link :: roleBlocks) s (publish s (deliverDesk i level u)) :=
    unchangedBut_comp h1 (unchangedBut_of_unlinked hun) (by simp) (by simp [roleBlocks])
  have hbeside : (publish s (deliverDesk i level u)).besideDesk = s.besideDesk :=
    (besideDesk_of_aside (publish_aside _ _)).trans
      ((deliverDesk_besideDesk (h.role.trans hrole) i level).trans (besideDesk_of_aside h.aside))
  simp only [State.besideDesk, Prod.mk.injEq] at hbeside
  obtain ⟨hmotion, hclosure, hchannel⟩ := hbeside
  have hfed : (publish s (deliverDesk i level u)).fed = s.fed := (publish_unchangedBut _ _).1
  refine h2.narrow ?_
  simp [roleBlocks, same, hmotion, hclosure, hchannel, hfed]

/-- The CLEAR button held down (R175). -/
theorem HandedOn.cleared (hi : i = 3) (hrole : s.role = .desk) :
    ((clearPress u).desk.clearCount = (s.desk.clearCount + 1) % 16 ∧
      (clearPress u).desk.requestedGoal = s.desk.requestedGoal) ∧
    (s.trip.flag = true → (∀ c ∈ s.trip.causes, c = .estop ∨ c = .duplicate) → s.trip.estopFiltered = false →
      s.duplicateTimer = none → (clearPress u).trip = { s.trip with flag := false, causes := [], more := false } ∧
        (clearPress u).Shows ∧ (clearPress u).desk.phase = some (if s.filtered 4 then .active else .inactive) ∧
        (clearPress u).desk.heldDemand = if s.filtered 4 then s.desk.heldDemand else .none) ∧
    (s.trip.flag = false ∨ (.estop ∈ s.trip.causes ∧ s.trip.estopFiltered = true) ∨
        (.duplicate ∈ s.trip.causes ∧ s.duplicateTimer.isSome = true) →
      (clearPress u).trip = s.trip ∧ (clearPress u).desk.phase = s.desk.phase ∧
        (clearPress u).desk.heldDemand = s.desk.heldDemand) := by
  have hdesk := h.desk
  have htrip := h.trip
  have hroleu : (clearCounted u).role = .desk := h.role.trans hrole
  have hkey : (clearCounted u).enableKey = s.filtered 4 := h.filtered (by rw [hi]; decide)
  have hdup : u.duplicateTimer = s.duplicateTimer := congrArg Fixed.duplicateTimer h.fixed
  have htrip' : (clearCounted u).trip = s.trip := htrip
  have hdup' : (clearCounted u).duplicateTimer = s.duplicateTimer := hdup
  have hdecide : (clearCounted u).decideClear = .accepted ↔ s.trip.flag = true ∧
      ∀ c, c ∈ s.trip.causes ∨ (s.trip.more = true ∧ c ∈ causesOfRole .desk) → (clearCounted u).persists c = false := by
    rw [decideClear_accepted_iff, hroleu, htrip']
  have hestop : (clearCounted u).persists .estop = s.trip.estopFiltered := by rw [State.persists, htrip']
  have hduplicate : (clearCounted u).persists .duplicate = s.duplicateTimer.isSome := by rw [State.persists, hdup']
  have haccepted : (clearCounted u).decideClear = .accepted → (clearPress u).desk = { s.desk with
      phase := some (if s.filtered 4 then .active else .inactive)
      heldDemand := if s.filtered 4 then s.desk.heldDemand else .none
      clearCount := (s.desk.clearCount + 1) % 16 } := fun hd => by
    rw [clearPress_accepted hd, acceptClear_desk _ hroleu, hkey]
    simp only [clearCounted, State.onDesk, hdesk]
  have hrefused : (clearCounted u).decideClear ≠ .accepted → (clearPress u).trip = s.trip ∧
      (clearPress u).desk = { s.desk with clearCount := (s.desk.clearCount + 1) % 16 } := fun hd => by
    rw [clearPress_refused hd]
    exact ⟨htrip, by simp only [clearCounted, State.onDesk, hdesk]⟩
  refine ⟨?_, fun hflag hcauses hfiltered hnone => ?_, fun hstays => ?_⟩
  · by_cases hd : (clearCounted u).decideClear = .accepted
    · rw [haccepted hd]
      exact ⟨rfl, rfl⟩
    · rw [(hrefused hd).2]
      exact ⟨rfl, rfl⟩
  · have hd : (clearCounted u).decideClear = .accepted := hdecide.mpr ⟨hflag, fun c hc => by
      have hc' : c = .estop ∨ c = .duplicate := by
        rcases hc with hc | ⟨-, hc⟩
        · exact hcauses c hc
        · simpa [causesOfRole] using hc
      rcases hc' with rfl | rfl
      · rw [hestop, hfiltered]
      · rw [hduplicate, hnone]
        rfl⟩
    rw [haccepted hd, clearPress_accepted hd]
    refine ⟨?_, State.Shows.acceptClear _ _, rfl, rfl⟩
    rw [acceptClear_trip _ (by simp [hroleu]), htrip']
  · have hd : (clearCounted u).decideClear ≠ .accepted := fun hd => by
      obtain ⟨hflag, hpersists⟩ := hdecide.mp hd
      rcases hstays with hf | ⟨hc, he⟩ | ⟨hc, ht⟩
      · simp [hf] at hflag
      · simp [hpersists .estop (.inl hc), he] at hestop
      · simp [hpersists .duplicate (.inl hc), ht] at hduplicate
    obtain ⟨ht, hdk⟩ := hrefused hd
    rw [hdk]
    exact ⟨ht, rfl, rfl⟩

end

/-- Settles O58: the indicators end every event that changes a test, and each input of a desk is one of its few operations. -/
theorem deskInputsAct : Obligations.DeskInputsAct := by
  unfold Obligations.DeskInputsAct
  refine ⟨indicators_kept, fun i level s hchange hrole => ?_⟩
  obtain ⟨u, hu, hexec⟩ := exec_filtered hchange hrole
  have hdesk : (publish s (deliverDesk i level u)).desk = (deliverDesk i level u).desk := desk_of_aside (publish_aside _ _)
  have htrip : (publish s (deliverDesk i level u)).trip = (deliverDesk i level u).trip := publish_trip _ _
  have hshows : (deliverDesk i level u).Shows → IndicatorsShow (publish s (deliverDesk i level u)) := fun h =>
    (indicatorsShow_iff _).mpr (h.published s)
  refine ⟨_, hexec, hu.takesLevel, hu.unchangedBut hrole, fun hi => ?_, fun d hd => ⟨fun hl hp => ?_, fun hn => ?_⟩,
    fun hi hl => ?_, fun hi hl => ?_, fun hi => ?_, fun hi => ?_⟩
  · rw [htrip, deliverDesk_trip hi, hu.trip]
  · have e : deliverDesk i level u = setDemand d u := by
      rw [deliverDesk_demand hd, hl, if_pos rfl]
      simp [demandPress, State.deskIs, hu.desk, hp]
    refine ⟨?_, hshows (by rw [e]; exact State.Shows.setDemand d u)⟩
    rw [hdesk, e, setDemand_desk, hu.desk]
  · have e : deliverDesk i level u = u := by
      rw [deliverDesk_demand hd]
      rcases hn with hl | hp
      · simp [hl]
      · simp [demandPress, State.deskIs, hu.desk, hp]
    rw [hdesk, e, hu.desk]
  · have e : deliverDesk i level u = u := by rw [hi, hl]; rfl
    rw [hdesk, htrip, e, hu.desk, hu.trip]
    exact ⟨rfl, rfl⟩
  · have e : deliverDesk i level u = clearPress u := by rw [hi, hl]; rfl
    obtain ⟨⟨hcount, hgoal⟩, hclears, hstays⟩ := hu.cleared hi hrole
    rw [hdesk, htrip, e]
    refine ⟨hcount, hgoal, fun h1 h2 h3 h4 => ?_, hstays⟩
    obtain ⟨ht, hs, hphase, hheld⟩ := hclears h1 h2 h3 h4
    rw [e] at hshows
    exact ⟨by rw [ht], by rw [ht], by rw [ht], hshows hs, hphase, hheld⟩
  · have e : deliverDesk i level u = keyEvent level u := by rw [hi]; rfl
    rw [hdesk, e, keyEvent_desk, hu.desk]
    rw [e] at hshows
    exact ⟨hshows (State.Shows.keyEvent level u), fun hp hl => by simp [hp, hl], fun hp hl => by simp [hp, hl],
      fun hp => by simp [hp]⟩
  · rw [hdesk, publish_signal, deliverDesk_unread hi, hu.desk, hu.signal]
    exact ⟨rfl, rfl⟩

end Sys2Proof.Machine
end

section
/-! PROOFS. A step and the command queue (O1). -/

namespace Sys2Proof.Machine

/-- Settles O1. -/
theorem stepTakesTheFrontCommand : Obligations.StepTakesTheFrontCommand := by
  unfold Obligations.StepTakesTheFrontCommand
  refine ⟨fun c rest s h => ?_, fun s h => ?_⟩
  · rw [step, h]
  · rw [step, h]

end Sys2Proof.Machine
end

section
/-! PROOFS. The transmitters: the line that each operation leaves, the other line, and the form of a line (the first half of
O11). -/

namespace Sys2Proof.Machine

/-! ### The line of an attempt -/

/-- The number under which an attempt sends the content (R31). -/
def attemptNumber (s : State) : Byte :=
  match s.link.reference with
  | none => 0
  | some r => if r = s.ownContent then s.link.sequence else s.link.sequence + 1

/-- The line on which an attempt has started (R33, R34, R38). -/
def attemptLine (l : LinkLine) (s : State) : LineUnit :=
  { s.line l with
    changed := false
    slot := .full true
    spacingTimer := if (s.line l).slot = .full false then some spacingTime else (s.line l).spacingTimer
    refreshTimer := if (s.line l).slot = .full false then some s.refreshInterval else (s.line l).refreshTimer
    tx := .sending
    delayTimer := none
    sending := some (recordFrame s.number s.role (attemptNumber s) (s.digest.getD 0) s.ownContent)
    idle := false
    ignoring := true }

/-- Numbering leaves the attempt's number, and the content as the reference (R31). -/
theorem numberSnapshot_number (s : State) :
    (numberSnapshot s).link.sequence = attemptNumber s ∧ (numberSnapshot s).link.reference = some s.ownContent := by
  unfold numberSnapshot attemptNumber
  rw [State.onLink_link]
  cases hr : s.link.reference with
  | none => exact ⟨rfl, rfl⟩
  | some r =>
    dsimp only
    split
    · rename_i h
      exact ⟨rfl, hr.trans (congrArg some h)⟩
    · exact ⟨rfl, rfl⟩

theorem numberSnapshot_ownContent (s : State) : (numberSnapshot s).ownContent = s.ownContent :=
  withLink_ownContent (s := s) (k := (numberSnapshot s).link)
    (funext fun m => by
      have h : (s.withLink (numberSnapshot s).link).line m = s.line m := numberSnapshot_line m s
      simp only [State.healths, h])

theorem startAttempt_line (l : LinkLine) (s : State) : (startAttempt l s).line l = attemptLine l s := by
  have hframe : ownFrame (numberSnapshot s) =
      recordFrame s.number s.role (attemptNumber s) (s.digest.getD 0) s.ownContent := by
    rw [ownFrame, (numberSnapshot_number s).1, numberSnapshot_ownContent]
    rfl
  unfold startAttempt
  rw [State.line_onLine, numberSnapshot_line, hframe]
  cases hslot : (s.line l).slot with
  | empty => simp [attemptLine, hslot]
  | full attempted => cases attempted <;> simp [attemptLine, hslot]

/-- An attempt takes the content as the reference, under its number (R31). -/
theorem startAttempt_number (l : LinkLine) (s : State) :
    (startAttempt l s).link.sequence = attemptNumber s ∧ (startAttempt l s).link.reference = some s.ownContent := by
  obtain ⟨hsequence, hreference⟩ := numberSnapshot_number s
  cases l <;> exact ⟨hsequence, hreference⟩

/-! ### The other line -/

/-- An operation writes no line but this one. -/
def WritesLine (l : LinkLine) (f : State → State) : Prop := ∀ s m, m ≠ l → (f s).line m = s.line m

theorem onLine_writes (l : LinkLine) (f : LineUnit → LineUnit) : WritesLine l (State.onLine l f) :=
  fun s _ hm => State.line_onLine_ne hm f s

theorem startAttempt_writes (l : LinkLine) : WritesLine l (startAttempt l) := fun s m hm =>
  (State.line_onLine_ne hm _ _).trans (numberSnapshot_line m s)

theorem enterDelay_writes (l : LinkLine) : WritesLine l (enterDelay l) := by
  intro s m hm
  unfold enterDelay
  split
  · exact startAttempt_writes l s m hm
  · exact State.line_onLine_ne hm _ s

theorem enterGap_writes (l : LinkLine) : WritesLine l (enterGap l) := by
  intro s m hm
  unfold enterGap
  split
  · exact enterDelay_writes l s m hm
  · exact State.line_onLine_ne hm _ s

theorem fillSlot_writes (l : LinkLine) : WritesLine l (fillSlot l) := fun s => (fillSlot_filled l s).other

theorem fillIfChanged_writes (l : LinkLine) : WritesLine l (fillIfChanged l) := by
  intro s m hm
  unfold fillIfChanged
  split
  · exact fillSlot_writes l s m hm
  · rfl

theorem report_line (k : ReportKind) (a b c d e : Nat) (s : State) (m : LinkLine) :
    (report k a b c d e s).line m = s.line m := by
  have h : (report k a b c d e s).link = s.link := congrArg Fixed.link (report_fixed k a b c d e s)
  simp only [State.line, h]

theorem latch_line (c : Condition) (s : State) (m : LinkLine) : (latch c s).line m = s.line m := rfl

/-! ### Gaining the line -/

/-- A line in DELAY for this many bit times (R35). -/
def LineUnit.delayed (bits : Nat) (u : LineUnit) : LineUnit := { u with tx := .delay, delayTimer := some bits }

theorem enterDelay_zero {l : LinkLine} {s : State} (h : delayBits s l = 0) :
    (enterDelay l s).line l = attemptLine l s := by
  have h' : accessDelay s l = 0 := h
  rw [enterDelay, if_pos h', startAttempt_line]

theorem enterDelay_pos {l : LinkLine} {s : State} (h : delayBits s l ≠ 0) :
    (enterDelay l s).line l = (s.line l).delayed (delayBits s l) := by
  have h' : accessDelay s l ≠ 0 := h
  rw [enterDelay, if_neg h', State.line_onLine]
  rfl

theorem enterGap_idle {l : LinkLine} {s : State} (h : (s.line l).idle = true) : enterGap l s = enterDelay l s := by
  rw [enterGap, if_pos h]

theorem enterGap_active {l : LinkLine} {s : State} (h : (s.line l).idle = false) :
    (enterGap l s).line l = { s.line l with tx := .gap } := by
  simp [enterGap, h]

/-! ### Filling the slot -/

theorem fillSlot_full {l : LinkLine} {s : State} (h : (s.line l).slot ≠ .empty) : fillSlot l s = s := by
  rw [fillSlot, if_neg h]

/-- The line with its slot filled (R32). -/
def LineUnit.filled (u : LineUnit) : LineUnit := { u with slot := .full false }

theorem fillSlot_idle {l : LinkLine} {s : State} (h : (s.line l).slot = .empty) (ht : (s.line l).tx = .idle)
    (hs : (s.line l).spacingTimer = none) : fillSlot l s = enterGap l (s.onLine l LineUnit.filled) := by
  unfold fillSlot
  rw [if_pos h]
  dsimp only
  rw [if_pos ht, hs]
  rfl

theorem fillSlot_spacing {l : LinkLine} {s : State} (h : (s.line l).slot = .empty) (ht : (s.line l).tx = .idle)
    (hs : (s.line l).spacingTimer.isSome = true) : (fillSlot l s).line l = { (s.line l).filled with tx := .spacing } := by
  simp [fillSlot, h, ht, hs, LineUnit.filled]

theorem fillSlot_busy {l : LinkLine} {s : State} (h : (s.line l).slot = .empty) (ht : (s.line l).tx ≠ .idle) :
    (fillSlot l s).line l = (s.line l).filled := by
  simp [fillSlot, h, ht, LineUnit.filled]

/-- The slot filled, the line goes to SPACING, gains the line, or is left as it was (R32, R34). -/
theorem fillSlot_cases (l : LinkLine) (s : State) :
    ((s.line l).slot ≠ .empty ∧ fillSlot l s = s) ∨
    ((s.line l).slot = .empty ∧ (s.line l).tx = .idle ∧ (s.line l).spacingTimer = none ∧
      fillSlot l s = enterGap l (s.onLine l LineUnit.filled)) ∨
    ((s.line l).slot = .empty ∧ (s.line l).tx = .idle ∧ (s.line l).spacingTimer.isSome = true ∧
      (fillSlot l s).line l = { (s.line l).filled with tx := .spacing }) ∨
    ((s.line l).slot = .empty ∧ (s.line l).tx ≠ .idle ∧ (fillSlot l s).line l = (s.line l).filled) := by
  by_cases h : (s.line l).slot = .empty
  · by_cases ht : (s.line l).tx = .idle
    · cases hs : (s.line l).spacingTimer with
      | none => exact .inr (.inl ⟨h, ht, rfl, fillSlot_idle h ht hs⟩)
      | some n => exact .inr (.inr (.inl ⟨h, ht, rfl, fillSlot_spacing h ht (by simp [hs])⟩))
    · exact .inr (.inr (.inr ⟨h, ht, fillSlot_busy h ht⟩))
  · exact .inl ⟨h, fillSlot_full h⟩

theorem fillIfChanged_fills {l : LinkLine} {s : State} (hc : (s.line l).changed = true)
    (hs : (s.line l).spacingTimer = none) : fillIfChanged l s = fillSlot l s := by
  rw [fillIfChanged, if_pos ⟨hc, hs⟩]

theorem fillIfChanged_waits {l : LinkLine} {s : State}
    (h : (s.line l).changed = false ∨ (s.line l).spacingTimer.isSome = true) : fillIfChanged l s = s := by
  rw [fillIfChanged, if_neg]
  rintro ⟨hc, hs⟩
  rcases h with h | h
  · rw [h] at hc
    cases hc
  · rw [hs] at h
    cases h

/-! ### The form of a line (R34, R37) -/

/-- A line released with a full slot, whatever the state its transmitter is about to leave. -/
def LineUnit.Waits (u : LineUnit) : Prop := u.slot ≠ .empty ∧ u.sending = none ∧ u.collisions < 8

theorem attemptLine_legal {l : LinkLine} {s : State} (h : (s.line l).collisions < 8) : LineLegal (attemptLine l s) :=
  ⟨by simp [attemptLine], by simp [attemptLine], h⟩

theorem enterDelay_legal {l : LinkLine} {s : State} (h : (s.line l).Waits) : LineLegal ((enterDelay l s).line l) := by
  obtain ⟨hslot, hsending, hcount⟩ := h
  by_cases hd : delayBits s l = 0
  · rw [enterDelay_zero hd]
    exact attemptLine_legal hcount
  · rw [enterDelay_pos hd]
    exact ⟨by simp [LineUnit.delayed, hsending], by simp [LineUnit.delayed, hslot], hcount⟩

theorem enterGap_legal {l : LinkLine} {s : State} (h : (s.line l).Waits) : LineLegal ((enterGap l s).line l) := by
  cases hi : (s.line l).idle with
  | true =>
    rw [enterGap_idle hi]
    exact enterDelay_legal h
  | false =>
    rw [enterGap_active hi]
    obtain ⟨hslot, hsending, hcount⟩ := h
    exact ⟨by simp [hsending], by simp [hslot], hcount⟩

theorem fillSlot_legal {l : LinkLine} {s : State} (h : LineLegal (s.line l)) : LineLegal ((fillSlot l s).line l) := by
  obtain ⟨hsending, hslot, hcount⟩ := h
  rcases fillSlot_cases l s with ⟨-, e⟩ | ⟨he, ht, -, e⟩ | ⟨he, ht, -, e⟩ | ⟨he, ht, -⟩
  · rw [e]
    exact ⟨hsending, hslot, hcount⟩
  · rw [e]
    refine enterGap_legal ?_
    rw [State.line_onLine]
    exact ⟨nofun, by simpa [LineUnit.filled, ht] using hsending, hcount⟩
  · rw [e]
    exact ⟨by simpa [LineUnit.filled, ht] using hsending, by simp [LineUnit.filled], hcount⟩
  · exact absurd (hslot.mp he) ht

theorem fillIfChanged_legal {l : LinkLine} {s : State} (h : LineLegal (s.line l)) :
    LineLegal ((fillIfChanged l s).line l) := by
  unfold fillIfChanged
  split
  · exact fillSlot_legal h
  · exact h

/-- Both lines keep their form (R34, R37). -/
def State.LinesLegal (s : State) : Prop := ∀ l, LineLegal (s.line l)

namespace State.LinesLegal

variable {s t : State}

theorem of_link (h : s.LinesLegal) (hl : t.link = s.link) : t.LinesLegal := fun l => by
  have : t.line l = s.line l := by simp only [State.line, hl]
  rw [this]
  exact h l

theorem of_lines {l : LinkLine} (hl : LineLegal (s.line l)) (hm : ∀ m, m ≠ l → LineLegal (s.line m)) : s.LinesLegal :=
  fun m => if h : m = l then h ▸ hl else hm m h

/-- What writes one line keeps the form where it keeps the form of that line. -/
theorem write (h : s.LinesLegal) {l : LinkLine} {f : State → State} (hf : WritesLine l f) (hl : LineLegal ((f s).line l)) :
    (f s).LinesLegal := of_lines hl fun m hm => (hf s m hm).symm ▸ h m

theorem onLine (h : s.LinesLegal) {l : LinkLine} {f : LineUnit → LineUnit} (hf : LineLegal (f (s.line l))) :
    (s.onLine l f).LinesLegal := h.write (onLine_writes l f) (by rwa [State.line_onLine])

theorem fillSlot (h : s.LinesLegal) (l : LinkLine) : (fillSlot l s).LinesLegal :=
  h.write (fillSlot_writes l) (fillSlot_legal (h l))

theorem fillIfChanged (h : s.LinesLegal) (l : LinkLine) : (fillIfChanged l s).LinesLegal :=
  h.write (fillIfChanged_writes l) (fillIfChanged_legal (h l))

theorem fillBoth (h : s.LinesLegal) : (fillBoth s).LinesLegal := (h.fillSlot .a).fillSlot .b

theorem contentChanged (h : s.LinesLegal) : (contentChanged s).LinesLegal := by
  have ha : (s.onLine .a fun u => { u with changed := true }).LinesLegal := h.onLine (h .a)
  exact ((ha.onLine (ha .b)).fillIfChanged .a).fillIfChanged .b

theorem published (before : State) (h : s.LinesLegal) : (publish before s).LinesLegal := by
  unfold publish
  dsimp only
  split
  · exact h.contentChanged.of_link rfl
  · exact h.of_link rfl

/-! ### The events of the transmitters -/

theorem spacingExpiry (h : s.LinesLegal) (l : LinkLine) : (spacingExpiry l s).LinesLegal := by
  unfold Machine.spacingExpiry
  split
  · extract_lets s1
    have h1 : s1.LinesLegal := h.onLine (h l)
    split
    · rename_i ht
      obtain ⟨hsending, hslot, hcount⟩ := h1 l
      refine h1.write (enterGap_writes l) (enterGap_legal ⟨?_, ?_, hcount⟩)
      · simp [hslot, ht]
      · simpa [ht] using hsending
    · exact h1.fillIfChanged l
  · exact h

theorem refreshExpiry (h : s.LinesLegal) (l : LinkLine) : (refreshExpiry l s).LinesLegal := by
  unfold Machine.refreshExpiry
  split
  · exact LinesLegal.fillSlot (h.onLine (h l)) l
  · exact h

theorem idleGap (h : s.LinesLegal) (l : LinkLine) : (idleGap l s).LinesLegal := by
  unfold Machine.idleGap
  split
  · exact h
  · extract_lets s1
    have h1 : s1.LinesLegal := h.onLine (h l)
    split
    · rename_i ht
      obtain ⟨hsending, hslot, hcount⟩ := h1 l
      refine h1.write (enterDelay_writes l) (enterDelay_legal ⟨?_, ?_, hcount⟩)
      · simp [hslot, ht]
      · simpa [ht] using hsending
    · exact h1

theorem deferLine (h : s.LinesLegal) (l : LinkLine) : (deferLine l s).LinesLegal := by
  obtain ⟨hsending, hslot, hcount⟩ := h l
  refine h.onLine ⟨?_, ?_, hcount⟩
  · by_cases ht : (s.line l).tx = .delay <;> simp_all
  · by_cases ht : (s.line l).tx = .delay <;> simp_all

theorem delayExpiry (h : s.LinesLegal) (l : LinkLine) : (delayExpiry l s).LinesLegal := by
  unfold Machine.delayExpiry
  split
  · obtain ⟨-, -, hcount⟩ := h l
    refine h.write (startAttempt_writes l) ?_
    rw [startAttempt_line]
    exact attemptLine_legal hcount
  · exact h

theorem collide (h : s.LinesLegal) (l : LinkLine) (atFirst : Bool) : (collide l atFirst s).LinesLegal := by
  unfold Machine.collide
  split
  · rename_i ht
    obtain ⟨-, hslot, -⟩ := h l
    have other : ∀ (f : LineUnit → LineUnit) m, m ≠ l → ((releaseLine l atFirst s).onLine l f).line m = s.line m :=
      fun f m hm => by rw [State.line_onLine_ne hm, releaseLine, State.line_onLine_ne hm]
    have line : ∀ f : LineUnit → LineUnit, ((releaseLine l atFirst s).onLine l f).line l =
        f { s.line l with sending := none, idle := atFirst } := fun f => by
      rw [State.line_onLine, releaseLine, State.line_onLine]
    dsimp only
    split
    · rename_i hlimit
      refine of_lines (enterGap_legal (l := l) ?_) fun m hm => ?_
      · rw [line]
        exact ⟨by simp [hslot, ht], rfl, hlimit⟩
      · rw [enterGap_writes l _ m hm, other _ m hm]
        exact h m
    · refine LinesLegal.fillIfChanged (of_lines (l := l) ?_ fun m hm => ?_) l
      · rw [report_line, latch_line, line]
        exact ⟨by simp, by simp, by simp⟩
      · rw [report_line, latch_line, other _ m hm]
        exact h m
  · exact h

theorem completeTransmission (h : s.LinesLegal) (l : LinkLine) : (completeTransmission l s).LinesLegal := by
  unfold Machine.completeTransmission
  split
  · exact LinesLegal.fillIfChanged (h.onLine ⟨by simp, by simp, by simp⟩) l
  · exact h

end State.LinesLegal

end Sys2Proof.Machine
end

section
/-! PROOFS. Which events leave the link, and that every command keeps the form of the lines and every configuration item in its
range (O11). -/

namespace Sys2Proof.Machine

/-! ### Events that leave the link -/

theorem submitCause_link (c : Cause) (s : State) : (submitCause c s).link = s.link :=
  congrArg Fixed.link (submitCause_fixed c s)

/-- A frame that has been heard leaves the link (R11). -/
theorem checkFrame_link (line : LinkLine) (f : Frame) (s : State) : (checkFrame line f s).link = s.link := by
  unfold checkFrame
  (repeat' split)
  · exact submitCause_link _ _
  · rfl
  · rfl
  · cases hj : s.peer ⟨f.source, ‹_›⟩ with
    | none => simp [acceptFrame, hj]
    | some e => exact congrArg Fixed.link (acceptFrame_fixed hj)
  · rfl

/-- The events that write the link in their own work. -/
def linkEvent : Instr → Bool
  | .spacingTimerExpiry _ | .refreshTimerExpiry _ | .idleGapMet _ | .deferral _ | .attemptStart _ | .collision _
  | .transmissionComplete _ | .healthTimerExpiry _ | .frameReceived _ _ => true
  | _ => false

/-- Every other event leaves the link until its end. -/
theorem eventWork_link {c : Instr} {f : State → State} (h : eventWork c = some f) (hc : linkEvent c = false) (s : State) :
    (f s).link = s.link := by
  have peer : ∀ (t : State) j e, (t.setPeer j e).fixed.link = t.fixed.link := fun _ _ _ => rfl
  have input : ∀ (t : State) i x, (t.setInput i x).fixed.link = t.fixed.link := fun _ _ _ => rfl
  show (f s).fixed.link = s.fixed.link
  cases c <;> cases hc <;> cases h
  case staleTimerExpiry j =>
    unfold staleExpiry
    dsimp only
    (repeat' split) <;> simp [peer]
  case lostTimerExpiry j =>
    unfold lostExpiry
    dsimp only
    (repeat' split) <;> simp [peer]
  case seenTimerExpiry j line => unfold seenExpiry; (repeat' split) <;> rfl
  case duplicateTimerExpiry => rfl
  case stationTimeTick => rw [timeTick_eq, silentTest_fixed]; rfl
  case inputRawChange i active => unfold sampleInput; dsimp only; split <;> rfl
  case filterTimerExpiry i =>
    unfold filterExpiry
    dsimp only
    (repeat' split) <;> simp [input]
  case estopRawChange active => unfold sampleEstop; split <;> rfl
  case estopEvent => unfold estopExpiry; dsimp only; split <;> simp
  all_goals simp

namespace State.LinesLegal

variable {s t : State}

theorem of_fixed (h : s.LinesLegal) (ht : t.fixed = s.fixed) : t.LinesLegal := by
  have hl : t.fixed.link = s.fixed.link := congrArg Fixed.link ht
  exact h.of_link hl

theorem setHealth (h : s.LinesLegal) (l : LinkLine) (x : Health) (n : Nat) : (setHealth l x n s).LinesLegal := fun m => by
  rw [setHealth_line]
  split
  · exact h l
  · exact h m

theorem healthExpiry (h : s.LinesLegal) (l : LinkLine) : (healthExpiry l s).LinesLegal := by
  unfold Machine.healthExpiry
  split
  · have stopped : (s.onLine l fun u => { u with healthTimer := none }).LinesLegal := h.onLine (h l)
    have latched : (latch (silentCondition l) (s.onLine l fun u => { u with healthTimer := none })).LinesLegal :=
      stopped.of_link rfl
    exact setHealth latched l _ _
  · exact h

theorem hears (h : s.LinesLegal) (line : LinkLine) (source : Nat) : (hears line source s).LinesLegal := fun m => by
  rw [hears_line]
  split
  · exact h line
  · exact h m

theorem receiveFrame (h : s.LinesLegal) (line : LinkLine) (levels : List Bool) : (receiveFrame line levels s).LinesLegal := by
  have heard : (s.onLine line LineUnit.heard).LinesLegal := h.onLine (h line)
  unfold Machine.receiveFrame
  split
  · exact h
  · dsimp only
    split
    · exact heard
    · unfold takeFrame
      split
      · exact heard
      · exact of_link (h.hears line _) (checkFrame_link line _ _)

theorem ofLinkEvent {c : Instr} {f : State → State} (hf : eventWork c = some f) (hc : linkEvent c = true)
    (h : s.LinesLegal) : (f s).LinesLegal := by
  cases c <;> cases hc <;> cases hf
  case frameReceived line levels => exact h.receiveFrame line levels
  case spacingTimerExpiry l => exact h.spacingExpiry l
  case refreshTimerExpiry l => exact h.refreshExpiry l
  case idleGapMet l => exact h.idleGap l
  case deferral l => exact h.deferLine l
  case attemptStart l => exact h.delayExpiry l
  case collision p => exact h.collide p.line _
  case transmissionComplete l => exact h.completeTransmission l
  case healthTimerExpiry l => exact (h.healthExpiry l).of_fixed (healthReact_fixed _)

theorem event {c : Instr} {f : State → State} (hf : eventWork c = some f) (h : s.LinesLegal) : (f s).LinesLegal := by
  cases hc : linkEvent c with
  | false => exact h.of_link (eventWork_link hf hc s)
  | true => exact h.ofLinkEvent hf hc

theorem startRun (h : s.LinesLegal) : (startRun s).LinesLegal := by
  have h1 : (runLine .b (runLine .a s.started)).LinesLegal := by
    have ha : (runLine .a s.started).LinesLegal := (h.of_link (t := s.started) rfl).onLine (h .a)
    exact ha.onLine (ha .b)
  have h2 : (startBlocks s).LinesLegal :=
    h1.of_link (congrArg Fixed.link ((runRole_fixed _).trans (setNotProved_fixed _)))
  have h3 : ((startBlocks s).onLine .a fun u => { u with changed := false }).LinesLegal := h2.onLine (h2 .a)
  exact (h3.onLine (h3 .b)).fillBoth

theorem order {c : Instr} {d : State → State × Answer} (hd : orderDecision c = some d) (h : s.LinesLegal) :
    (d s).1.LinesLegal := by
  have inhibit : ∀ on, (setInhibit on s).LinesLegal := fun on =>
    h.of_link ((congrArg Fixed.link (setInhibit_fixed on s)).trans rfl)
  cases c <;> cases hd
  case setItem item value => unfold orderSetItem; (repeat' split) <;> exact h
  case setRoster codes => unfold orderSetRoster; (repeat' split) <;> exact h
  case run => unfold orderRun; (repeat' split); exacts [h, h, h.startRun]
  case enableReset => exact h
  case setMask => exact h
  case setThreshold => exact h
  case clearInhibit => unfold orderClearInhibit; (repeat' split); exacts [h, h, inhibit _]
  case setInhibit => unfold orderSetInhibit; split; exacts [h, inhibit _]
  all_goals exact h.of_fixed (by simp)

theorem afterReset (straps : Straps) (code subject : Byte) (config : ConfigStore) (roster : Vector (Option Role) 12)
    (encoder : Encoder) (found : Found) : (State.afterReset straps code subject config roster encoder found).LinesLegal := by
  intro l
  cases l <;> simp [LineLegal, State.line, State.afterReset, LineUnit.atReset]

theorem powerOn (straps : Straps) (s : State) : (powerOnReset straps s).LinesLegal := afterReset _ _ _ _ _ _ _

theorem orderReset (straps : Straps) (s : State) : (orderReset straps s).LinesLegal := by
  unfold Machine.orderReset
  exact (afterReset straps _ _ s.config s.roster _ _).of_link (onMotion_link _ _)

end State.LinesLegal

theorem linesLegal_keptByCommands : KeptByCommands State.LinesLegal where
  handled s t hu h := h.of_link (hu .link (by decide))
  published before after h := h.published before
  filled s _ h := h.fillBoth
  powerOn straps s _ := State.LinesLegal.powerOn straps s
  orderReset straps s _ := State.LinesLegal.orderReset straps s
  order c d s hd h := h.order hd
  event c f s hf h := h.event hf
  period s _ _ h := h.of_fixed (controlWork_fixed s)

/-! ### The configuration items (R204) -/

theorem storeItem_item {c : ConfigStore} {n value : Nat} (h1 : 1 ≤ n) (h39 : n ≤ 39) {m : Nat} (hm : 1 ≤ m) :
    (storeItem c n value).item m = if m = n then value else c.item m := by
  have hn : n - 1 < 39 := by omega
  rw [storeItem, dif_pos hn]
  simp only [ConfigStore.item, List.getD_eq_getElem?_getD, Vector.toList_set, List.getElem?_set]
  by_cases h : m = n
  · subst h
    simp [hn]
  · rw [if_neg (by omega), if_neg h]

theorem writeItem_item {c : ConfigStore} {n value : Nat} (h1 : 1 ≤ n) (h39 : n ≤ 39) {m : Nat} (hm : 1 ≤ m) :
    (writeItem c n value).item m =
      if n = 4 ∧ m = 24 then min (c.item 24) value
      else if n = 4 ∧ m = 5 then min (c.item 5) value
      else if m = n then value else c.item m := by
  unfold writeItem
  by_cases h : n = 4
  · subst h
    rw [if_pos rfl, storeItem_item (by decide) (by decide) hm, storeItem_item (by decide) (by decide) hm,
      storeItem_item (by decide) (by decide) hm]
    simp
  · rw [if_neg h, storeItem_item h1 h39 hm]
    simp [h]

/-- Only the numbers 1 to 39 are items. -/
theorem itemRange_bounds {c : ConfigStore} {n : Nat} {range : Nat × Nat} (h : itemRange c n = some range) :
    1 ≤ n ∧ n ≤ 39 := by
  by_contra hn
  have hnone : itemRange c n = none := by
    unfold itemRange
    split <;> first | omega | rfl
  rw [hnone] at h
  cases h

/-- The range of an item depends on item 4 alone, and only for items 5 and 24. -/
theorem itemRange_congr {c d : ConfigStore} {n : Nat} (h : n = 5 ∨ n = 24 → d.item 4 = c.item 4) :
    itemRange d n = itemRange c n := by
  by_cases hn : n = 5 ∨ n = 24
  · rcases hn with rfl | rfl <;> simp only [itemRange, h, true_or, or_true]
  · unfold itemRange
    split <;> first | omega | rfl

/-- No item's range is empty, as item 4 is 1000 or more. -/
theorem itemRange_nonempty {c : ConfigStore} (hc : ConfigInRange c) {n : Nat} {range : Nat × Nat}
    (h : itemRange c n = some range) : range.1 ≤ range.2 := by
  have h4 := (hc 4 _ rfl).1
  unfold itemRange at h
  split at h <;> cases h <;> omega

theorem itemStored_inRange {c : ConfigStore} (hc : ConfigInRange c) {n : Nat} {range : Nat × Nat}
    (h : itemRange c n = some range) (value : Nat) :
    range.1 ≤ itemStored range n value ∧ itemStored range n value ≤ range.2 := by
  unfold itemStored
  split
  · subst n
    cases h
    dsimp only
    omega
  · have := itemRange_nonempty hc h
    unfold clampNat
    omega

/-- Writing item 4 lowers items 5 and 24 to it, which is 1000 or more, so that they keep to their new ranges. -/
theorem writeItem_four_inRange {c : ConfigStore} (hc : ConfigInRange c) {value : Nat} (hv : 1000 ≤ value ∧ value ≤ 29000) :
    ConfigInRange (writeItem c 4 value) := by
  intro n range h
  have item (m : Nat) (hm : 1 ≤ m) := writeItem_item (c := c) (value := value) (n := 4) (by decide) (by decide) hm
  obtain ⟨h1, -⟩ := itemRange_bounds h
  by_cases hn : n = 5 ∨ n = 24
  · have h5 := (hc 5 _ rfl).1
    have h24 := (hc 24 _ rfl).1
    have h4 : (writeItem c 4 value).item 4 = value := by simp [item]
    rcases hn with rfl | rfl <;> cases h <;> rw [item _ h1, h4] <;> simp <;> omega
  · rw [itemRange_congr fun hn' => absurd hn' hn] at h
    rw [item n h1]
    by_cases h4 : n = 4
    · subst h4
      cases h
      simpa using hv
    · have := hc n range h
      simp_all

theorem writeItem_other_inRange {c : ConfigStore} (hc : ConfigInRange c) {n : Nat} (h4 : n ≠ 4) {range : Nat × Nat}
    (h : itemRange c n = some range) {value : Nat} (hv : range.1 ≤ value ∧ value ≤ range.2) :
    ConfigInRange (writeItem c n value) := by
  intro m range' h'
  obtain ⟨h1, h39⟩ := itemRange_bounds h
  have item (m : Nat) (hm : 1 ≤ m) : (writeItem c n value).item m = if m = n then value else c.item m := by
    rw [writeItem_item h1 h39 hm]
    simp [h4]
  have hrange : itemRange (writeItem c n value) m = itemRange c m :=
    itemRange_congr fun _ => by rw [item 4 (by decide), if_neg (Ne.symm h4)]
  rw [hrange] at h'
  rw [item m (itemRange_bounds h').1]
  split
  · subst m
    rw [h] at h'
    cases h'
    exact hv
  · exact hc m range' h'

/-- SET_ITEM keeps every item in its range (R204). -/
theorem writeItem_stored_inRange {c : ConfigStore} (hc : ConfigInRange c) {n : Nat} {range : Nat × Nat}
    (h : itemRange c n = some range) (value : Nat) : ConfigInRange (writeItem c n (itemStored range n value)) := by
  have hv := itemStored_inRange hc h value
  by_cases h4 : n = 4
  · subst h4
    cases h
    exact writeItem_four_inRange hc hv
  · exact writeItem_other_inRange hc h4 h hv

/-! ### The configuration in a step -/

theorem config_of_setup {s t : State} (h : t.fixed.setup = s.fixed.setup) : t.config = s.config := congrArg Fixed.config h

theorem config_of_fixed {s t : State} (h : t.fixed = s.fixed) : t.config = s.config := congrArg Fixed.config h

theorem orderSetItem_config_inRange (item : Byte) (value : BitVec 32) {s : State} (h : ConfigInRange s.config) :
    ConfigInRange (orderSetItem item value s).1.config := by
  unfold orderSetItem
  split
  · exact h
  · split
    · exact h
    · rename_i range hrange
      exact writeItem_stored_inRange h hrange _

theorem orderDecision_config_inRange {c : Instr} {d : State → State × Answer} (hd : orderDecision c = some d) {s : State}
    (h : ConfigInRange s.config) : ConfigInRange (d s).1.config := by
  rcases orderDecision_frame hd s with ⟨hf, -⟩ | ⟨-, ⟨item, value, rfl⟩ | ⟨codes, rfl⟩ | rfl⟩
  · have hc : (d s).1.config = s.config := congrArg (fun x => x.2.2.1) hf
    rwa [hc]
  · cases hd
    exact orderSetItem_config_inRange item value h
  · cases hd
    unfold orderSetRoster
    (repeat' split) <;> exact h
  · cases hd
    have hrun : (startRun s).config = s.config := congrArg Fixed.config (startRun_unlinked s)
    unfold orderRun
    split
    · exact h
    · split
      · exact h
      · rwa [hrun]

theorem configInRange_keptByCommands : KeptByCommands fun s => ConfigInRange s.config where
  handled s t hu h := by
    have hc : t.config = s.config := hu .config (by decide)
    rwa [hc]
  published before after h := by rwa [config_of_setup (publish_setup before after)]
  filled s _ h := by rwa [config_of_setup (fillBoth_setup s)]
  powerOn straps s _ := reset_config_inRange
  orderReset straps s h := h
  order c d s hd h := orderDecision_config_inRange hd h
  event c f s hf h := by rwa [config_of_setup (eventWork_setup hf s)]
  period s _ _ h := by rwa [config_of_fixed (controlWork_fixed s)]

end Sys2Proof.Machine
end

section
/-! PROOFS. The transmitters' timers, the idle gap and the attempts (O37 to O39). -/

namespace Sys2Proof.Machine

/-! ### What one line's transmitter does in an event -/

/-- From `s` to `t` the transmitter of one line has worked: it writes that line, SEQUENCE and the reference alone, and leaves
the line's health. -/
structure LineStep (l : LinkLine) (s t : State) : Prop where
  link : t = s.withLink t.link
  other : ∀ m, m ≠ l → t.line m = s.line m
  health : t.healths = s.healths

namespace LineStep

variable {l : LinkLine} {s t : State}

theorem refl : LineStep l s s := ⟨rfl, fun _ _ => rfl, rfl⟩

/-- One operation more, which writes the link alone, this line alone, and not its health. -/
theorem comp {f : State → State} (h : LineStep l s t) (hlink : LinkOnly f) (hline : WritesLine l f)
    (hhealth : (f t).healths = t.healths) : LineStep l s (f t) where
  link := by
    have e := hlink t
    rw [h.link] at e ⊢
    exact e
  other m hm := (hline t m hm).trans (h.other m hm)
  health := hhealth.trans h.health

theorem onLine {f : LineUnit → LineUnit} (h : LineStep l s t)
    (hf : ((f (t.line l)).health, (f (t.line l)).healthTimer) = ((t.line l).health, (t.line l).healthTimer)) :
    LineStep l s (t.onLine l f) :=
  h.comp (onLine_linkOnly l fun _ => f) (onLine_writes l f) (onLine_healths hf)

theorem startAttempt (h : LineStep l s t) : LineStep l s (startAttempt l t) :=
  h.comp (startAttempt_linkOnly l) (startAttempt_writes l) (startAttempt_healths l t)

theorem enterDelay (h : LineStep l s t) : LineStep l s (enterDelay l t) :=
  h.comp (enterDelay_linkOnly l) (enterDelay_writes l) (enterDelay_healths l t)

theorem enterGap (h : LineStep l s t) : LineStep l s (enterGap l t) :=
  h.comp (enterGap_linkOnly l) (enterGap_writes l) (enterGap_healths l t)

theorem fillSlot (h : LineStep l s t) : LineStep l s (fillSlot l t) :=
  h.comp (fillSlot_linkOnly l) (fillSlot_writes l) (fillSlot_healths l t)

theorem fillIfChanged (h : LineStep l s t) : LineStep l s (fillIfChanged l t) :=
  h.comp (fillIfChanged_linkOnly l) (fillIfChanged_writes l) (fillIfChanged_healths l t)

theorem ownContent (h : LineStep l s t) : t.ownContent = s.ownContent := by
  have hh := h.health
  rw [h.link] at hh ⊢
  exact withLink_ownContent hh

theorem fed (h : LineStep l s t) : t.fed = s.fed := by
  rw [h.link]
  rfl

theorem unchangedBut (h : LineStep l s t) : UnchangedBut [.link] s t := by
  intro b hb
  rw [h.link]
  cases b <;> simp_all [same, State.withLink]

end LineStep

/-- The end of an event that the machine began with no change fed, and that fed none. -/
theorem unchangedBut_setFed {named : List Block} {s v : State} (h : UnchangedBut named (s.setFed false) v) :
    UnchangedBut named s (v.setFed s.fed) := by
  intro b hb
  cases b
  case feed => rfl
  all_goals exact h _ hb

/-- The work of one line's transmitter is all that its event does: no content has changed. -/
theorem exec_of_lineStep {c : Instr} {f : State → State} {l : LinkLine} {s : State} (hf : eventWork c = some f)
    (h : LineStep l (s.setFed false) (f (s.setFed false))) :
    exec c s = .next ((f (s.setFed false)).setFed s.fed) ∧
      (∀ m, m ≠ l → ((f (s.setFed false)).setFed s.fed).line m = s.line m) ∧
      UnchangedBut [.link] s ((f (s.setFed false)).setFed s.fed) := by
  refine ⟨?_, h.other, unchangedBut_setFed h.unchangedBut⟩
  have hcontent : s.ownContent = (f (s.setFed false)).ownContent := h.ownContent.symm
  rw [exec_of_eventWork s hf, event_same h.fed hcontent]

/-! ### Gaining the line -/

/-- What leaves a line's idle level and collision count leaves its access delay and the way in which it gains the line. -/
theorem enterGap_onLine_gains {l : LinkLine} {f : LineUnit → LineUnit} {s : State}
    (hidle : (f (s.line l)).idle = (s.line l).idle) (hcount : (f (s.line l)).collisions = (s.line l).collisions) :
    GainsLine l s (enterGap l (s.onLine l f)) := by
  have hdelay : delayBits (s.onLine l f) l = delayBits s l := by
    rw [delayBits, State.line_onLine, hcount]
    cases l <;> rfl
  have hidle' : ((s.onLine l f).line l).idle = (s.line l).idle := by rw [State.line_onLine, hidle]
  unfold GainsLine
  rw [← hidle', ← hdelay]
  cases hi : ((s.onLine l f).line l).idle with
  | false => simp [enterGap_active hi]
  | true =>
    rw [if_neg (by decide), enterGap_idle hi]
    split
    · rename_i h
      simp [enterDelay_zero h, attemptLine]
    · rename_i h
      simp [enterDelay_pos h, LineUnit.delayed]

/-- An idle transmitter whose slot is filled begins to gain the line. -/
theorem fillSlot_onLine_gains {l : LinkLine} {f : LineUnit → LineUnit} {s : State}
    (hslot : (f (s.line l)).slot = .empty) (ht : (f (s.line l)).tx = .idle) (hs : (f (s.line l)).spacingTimer = none)
    (hidle : (f (s.line l)).idle = (s.line l).idle) (hcount : (f (s.line l)).collisions = (s.line l).collisions) :
    GainsLine l s (fillSlot l (s.onLine l f)) := by
  have twice : (s.onLine l f).onLine l LineUnit.filled = s.onLine l fun u => (f u).filled := by cases l <;> rfl
  rw [fillSlot_idle (by rwa [State.line_onLine]) (by rwa [State.line_onLine]) (by rwa [State.line_onLine]), twice]
  exact enterGap_onLine_gains (by simpa [LineUnit.filled] using hidle) (by simpa [LineUnit.filled] using hcount)

/-! ### The spacing timer -/

/-- A line whose spacing timer has ended. -/
def LineUnit.spaced (u : LineUnit) : LineUnit := { u with spacingTimer := none }

section
variable {l : LinkLine} {s : State} (h : (s.line l).spacingTimer.isSome = true)
include h

theorem spacingExpiry_waiting (ht : (s.line l).tx = .spacing) :
    spacingExpiry l s = enterGap l (s.onLine l LineUnit.spaced) := by
  unfold spacingExpiry
  rw [if_pos h]
  dsimp only
  rw [State.line_onLine, if_pos ht]
  rfl

theorem spacingExpiry_other (ht : (s.line l).tx ≠ .spacing) :
    spacingExpiry l s = fillIfChanged l (s.onLine l LineUnit.spaced) := by
  unfold spacingExpiry
  rw [if_pos h]
  dsimp only
  rw [State.line_onLine, if_neg ht]
  rfl

theorem spacingExpiry_changed (ht : (s.line l).tx ≠ .spacing) (hc : (s.line l).changed = true) :
    spacingExpiry l s = fillSlot l (s.onLine l LineUnit.spaced) := by
  rw [spacingExpiry_other h ht, fillIfChanged_fills (by rwa [State.line_onLine]) (by rw [State.line_onLine]; rfl)]

theorem spacingExpiry_line (ht : (s.line l).tx ≠ .spacing) (hn : (s.line l).changed = false ∨ (s.line l).slot ≠ .empty) :
    (spacingExpiry l s).line l = (s.line l).spaced := by
  cases hc : (s.line l).changed with
  | false =>
    rw [spacingExpiry_other h ht, fillIfChanged_waits (by rw [State.line_onLine]; exact .inl hc), State.line_onLine]
  | true =>
    have hslot : (s.line l).slot ≠ .empty := hn.resolve_left (by rw [hc]; decide)
    rw [spacingExpiry_changed h ht hc, fillSlot_full (by rwa [State.line_onLine]), State.line_onLine]

end

theorem spacingExpiry_lineStep (l : LinkLine) (s : State) : LineStep l s (spacingExpiry l s) := by
  have stopped : LineStep l s (s.onLine l LineUnit.spaced) := LineStep.refl.onLine rfl
  unfold spacingExpiry
  split
  · dsimp only
    split
    · exact stopped.enterGap
    · exact stopped.fillIfChanged
  · exact .refl

/-! ### The refresh timer -/

/-- A line whose refresh timer has ended. -/
def LineUnit.refreshed (u : LineUnit) : LineUnit := { u with refreshTimer := none }

theorem refreshExpiry_running {l : LinkLine} {s : State} (h : (s.line l).refreshTimer.isSome = true) :
    refreshExpiry l s = fillSlot l (s.onLine l LineUnit.refreshed) := if_pos h

theorem refreshExpiry_lineStep (l : LinkLine) (s : State) : LineStep l s (refreshExpiry l s) := by
  have stopped : LineStep l s (s.onLine l LineUnit.refreshed) := LineStep.refl.onLine rfl
  unfold refreshExpiry
  split
  · exact stopped.fillSlot
  · exact .refl

/-- Settles O37. The event is the work of one line's transmitter, on the state with no change fed. -/
theorem slotTimersExpire : Obligations.SlotTimersExpire := by
  unfold Obligations.SlotTimersExpire
  intro l s u aside
  let v := s.setFed false
  obtain ⟨hspacing, hspacingAside⟩ :=
    exec_of_lineStep (c := .spacingTimerExpiry l) rfl (spacingExpiry_lineStep l v)
  obtain ⟨hrefresh, hrefreshAside⟩ :=
    exec_of_lineStep (c := .refreshTimerExpiry l) rfl (refreshExpiry_lineStep l v)
  refine ⟨fun htimer => ⟨fun ht => ⟨_, hspacing, ?_, hspacingAside⟩,
    fun ht hslot hchanged => ⟨_, hspacing, ?_, ?_, hspacingAside⟩, fun ht hkept => ⟨_, hspacing, ?_, hspacingAside⟩⟩,
    fun htimer => ⟨fun ht hslot hs => ⟨_, hrefresh, ?_, ?_, hrefreshAside⟩,
    fun ht hslot hs => ⟨_, hrefresh, ?_, hrefreshAside⟩, fun hslot => ⟨_, hrefresh, ?_, hrefreshAside⟩⟩⟩
  · rw [spacingExpiry_waiting (s := v) htimer ht]
    exact enterGap_onLine_gains (s := v) rfl rfl
  · have hne : u.tx ≠ .spacing := by rw [ht]; decide
    rw [spacingExpiry_changed (s := v) htimer hne hchanged]
    exact (fillSlot_filled l _).slot
  · have hne : u.tx ≠ .spacing := by rw [ht]; decide
    rw [spacingExpiry_changed (s := v) htimer hne hchanged]
    exact fillSlot_onLine_gains (s := v) hslot ht rfl rfl rfl
  · exact spacingExpiry_line (s := v) htimer ht hkept
  · rw [refreshExpiry_running (s := v) htimer]
    exact (fillSlot_filled l _).slot
  · rw [refreshExpiry_running (s := v) htimer]
    exact fillSlot_onLine_gains (s := v) hslot ht hs rfl rfl
  · rw [refreshExpiry_running (s := v) htimer]
    exact (fillSlot_spacing (by rwa [State.line_onLine]) (by rwa [State.line_onLine]) (by rwa [State.line_onLine])).trans
      (by rw [State.line_onLine]; rfl)
  · rw [refreshExpiry_running (s := v) htimer, fillSlot_full (by rwa [State.line_onLine])]
    exact State.line_onLine l _ v

end Sys2Proof.Machine
end

section
/-! PROOFS. The idle gap, deferral, attempts and collisions (O38, O39). -/

namespace Sys2Proof.Machine

/-! ### The idle gap and deferral -/

/-- A line that has been idle for 12 bit times (R34, R38). -/
def LineUnit.idled (u : LineUnit) : LineUnit := { u with idle := true, ignoring := false }

/-- A line seen at the active level (R35). -/
def LineUnit.deferred (u : LineUnit) : LineUnit :=
  { u with
    idle := false
    tx := if u.tx = .delay then .gap else u.tx
    delayTimer := if u.tx = .delay then none else u.delayTimer }

theorem idleGap_gap {l : LinkLine} {s : State} (ht : (s.line l).tx = .gap) :
    idleGap l s = enterDelay l (s.onLine l LineUnit.idled) := by
  unfold idleGap
  rw [if_neg (by rw [ht]; decide)]
  dsimp only
  rw [State.line_onLine, if_pos ht]
  rfl

theorem idleGap_other {l : LinkLine} {s : State} (hs : (s.line l).tx ≠ .sending) (hg : (s.line l).tx ≠ .gap) :
    idleGap l s = s.onLine l LineUnit.idled := by
  unfold idleGap
  rw [if_neg hs]
  dsimp only
  rw [State.line_onLine, if_neg hg]
  rfl

theorem idleGap_lineStep (l : LinkLine) (s : State) : LineStep l s (idleGap l s) := by
  have idled : LineStep l s (s.onLine l LineUnit.idled) := LineStep.refl.onLine rfl
  unfold idleGap
  split
  · exact .refl
  · dsimp only
    split
    · exact idled.enterDelay
    · exact idled

theorem deferLine_lineStep (l : LinkLine) (s : State) : LineStep l s (deferLine l s) :=
  LineStep.refl.onLine (f := LineUnit.deferred) rfl

/-- What leaves a line's collision count leaves its access delay (R35). -/
theorem delayBits_onLine {l : LinkLine} {f : LineUnit → LineUnit} {s : State}
    (hcount : (f (s.line l)).collisions = (s.line l).collisions) : delayBits (s.onLine l f) l = delayBits s l := by
  rw [delayBits, State.line_onLine, hcount]
  cases l <;> rfl

/-- Settles O38. -/
theorem idleGapsAndDeferrals : Obligations.IdleGapsAndDeferrals := by
  unfold Obligations.IdleGapsAndDeferrals
  intro l s u aside
  let v := s.setFed false
  obtain ⟨hgap, hgapAside⟩ := exec_of_lineStep (c := .idleGapMet l) rfl (idleGap_lineStep l v)
  obtain ⟨hdefer, hdeferAside⟩ := exec_of_lineStep (c := .deferral l) rfl (deferLine_lineStep l v)
  have bits : delayBits (v.onLine l LineUnit.idled) l = delayBits s l := delayBits_onLine (s := v) rfl
  have hdeferred : (deferLine l v).line l = u.deferred := State.line_onLine l _ v
  refine ⟨fun ht => ⟨_, hgap, fun h0 => ?_, fun h0 => ?_, hgapAside⟩, fun hg hs => ⟨_, hgap, ?_, hgapAside⟩,
    fun ht => ⟨_, hdefer, ?_, hdeferAside⟩, fun ht => ⟨_, hdefer, ?_, hdeferAside⟩⟩
  · rw [idleGap_gap (s := v) ht]
    have e := enterDelay_zero (bits.trans h0)
    exact (congrArg LineUnit.tx e).trans rfl
  · rw [idleGap_gap (s := v) ht]
    refine (enterDelay_pos (by rwa [bits])).trans ?_
    rw [bits, State.line_onLine]
    rfl
  · rw [idleGap_other (s := v) hs hg]
    exact State.line_onLine l _ v
  · refine hdeferred.trans ?_
    simp [LineUnit.deferred, ht]
  · refine hdeferred.trans ?_
    simp [LineUnit.deferred, ht]

/-! ### Collisions and the jam -/

/-- The line of a collision below the jam limit, before the transmitter gains it anew (R35, R37). -/
def LineUnit.collided (atFirst : Bool) (u : LineUnit) : LineUnit :=
  { u with sending := none, idle := atFirst, collisions := u.collisions + 1 }

/-- The line whose slot the jam has emptied (R37). -/
def LineUnit.jammed (atFirst : Bool) (u : LineUnit) : LineUnit :=
  { u with tx := .idle, sending := none, collisions := 0, slot := .empty, idle := atFirst }

/-- The line whose frame has been read back whole (R34, R36). -/
def LineUnit.sent (u : LineUnit) : LineUnit := { u with tx := .idle, sending := none, collisions := 0, slot := .empty }

/-- A jam: the slot emptied, LINK_JAM latched and reported (R37, R41). -/
def jam (l : LinkLine) (atFirst : Bool) (s : State) : State :=
  let h := healthCodeOf (s.line l).health
  report .link (lineNumber l) h h 2 jamLimit (latch (jamCondition l) (s.onLine l (LineUnit.jammed atFirst)))

theorem collide_counts {l : LinkLine} {atFirst : Bool} {s : State} (ht : (s.line l).tx = .sending)
    (hc : (s.line l).collisions < 7) :
    collide l atFirst s = enterGap l (s.onLine l (LineUnit.collided atFirst)) := by
  have twice : (releaseLine l atFirst s).onLine l (fun u => { u with collisions := u.collisions + 1 }) =
      s.onLine l (LineUnit.collided atFirst) := by cases l <;> rfl
  rw [collide_below l atFirst s ht (Nat.succ_lt_succ hc), twice]

theorem collide_jams {l : LinkLine} {atFirst : Bool} {s : State} (ht : (s.line l).tx = .sending)
    (hc : (s.line l).collisions = 7) : collide l atFirst s = fillIfChanged l (jam l atFirst s) := by
  have twice : (releaseLine l atFirst s).onLine l (fun u => { u with tx := .idle, collisions := 0, slot := .empty }) =
      s.onLine l (LineUnit.jammed atFirst) := by cases l <;> rfl
  have hlimit : ¬ (s.line l).collisions + 1 < jamLimit := by rw [hc]; decide
  unfold collide
  rw [if_pos ht]
  dsimp only
  rw [if_neg hlimit, twice]
  rfl

theorem completeTransmission_sending {l : LinkLine} {s : State} (ht : (s.line l).tx = .sending) :
    completeTransmission l s = fillIfChanged l (s.onLine l LineUnit.sent) := if_pos ht

theorem submit_ownContent (r : Report) (s : State) : (submit r s).ownContent = s.ownContent := by
  unfold submit
  split <;> rfl

/-- A jam writes its line, the conditions and the reports, and no content. -/
theorem jam_aside (l : LinkLine) (atFirst : Bool) (s : State) :
    (jam l atFirst s).fed = s.fed ∧ (jam l atFirst s).ownContent = s.ownContent ∧
      UnchangedBut [.link, .reports] s (jam l atFirst s) ∧ ∀ m, m ≠ l → (jam l atFirst s).line m = s.line m := by
  have emptied : LineStep l s (s.onLine l (LineUnit.jammed atFirst)) := LineStep.refl.onLine rfl
  refine ⟨(submit_fed _ _).trans emptied.fed, (submit_ownContent _ _).trans emptied.ownContent, ?_, fun m hm => ?_⟩
  · have latched := latch_unchangedBut (jamCondition l) (s.onLine l (LineUnit.jammed atFirst))
    exact unchangedBut_comp emptied.unchangedBut (latched.trans (submit_unchangedBut _ _)) (by simp) (by simp)
  · exact (report_line _ _ _ _ _ _ _ m).trans (emptied.other m hm)

theorem jam_line (l : LinkLine) (atFirst : Bool) (s : State) : (jam l atFirst s).line l = (s.line l).jammed atFirst :=
  (report_line _ _ _ _ _ _ _ l).trans (State.line_onLine l _ s)

theorem jam_latched (l : LinkLine) (atFirst : Bool) (s : State) : (jam l atFirst s).latched (jamCondition l) = true :=
  submit_keeps _ _ _ (latch_latched _ _)

theorem jam_last (l : LinkLine) (atFirst : Bool) (s : State) :
    lastReport (jam l atFirst s) {
      kind := .link, time := s.time, subject := match l with | .a => 0 | .b => 1
      old := BitVec.ofNat 8 (((s.line l).health.map healthCode).getD 3)
      new := BitVec.ofNat 8 (((s.line l).health.map healthCode).getD 3), extra1 := 2, extra2 := 8 } := by
  have h := report_last .link (lineNumber l) (healthCodeOf (s.line l).health) (healthCodeOf (s.line l).health) 2 jamLimit
    (latch (jamCondition l) (s.onLine l (LineUnit.jammed atFirst)))
  cases l <;> exact h

/-- The event of an eighth collision: the jam, then what a standing CHANGED flag does with the empty slot. -/
theorem exec_of_jam {l : LinkLine} {s : State} (ht : (s.line l).tx = .sending) (hc : (s.line l).collisions = 7)
    (bit : Fin 160) :
    let v := fillIfChanged l (jam l (bit == 0) (s.setFed false))
    exec (.collision { line := l, bit := bit }) s = .next (v.setFed s.fed) ∧
      v.port = (jam l (bit == 0) (s.setFed false)).port ∧
      (∀ m, m ≠ l → (v.setFed s.fed).line m = s.line m) ∧ UnchangedBut [.link, .reports] s (v.setFed s.fed) := by
  intro v
  obtain ⟨hfed, hcontent, hun, hother⟩ := jam_aside l (bit == 0) (s.setFed false)
  have fill : LineStep l (jam l (bit == 0) (s.setFed false)) v := LineStep.refl.fillIfChanged
  have hwork : collide l (bit == 0) (s.setFed false) = v := collide_jams (s := s.setFed false) ht hc
  have hsame : s.ownContent = v.ownContent := (fill.ownContent.trans hcontent).symm
  refine ⟨?_, ?_, fun m hm => (fill.other m hm).trans (hother m hm),
    unchangedBut_setFed (unchangedBut_comp hun fill.unchangedBut (by simp) (by simp))⟩
  · rw [exec_of_eventWork (c := .collision { line := l, bit := bit }) s rfl]
    dsimp only
    rw [hwork, event_same (fill.fed.trans hfed) hsame]
  · rw [fill.link]
    rfl

theorem collide_lineStep {l : LinkLine} {atFirst : Bool} {s : State} (ht : (s.line l).tx = .sending)
    (hc : (s.line l).collisions < 7) : LineStep l s (collide l atFirst s) := by
  rw [collide_counts ht hc]
  exact (LineStep.refl.onLine rfl).enterGap

/-- The event of a collision below the jam limit. -/
theorem exec_of_collision {l : LinkLine} {s : State} (ht : (s.line l).tx = .sending) (hc : (s.line l).collisions < 7)
    {bit : Fin 160} {atFirst : Bool} (hbit : (bit == 0) = atFirst) :
    let v := enterGap l ((s.setFed false).onLine l (LineUnit.collided atFirst))
    exec (.collision { line := l, bit := bit }) s = .next (v.setFed s.fed) ∧
      (∀ m, m ≠ l → (v.setFed s.fed).line m = s.line m) ∧ UnchangedBut [.link] s (v.setFed s.fed) := by
  have h := exec_of_lineStep (c := .collision { line := l, bit := bit }) rfl
    (collide_lineStep (s := s.setFed false) (atFirst := bit == 0) ht hc)
  rw [← collide_counts (s := s.setFed false) ht hc, ← hbit]
  exact h

theorem delayExpiry_delay {l : LinkLine} {s : State} (ht : (s.line l).tx = .delay)
    (htimer : (s.line l).delayTimer.isSome = true) : delayExpiry l s = startAttempt l s := if_pos ⟨ht, htimer⟩

theorem delayExpiry_lineStep (l : LinkLine) (s : State) : LineStep l s (delayExpiry l s) := by
  unfold delayExpiry
  split
  · exact LineStep.refl.startAttempt
  · exact .refl

theorem completeTransmission_lineStep (l : LinkLine) (s : State) : LineStep l s (completeTransmission l s) := by
  unfold completeTransmission
  split
  · exact (LineStep.refl.onLine rfl).fillIfChanged
  · exact .refl

/-- Where CHANGED stands with no spacing timer, the emptied slot is filled anew (R32). -/
theorem fillIfChanged_fills_slot {l : LinkLine} {s : State} (hc : (s.line l).changed = true)
    (hs : (s.line l).spacingTimer = none) : ((fillIfChanged l s).line l).slot ≠ .empty := by
  rw [fillIfChanged_fills hc hs]
  exact (fillSlot_filled l s).slot

/-- Settles O39. Every event works on the state with no change fed, where each clause is about one line's transmitter, but for
the jam, which also reports. -/
theorem attemptsSendTheNumberedRecord : Obligations.AttemptsSendTheNumberedRecord := by
  unfold Obligations.AttemptsSendTheNumberedRecord
  intro l s u aside number first
  let v := s.setFed false
  obtain ⟨hstart, hstartAside⟩ := exec_of_lineStep (c := .attemptStart l) rfl (delayExpiry_lineStep l v)
  obtain ⟨hwhole, hwholeAside⟩ :=
    exec_of_lineStep (c := .transmissionComplete l) rfl (completeTransmission_lineStep l v)
  refine ⟨fun ht htimer => ⟨_, hstart, ?_, ?_, ?_, hstartAside⟩, fun ht => ⟨fun hc bit hbit => ?_, fun hc => ?_,
    fun hc hkept bit => ?_, fun hc hchanged hs bit => ?_, fun hkept => ⟨_, hwhole, ?_, hwholeAside⟩,
    fun hchanged hs => ⟨_, hwhole, ?_, hwholeAside⟩⟩⟩
  · rw [delayExpiry_delay (s := v) ht htimer]
    exact (startAttempt_number l v).1
  · rw [delayExpiry_delay (s := v) ht htimer]
    exact (startAttempt_number l v).2
  · rw [delayExpiry_delay (s := v) ht htimer]
    refine (startAttempt_line l v).trans ?_
    simp only [first, decide_eq_true_eq]
    rfl
  · obtain ⟨hexec, haside⟩ := exec_of_collision (s := s) ht hc (bit := bit) (atFirst := false) (by simpa using hbit)
    refine ⟨_, hexec, (enterGap_active (by rw [State.line_onLine]; rfl)).trans ?_, haside⟩
    rw [State.line_onLine]
    rfl
  · obtain ⟨hexec, haside⟩ := exec_of_collision (s := s) ht hc (bit := 0) (atFirst := true) rfl
    have bits : delayBits (v.onLine l (LineUnit.collided true)) l = s.straps.number.val * 8 + (u.collisions + 1) * 16 := by
      rw [delayBits, State.line_onLine]
      cases l <;> rfl
    have gains : enterGap l (v.onLine l (LineUnit.collided true)) = enterDelay l (v.onLine l (LineUnit.collided true)) :=
      enterGap_idle (by rw [State.line_onLine]; rfl)
    refine ⟨_, hexec, (congrArg (State.line · l) gains).trans ((enterDelay_pos (by rw [bits]; omega)).trans ?_), haside⟩
    rw [bits, State.line_onLine]
    rfl
  · obtain ⟨hexec, hport, haside⟩ := exec_of_jam (s := s) ht hc bit
    have hline := jam_line l (bit == 0) v
    have waits : fillIfChanged l (jam l (bit == 0) v) = jam l (bit == 0) v := by
      refine fillIfChanged_waits ?_
      rw [hline]
      exact hkept
    refine ⟨_, hexec, ?_, ?_, ?_, haside⟩
    · rw [waits]
      exact hline
    · rw [waits]
      cases l <;> exact jam_latched _ (bit == 0) v
    · rw [waits]
      exact jam_last l (bit == 0) v
  · obtain ⟨hexec, hport, haside⟩ := exec_of_jam (s := s) ht hc bit
    have hline := jam_line l (bit == 0) v
    refine ⟨_, hexec, ?_, ?_, haside⟩
    · exact fillIfChanged_fills_slot (by rw [hline]; exact hchanged) (by rw [hline]; exact hs)
    · have hlatched := jam_latched l (bit == 0) v
      rw [State.latched, ← hport] at hlatched
      cases l <;> exact hlatched
  · rw [completeTransmission_sending (s := v) ht, fillIfChanged_waits (by rw [State.line_onLine]; exact hkept)]
    exact State.line_onLine l _ v
  · rw [completeTransmission_sending (s := v) ht]
    exact fillIfChanged_fills_slot (by rw [State.line_onLine]; exact hchanged) (by rw [State.line_onLine]; exact hs)

end Sys2Proof.Machine
end

section
/-! PROOFS. A line whose health timer expires (O40). -/

namespace Sys2Proof.Machine

/-! ### The content and the lines -/

/-- Of the link, the own content shows alone whether each line is OK (R40). -/
theorem withLink_ownContent_of_lineOk {s : State} {k : Link} (h : ∀ l, (s.withLink k).lineOk l = s.lineOk l) :
    (s.withLink k).ownContent = s.ownContent := by
  simp only [State.ownContent, h]
  rfl

/-- No field of a desk's record follows a lamp (R178). -/
theorem onLamp_ownContent_desk {s : State} (h : s.role = .desk) (i : Fin 16) (f : Lamp → Lamp) :
    (s.onLamp i f).ownContent = s.ownContent := by
  have hr : (s.onLamp i f).role = .desk := h
  simp only [State.ownContent, State.ownPayload, h, hr]
  rfl

/-- A desk has no proved output, so that a request is of the mode alone (R141). -/
theorem requestMode_desk {s : State} (h : s.role = .desk) (i : Fin 16) (m : LampMode) :
    (requestMode i m s).fed = s.fed ∧ (requestMode i m s).ownContent = s.ownContent := by
  have noEnd : endOnPhase i false s = s := by rw [endOnPhase, h]; rfl
  have noBegin : ∀ f, beginOnPhase i (s.onLamp i f) = s.onLamp i f := fun f => by
    have hr : (s.onLamp i f).role = .desk := h
    rw [beginOnPhase, hr]
    rfl
  have hmode := onLamp_ownContent_desk h i fun u => { u with mode := m }
  unfold requestMode
  rw [noEnd, ite_self]
  dsimp only
  rw [noBegin, ite_self]
  split
  · exact ⟨rfl, rfl⟩
  · exact ⟨rfl, hmode⟩

theorem requestRow_desk {s : State} (h : s.role = .desk) (row : List (Fin 16 × LampMode)) :
    (requestRow row s).fed = s.fed ∧ (requestRow row s).ownContent = s.ownContent := by
  induction row generalizing s with
  | nil => exact ⟨rfl, rfl⟩
  | cons r rest ih =>
    have hr : (requestMode r.1 r.2 s).role = .desk := (congrArg (·.straps.role) (requestMode_fixed r.1 r.2 s) : _).trans h
    obtain ⟨hfed, hcontent⟩ := requestMode_desk h r.1 r.2
    exact ⟨(ih hr).1.trans hfed, (ih hr).2.trans hcontent⟩

/-- What follows a change of line health is no change of content (R177). -/
theorem healthReact_ownContent (s : State) :
    (healthReact s).fed = s.fed ∧ (healthReact s).ownContent = s.ownContent := by
  unfold healthReact
  split
  · rename_i h
    exact requestRow_desk h.2 _
  · exact ⟨rfl, rfl⟩

/-! ### The line goes silent -/

/-- The line as it goes silent, before the LINK report (R39). -/
def LineUnit.silenced (u : LineUnit) : LineUnit := { u with healthTimer := none, health := some .silent }

/-- The station with that line, its condition latched. -/
def silenced (l : LinkLine) (s : State) : State := latch (silentCondition l) (s.onLine l LineUnit.silenced)

theorem lineSilent_eq {l : LinkLine} {s : State} (h : (s.line l).healthTimer.isSome = true)
    (hh : (s.line l).health ≠ some .silent) :
    lineSilent l s = healthReact
      (report .link (lineNumber l) (healthCodeOf (s.line l).health) (healthCode .silent) 1 255 (silenced l s)) := by
  have timer : ((latch (silentCondition l) (s.onLine l fun u => { u with healthTimer := none })).line l).health =
      (s.line l).health := by rw [latch_line, State.line_onLine]
  have twice : (latch (silentCondition l) (s.onLine l fun u => { u with healthTimer := none })).onLine l
      (fun u => { u with health := some .silent }) = silenced l s := by cases l <;> rfl
  rw [lineSilent, healthExpiry, if_pos h, setHealth]
  rw [timer, if_neg hh, twice]

theorem silenced_line (l m : LinkLine) (s : State) :
    (silenced l s).line m = if m = l then (s.line l).silenced else s.line m := by
  rw [silenced, latch_line]
  split
  · subst m
    exact State.line_onLine l _ s
  · exact State.line_onLine_ne ‹_› _ s

theorem silenced_aside (l : LinkLine) (s : State) :
    (silenced l s).aside = s.aside ∧ (silenced l s).fixed.unlinked = s.fixed.unlinked := by
  cases l <;> exact ⟨rfl, rfl⟩

/-- A line that was not OK was none in the record either, which then shows no change (R40). -/
theorem silenced_ownContent {l : LinkLine} {s : State} (h : (s.line l).health ≠ some .ok) :
    (silenced l s).ownContent = s.ownContent := by
  have hlink : (silenced l s).ownContent = (s.withLink (silenced l s).link).ownContent := by cases l <;> rfl
  rw [hlink]
  refine withLink_ownContent_of_lineOk fun m => ?_
  have hm : (s.withLink (silenced l s).link).line m = (silenced l s).line m := rfl
  rw [State.lineOk, State.lineOk, hm, silenced_line]
  split
  · subst m
    have hno : ((s.line l).health == some .ok) = false := by simpa using h
    rw [hno]
    rfl
  · rfl

/-- The LINK report of a line gone silent (R41). -/
def silentReport (l : LinkLine) (s : State) : Report :=
  { kind := .link, time := s.time, subject := byteOf (lineNumber l), old := byteOf (healthCodeOf (s.line l).health)
    new := byteOf (healthCode .silent), extra1 := byteOf 1, extra2 := byteOf 255 }

theorem lineSilent_submits {l : LinkLine} {s : State} (h : (s.line l).healthTimer.isSome = true)
    (hh : (s.line l).health ≠ some .silent) :
    lineSilent l s = healthReact (submit (silentReport l s) (silenced l s)) := by
  rw [lineSilent_eq h hh, report]
  cases l <;> rfl

/-- Settles O40. -/
theorem silentLinesAreFound : Obligations.SilentLinesAreFound := by
  unfold Obligations.SilentLinesAreFound
  intro l s htimer hhealth
  let v := s.setFed false
  let w := silenced l v
  let u := submit (silentReport l s) w
  have work : lineSilent l v = healthReact u := lineSilent_submits (s := v) htimer hhealth
  have hexec : exec (.healthTimerExpiry l) s = .next (publish s (healthReact u)) := by
    rw [exec_of_eventWork (c := .healthTimerExpiry l) s rfl, work]
  have hfixed : (healthReact u).fixed = w.fixed := (healthReact_fixed u).trans (submit_fixed _ w)
  have hlines : ∀ m, (healthReact u).line m = if m = l then (s.line l).silenced else s.line m := fun m => by
    have hlink : (healthReact u).link = w.link := congrArg Fixed.link hfixed
    have hm : (healthReact u).line m = w.line m := by simp only [State.line, hlink]
    rw [hm]
    exact silenced_line l m v
  have hown := congrFun (publish_healths s (healthReact u)) l
  simp only [State.healths, hlines, if_pos, Prod.mk.injEq] at hown
  obtain ⟨hsilent, hstopped⟩ := hown
  have grows : Grows u (healthReact u) := (Grows.refl u).healthReact
  have hport := publish_port s (healthReact u)
  refine ⟨_, hexec, hsilent, hstopped, ?_, ?_, fun hquiet m hm => ?_, ?_⟩
  · have hlatched : w.latched (silentCondition l) = true := latch_latched _ _
    have := grows.latched _ (submit_keeps (silentReport l s) _ w hlatched)
    rw [State.latched, ← hport] at this
    cases l <;> exact this
  · have hreports : w.port.reports = s.port.reports := by cases l <;> rfl
    obtain ⟨new, hnew, hin⟩ := grows.submitted (submit_submitted (silentReport l s) w)
    rw [← hport] at hnew hin
    refine ⟨new, hreports ▸ hnew, ?_⟩
    cases l <;> exact hin
  · have hfed : (healthReact u).fed = false :=
      ((healthReact_ownContent u).1.trans (submit_fed _ w)).trans (by cases l <;> rfl)
    have same : publish s (healthReact u) = (healthReact u).setFed s.fed := by
      refine publish_same _ _ (hquiet.imp_right fun hok => .inr ⟨hfed, ?_⟩)
      have hcontent : (silenced l v).ownContent = v.ownContent := silenced_ownContent (s := v) hok
      exact (((healthReact_ownContent u).2.trans (submit_ownContent _ w)).trans hcontent).symm
    rw [same]
    exact (hlines m).trans (if_neg hm)
  · obtain ⟨haside, hunlinked⟩ := silenced_aside l v
    have hsubmit : u.aside = w.aside := by
      show (submit _ w).aside = w.aside
      unfold submit
      split <;> rfl
    have hall : UnchangedBut [.feed, .link, .reports, .signal] v (healthReact u) :=
      unchangedBut_of_aside ((healthReact_aside u).trans (hsubmit.trans haside))
        ((congrArg Fixed.unlinked hfixed).trans hunlinked)
    exact (event_unchangedBut hall).mono (by simp)

end Sys2Proof.Machine
end

section
/-! PROOFS. What the work of every command keeps of reports, trip record and fed changes: a predicate that a handful of
operations keep is kept by all of them (O11, O41). -/

namespace Sys2Proof.Machine

/-! ### Motion operations and the mark of fed changes -/

theorem setRequest_fed (s : State) : (setRequest s).fed = s.fed := by
  unfold setRequest
  split <;> rfl

theorem releaseRequest_fed (s : State) : (releaseRequest s).fed = s.fed := by
  unfold releaseRequest
  split <;> rfl

theorem driveBolt_fed (s : State) : (driveBolt s).fed = s.fed := by
  unfold driveBolt
  (repeat' split) <;> rfl

theorem withdrawBolt_fed (s : State) : (withdrawBolt s).fed = s.fed := by
  unfold withdrawBolt
  (repeat' split) <;> rfl

theorem boltOnEntry_fed (p : CornerPhase) (s : State) : (boltOnEntry p s).fed = s.fed := by
  unfold boltOnEntry
  (repeat' split)
  · exact driveBolt_fed s
  · exact withdrawBolt_fed s
  · exact withdrawBolt_fed s
  · rfl

theorem brakeOnEntry_fed (p : CornerPhase) (s : State) : (brakeOnEntry p s).fed = s.fed := by
  unfold brakeOnEntry
  (repeat' split)
  · exact setRequest_fed _
  · exact releaseRequest_fed s
  · exact setRequest_fed s
  · rfl
  · rfl

theorem homingOnEntry_fed (p : CornerPhase) (s : State) : (homingOnEntry p s).fed = s.fed := by
  unfold homingOnEntry
  split <;> rfl

/-! ### Operations that tell nothing -/

/-- From `s` to `t` no report is submitted, no change fed, and the order FIFO, the lost count and the straps stay; the
threshold stays in its range, and the trip record in its form. -/
structure Untold (s t : State) : Prop where
  reports : t.port.reports = s.port.reports
  lost : t.port.lostCount = s.port.lostCount
  orders : t.port.orders = s.port.orders
  threshold : 1 ≤ s.port.threshold ∧ s.port.threshold ≤ 32 → 1 ≤ t.port.threshold ∧ t.port.threshold ≤ 32
  trip : TripRecordLegal s → TripRecordLegal t
  fed : t.fed = s.fed
  straps : t.straps = s.straps

theorem Untold.of_eq {s t : State} (hport : t.port = s.port) (htrip : t.trip = s.trip) (hfed : t.fed = s.fed)
    (hstraps : t.straps = s.straps) : Untold s t where
  reports := congrArg LocalPort.reports hport
  lost := congrArg LocalPort.lostCount hport
  orders := congrArg LocalPort.orders hport
  threshold h := by rwa [hport]
  trip h := by
    unfold TripRecordLegal
    rw [htrip]
    exact h
  fed := hfed
  straps := hstraps

/-- A report of no change of PHASE, of an arm's state, or of one lamp's proving state. -/
def TellsNoChange (k : ReportKind) (subject old new : Nat) : Prop :=
  k ≠ .phase ∧ (k = .arm → old = new) ∧ (k = .lamp → 16 ≤ (byteOf subject).toNat)

/-- A predicate that these operations keep, which all work on reports, the trip record and fed changes is made of. -/
structure KeptByWork (P : State → Prop) : Prop where
  untold : ∀ s t, Untold s t → P s → P t
  report : ∀ k a b c d e s, TellsNoChange k a b c → P s → P (report k a b c d e s)
  phase : ∀ a b c d e s t, t.port = s.port → t.trip = s.trip → t.straps = s.straps → t.fed = true → P s →
    P (Machine.report .phase a b c d e t)
  proving : ∀ i p s, P s → P (setProving i p s)
  arm : ∀ i x event s, P s → P (enterArm i x event s)

namespace KeptByWork

variable {P : State → Prop} (k : KeptByWork P) {s : State}
include k

/-! ### Updates and conditions -/

theorem same {t : State} (h : P s) (hport : t.port = s.port) (htrip : t.trip = s.trip) (hfed : t.fed = s.fed)
    (hstraps : t.straps = s.straps) : P t := k.untold s t (.of_eq hport htrip hfed hstraps) h

theorem onMotion {f : MotionUnit → MotionUnit} (h : P s) : P (s.onMotion f) := k.same h rfl rfl rfl rfl
theorem onBolt {f : Bolt → Bolt} (h : P s) : P (s.onBolt f) := k.same h rfl rfl rfl rfl
theorem onClosure {f : ClosureUnit → ClosureUnit} (h : P s) : P (s.onClosure f) := k.same h rfl rfl rfl rfl
theorem onChannel {f : ChannelUnit → ChannelUnit} (h : P s) : P (s.onChannel f) := k.same h rfl rfl rfl rfl
theorem onDesk {f : DeskUnit → DeskUnit} (h : P s) : P (s.onDesk f) := k.same h rfl rfl rfl rfl
theorem onSignal {f : SignalUnit → SignalUnit} (h : P s) : P (s.onSignal f) := k.same h rfl rfl rfl rfl
theorem onLamp {i : Fin 16} {f : Lamp → Lamp} (h : P s) : P (s.onLamp i f) := k.same h rfl rfl rfl rfl
theorem onSounder {i : Fin 2} {f : Sounder → Sounder} (h : P s) : P (s.onSounder i f) := k.same h rfl rfl rfl rfl
theorem onArm {i : Fin 4} {f : Arm → Arm} (h : P s) : P (s.onArm i f) := k.same h rfl rfl rfl rfl
theorem onLink {f : Link → Link} (h : P s) : P (s.onLink f) := k.same h rfl rfl rfl rfl
theorem onLine {l : LinkLine} {f : LineUnit → LineUnit} (h : P s) : P (s.onLine l f) := by
  cases l <;> exact k.same h rfl rfl rfl rfl
theorem setPeer {j : Fin 12} {e : Option Entry} (h : P s) : P (s.setPeer j e) := k.same h rfl rfl rfl rfl
theorem setInput {i : Fin 25} {x : InputLine} (h : P s) : P (s.setInput i x) := k.same h rfl rfl rfl rfl

theorem latch {c : Condition} (h : P s) : P (latch c s) := k.untold s _ ⟨rfl, rfl, rfl, id, id, rfl, rfl⟩ h

theorem onTrip {f : TripUnit → TripUnit} (hf : TripRecordLegal s → TripRecordLegal (s.onTrip f)) (h : P s) :
    P (s.onTrip f) := k.untold s _ ⟨rfl, rfl, rfl, id, hf, rfl, rfl⟩ h

omit k in
/-- What each element of a list keeps, the fold does. -/
theorem foldl {α : Type} {g : State → α → State} (hg : ∀ {t x}, P t → P (g t x)) {l : List α} (h : P s) :
    P (l.foldl g s) := List.foldlRecOn l g h fun _ ht _ _ => hg ht

/-! ### Reports -/

/-- A report of a kind that comes with no fed change. -/
theorem told {r : ReportKind} {a b c d e : Nat} (h : P s) (hr : r ∉ fedKinds := by decide) :
    P (Machine.report r a b c d e s) := by
  simp only [fedKinds, List.mem_cons, List.not_mem_nil, or_false, not_or] at hr
  obtain ⟨hphase, harm, hlamp⟩ := hr
  exact k.report r a b c d e s ⟨hphase, fun h => absurd h harm, fun h => absurd h hlamp⟩ h

/-- An entry's PHASE report, behind what the entry writes of its role block. -/
theorem toldPhase {a b c d e : Nat} {t : State} (h : P s) (hport : t.port = s.port := by rfl)
    (htrip : t.trip = s.trip := by rfl) (hstraps : t.straps = s.straps := by rfl) :
    P (Machine.report .phase a b c d e (t.setFed true)) := k.phase a b c d e s _ hport htrip hstraps rfl h

/-! ### Lamps and sounders -/

theorem windowSucceeds {i : Fin 16} (h : P s) : P (windowSucceeds i s) := k.proving _ _ _ (k.onLamp h)
theorem windowFails {i : Fin 16} (h : P s) : P (windowFails i s) := k.proving _ _ _ (k.onLamp h)

theorem beginOnPhase {i : Fin 16} (h : P s) : P (beginOnPhase i s) := by
  unfold Machine.beginOnPhase
  dsimp only
  (repeat' split)
  · exact k.windowSucceeds (k.onLamp h)
  · exact k.onLamp (k.onLamp h)
  · exact h

theorem endOnPhase {i : Fin 16} {b : Bool} (h : P s) : P (endOnPhase i b s) := by
  unfold Machine.endOnPhase
  dsimp only
  (repeat' split)
  · exact k.onLamp (k.windowFails h)
  · exact k.onLamp h
  · exact h

theorem requestMode {i : Fin 16} {m : LampMode} (h : P s) : P (requestMode i m s) := by
  unfold Machine.requestMode
  extract_lets s1 s2
  have h1 : P s1 := by
    dsimp only [s1]
    split
    · exact k.endOnPhase h
    · exact h
  have h2 : P s2 := k.onLamp h1
  (repeat' split)
  · exact h
  · exact k.beginOnPhase h2
  · exact h2

theorem requestAnew {i : Fin 16} (h : P s) : P (requestAnew i s) := k.requestMode (k.requestMode h)

theorem requestRow {row : List (Fin 16 × LampMode)} (h : P s) : P (requestRow row s) := foldl (fun ht => k.requestMode ht) h

theorem renewFailedReds (h : P s) : P (renewFailedReds s) := by
  unfold Machine.renewFailedReds
  extract_lets s1
  have h1 : P s1 := by
    dsimp only [s1]
    split
    · exact k.requestAnew h
    · exact h
  split
  · exact k.requestAnew h1
  · exact h1

theorem requestPattern {i : Fin 2} {p : Pattern} (h : P s) : P (requestPattern i p s) := k.onSounder h
theorem requestSteady {i : Fin 2} {on : Bool} (h : P s) : P (requestSteady i on s) := k.onSounder h
theorem stepExpiry {i : Fin 2} (h : P s) : P (stepExpiry i s) := k.onSounder h

theorem senseEvent {i : Fin 16} {sensed : Bool} (h : P s) : P (senseEvent i sensed s) := by
  unfold Machine.senseEvent
  dsimp only
  (repeat' split)
  · exact k.windowSucceeds (k.onLamp h)
  · exact k.onLamp (k.onLamp h)
  · exact k.onLamp (k.onLamp h)
  · exact k.onLamp (k.onLamp h)
  · exact h

theorem provingExpiry {i : Fin 16} (h : P s) : P (provingExpiry i s) := by
  unfold Machine.provingExpiry
  split
  · exact k.windowFails h
  · exact h

theorem watchExpiry {i : Fin 16} (h : P s) : P (watchExpiry i s) := by
  unfold Machine.watchExpiry
  split
  · exact k.proving _ _ _ (k.onLamp h)
  · exact h

theorem darkExpiry {i : Fin 16} (h : P s) : P (darkExpiry i s) := by
  unfold Machine.darkExpiry
  split
  · exact k.proving _ _ _ (k.onLamp h)
  · exact h

theorem flashExpiry (h : P s) : P (flashExpiry s) := by
  unfold Machine.flashExpiry
  split
  · refine foldl (fun {t x} ht => ?_) (k.onSignal h)
    dsimp only
    (repeat' split)
    · exact k.endOnPhase ht
    · exact k.beginOnPhase ht
    · exact ht
  · exact h

theorem setNotProved (h : P s) : P (setNotProved s) := by
  refine k.report _ _ _ _ _ _ _ ⟨by decide, (nomatch ·), fun _ => by decide⟩ (foldl (fun {t x} ht => ?_) h)
  split
  · exact ht
  · exact k.onLamp ht

/-! ### Arms -/

theorem driveArm {i : Fin 4} (h : P s) : P (driveArm i s) := by
  unfold Machine.driveArm
  exact k.onArm h

theorem enterArm {i : Fin 4} {x : ArmState} {event : Nat} (h : P s) : P (enterArm i x event s) := k.arm i x event s h

theorem faultArm {i : Fin 4} {c : ArmFault} (h : P s) : P (faultArm i c s) := k.enterArm (k.onArm h)
theorem arriveBelow {i : Fin 4} (h : P s) : P (arriveBelow i s) := k.enterArm (k.onArm h)

theorem beginLowering {i : Fin 4} (h : P s) : P (beginLowering i s) := by
  unfold Machine.beginLowering
  dsimp only
  (repeat' split)
  · exact k.faultArm h
  · exact h
  · exact k.onArm h
  · exact k.arriveBelow (k.enterArm (k.onArm h))
  · exact k.enterArm (k.onArm h)
  · exact h

theorem endRaise {i : Fin 4} (h : P s) : P (endRaise i s) := by
  unfold Machine.endRaise
  dsimp only
  (repeat' split)
  · exact k.faultArm (k.onArm h)
  · exact k.enterArm (k.onArm (k.onArm h))
  · exact k.beginLowering (k.enterArm (k.onArm h))

theorem beginRaise {i : Fin 4} {b : Bool} (h : P s) : P (beginRaise i b s) := by
  unfold Machine.beginRaise
  dsimp only
  split
  · exact k.endRaise (k.enterArm (k.onArm h))
  · exact k.enterArm (k.onArm h)

theorem reverseArm {i : Fin 4} (h : P s) : P (reverseArm i s) := k.beginRaise (k.onArm h)

theorem takePattern {i : Fin 4} (h : P s) : P (takePattern i s) := by
  unfold Machine.takePattern
  split
  · exact k.enterArm h
  · exact k.enterArm h
  · exact k.enterArm (k.onArm h)
  · exact k.faultArm h

theorem stopArm {i : Fin 4} (h : P s) : P (stopArm i s) := k.takePattern (k.onArm h)

theorem commandArm {i : Fin 4} {c : ArmCommand} (h : P s) : P (commandArm i c s) := by
  unfold Machine.commandArm
  extract_lets a s1
  have h1 : P s1 := k.onArm h
  (repeat' split)
  · exact h
  · exact k.driveArm (k.beginLowering h1)
  · exact k.driveArm (k.beginLowering h1)
  · exact k.onArm h1
  · exact k.driveArm (k.beginRaise h1)
  · exact k.driveArm (k.beginRaise h1)
  · exact k.driveArm (k.beginRaise h1)
  · exact k.onArm h1
  · exact k.driveArm (k.stopArm h1)
  · exact k.driveArm (k.takePattern (k.onArm h1))
  · exact h1

theorem commandArms {which : Fin 4 → Bool} {c : ArmCommand} (h : P s) : P (commandArms which c s) := by
  refine foldl (fun {t x} ht => ?_) h
  split
  · exact k.commandArm ht
  · exact ht

theorem tripArm {i : Fin 4} (h : P s) : P (tripArm i s) := by
  unfold Machine.tripArm
  dsimp only
  split
  · exact k.driveArm (k.commandArm (k.stopArm h))
  · exact k.driveArm (k.commandArm h)

theorem newClosure (h : P s) : P (newClosure s) := foldl (fun ht => k.onArm ht) h

theorem patternEvent {i : Fin 4} {old : LimitPattern} (h : P s) : P (patternEvent i old s) := by
  have fault : ∀ c, P (Machine.driveArm i (Machine.faultArm i c s)) := fun c => k.driveArm (k.faultArm h)
  unfold Machine.patternEvent
  split
  case h_1 | h_2 | h_3 | h_4 | h_5 => exact fault _
  case h_6 => exact k.driveArm (k.arriveBelow h)
  case h_7 => exact k.driveArm (k.endRaise h)
  case h_8 | h_9 | h_10 | h_11 =>
    split
    · exact fault _
    · exact h
  case h_12 => exact h

theorem presenceEvent {i : Fin 4} {active : Bool} (h : P s) : P (presenceEvent i active s) := by
  unfold Machine.presenceEvent
  (repeat' split)
  · exact k.driveArm (k.reverseArm h)
  · exact h
  · exact k.driveArm (k.beginLowering h)

theorem gapExpiry {i : Fin 4} (h : P s) : P (gapExpiry i s) := by
  unfold Machine.gapExpiry
  split
  · exact k.driveArm (k.onArm h)
  · exact h

theorem armTravelExpiry {i : Fin 4} (h : P s) : P (armTravelExpiry i s) := by
  unfold Machine.armTravelExpiry
  split
  · exact k.driveArm (k.faultArm h)
  · exact h

theorem retryExpiry {i : Fin 4} (h : P s) : P (retryExpiry i s) := by
  unfold Machine.retryExpiry
  split
  · exact k.driveArm (k.beginLowering (k.onArm h))
  · exact h

/-- The ARM report of an arm that stays held gives its state as it is (R133). -/
theorem laneExpiry {i : Fin 4} (h : P s) : P (laneExpiry i s) := by
  unfold Machine.laneExpiry
  dsimp only
  split
  · exact k.report _ _ _ _ _ _ _ ⟨by decide, fun _ => rfl, (nomatch ·)⟩ (k.latch (k.onArm h))
  · exact h

theorem deriveArms (h : P s) : P (deriveArms s) := by
  refine foldl (fun {t x} ht => ?_) h
  unfold Machine.deriveArm
  dsimp only
  split
  · exact k.enterArm (k.onArm ht)
  · exact k.onArm (k.onArm ht)

/-! ### Entries -/

theorem approachActions {p : ApproachPhase} (h : P s) : P (approachActions p s) := by
  unfold Machine.approachActions
  split
  · exact k.commandArms h
  · exact k.onClosure h
  · exact k.onClosure (k.renewFailedReds h)
  · exact k.commandArms h
  · exact k.onClosure h
  · exact k.commandArms h
  · exact h
  · exact k.commandArms h
  · exact k.commandArms h
  · exact foldl (fun ht => k.tripArm ht) h

theorem enterApproach {p : ApproachPhase} {held : Option ApproachPhase} (h : P s) : P (enterApproach p held s) := by
  unfold Machine.enterApproach
  extract_lets old s1 s2
  have h2 : P s2 := k.toldPhase (t := s1) h
  exact k.approachActions (k.requestSteady (k.requestRow h2))

theorem testVesselAlert (h : P s) : P (testVesselAlert s) := by
  unfold Machine.testVesselAlert
  dsimp only
  split
  · exact k.requestPattern (k.latch (k.onChannel h))
  · exact k.onChannel h

theorem enterChannel {p : ChannelPhase} (h : P s) : P (enterChannel p s) := by
  unfold Machine.enterChannel
  extract_lets old withdrawn s1 s2 s3 s4 s5
  have h2 : P s2 := k.testVesselAlert (k.onChannel h)
  have h3 : P s3 := by
    dsimp only [s3]
    split
    · exact k.requestPattern h2
    · exact h2
  have h4 : P s4 := k.toldPhase (t := s3) h3
  have h5 : P s5 := k.requestRow h4
  split
  · exact k.renewFailedReds h5
  · exact h5

theorem takeFallback (h : P s) : P (takeFallback s) := k.requestRow (k.onChannel h)
theorem deskIndicators (h : P s) : P (deskIndicators s) := k.requestRow h

theorem enterDesk {p : DeskPhase} {d : Demand} (h : P s) : P (enterDesk p d s) := by
  unfold Machine.enterDesk
  exact k.toldPhase h

/-- What an entry does with bolt and brake comes before its PHASE report. -/
theorem enterCorner {p : CornerPhase} {rel : Intent} (h : P s) : P (enterCorner p rel s) := by
  unfold Machine.enterCorner
  extract_lets old working s1 s2 w
  have hbeside : s2.besideMotion = s.besideMotion := by simp [s2, s1]
  have hfixed : s2.fixed = s.fixed := by simp [s2, s1]
  refine k.phase _ _ _ _ _ s s2 (by simp [s2, s1]) (congrArg Prod.fst hbeside) (congrArg Fixed.straps hfixed) ?_ h
  dsimp only [s2]
  rw [homingOnEntry_fed, boltOnEntry_fed, brakeOnEntry_fed]
  rfl

end KeptByWork

end Sys2Proof.Machine
end

section
/-! PROOFS. The trips, the sequences of the roles, the events and the orders keep what those operations keep (O11, O41). -/

namespace Sys2Proof.Machine

namespace KeptByWork

variable {P : State → Prop} (k : KeptByWork P) {s t : State}
include k

/-! ### The trip record -/

theorem enterTripped (h : P s) : P (enterTripped s) := by
  unfold Machine.enterTripped
  split
  · exact k.enterCorner h
  · exact k.enterApproach h
  · exact k.enterChannel h
  · exact k.deskIndicators (k.enterDesk h)

theorem tripReport {c : Cause} {before after : Nat} (h : P s) : P (tripReport c before after s) := k.told h

omit k in
/-- The first cause of a trip (R179). -/
theorem tripRecord_first {c : Cause} (hflag : s.trip.flag = false) (h : TripRecordLegal s) :
    TripRecordLegal (s.onTrip fun t => { t with flag := true, causes := [c] }) := by
  obtain ⟨-, -, hset, hmore⟩ := h
  have hnone : s.trip.causes = [] := by simpa [hflag] using hset
  refine ⟨by simp, by simp, by simp, fun hm => ?_⟩
  have hfour : s.trip.causes.length = 4 := hmore hm
  simp [hnone] at hfour

omit k in
/-- A further cause, where fewer than four stand (R182). -/
theorem tripRecord_further {c : Cause} (hflag : s.trip.flag ≠ false) (hc : c ∉ s.trip.causes)
    (hn : s.trip.causes.length < 4) (h : TripRecordLegal s) :
    TripRecordLegal (s.onTrip fun t => { t with causes := t.causes ++ [c] }) := by
  obtain ⟨-, hnodup, -, hmore⟩ := h
  refine ⟨?_, ?_, ?_, fun hm => ?_⟩
  · simpa using hn
  · simpa [List.nodup_append] using ⟨hnodup, fun a ha hac => hc (hac ▸ ha)⟩
  · simpa using hflag
  · have hfour : s.trip.causes.length = 4 := hmore hm
    omega

omit k in
/-- A cause that finds four stand sets MORE (R182). -/
theorem tripRecord_more (hn : ¬s.trip.causes.length < 4) (h : TripRecordLegal s) :
    TripRecordLegal (s.onTrip fun t => { t with more := true }) := by
  obtain ⟨hlen, hnodup, hset, -⟩ := h
  exact ⟨hlen, hnodup, hset, fun _ => le_antisymm hlen (not_lt.mp hn)⟩

theorem submitCause {c : Cause} (h : P s) : P (submitCause c s) := by
  unfold Machine.submitCause
  split
  · exact h
  · split
    · exact k.enterTripped (k.tripReport (k.latch (k.onTrip (tripRecord_first ‹_›) h)))
    · split
      · exact h
      · dsimp only
        (repeat' split)
        · exact k.tripReport (k.onTrip (tripRecord_further ‹_› ‹_› ‹_›) h)
        · exact h
        · exact k.tripReport (k.onTrip (tripRecord_more ‹_›) h)

theorem submitIf {b : Bool} {c : Cause} (h : P s) : P (submitIf b c s) := by
  unfold Machine.submitIf
  split
  · exact k.submitCause h
  · exact h

/-! ### The sequences of the roles -/

theorem keptByCorner : KeptByCorner P where
  motion _ _ _ h := k.onMotion h
  latch _ _ h := k.latch h
  enter _ _ _ _ _ h := k.enterCorner h
  cause _ _ h := k.submitCause h

theorem setHold (h : P s) : P (setHold s) := by
  unfold Machine.setHold
  dsimp only
  split
  · exact k.commandArms (k.onClosure h)
  · exact k.onClosure h

theorem keptByApproach : KeptByApproach P where
  hold _ _ h := k.setHold h
  enter _ _ _ _ _ _ _ h := k.enterApproach h
  resume _ _ h := k.enterApproach h
  anew _ _ h := k.newClosure h

theorem keptByChannel : KeptByChannel P where
  enter _ _ _ _ _ h := k.enterChannel h
  fallback _ _ h := k.takeFallback h

theorem ofRun (hr : CornerRun s t) (h : P s) : P t := k.keptByCorner.run hr h
theorem cornerReact (h : P s) : P (cornerReact s) := k.ofRun CornerRun.refl.cornerReact h
theorem approachReact (h : P s) : P (approachReact s) := k.keptByApproach.react h
theorem channelReact (h : P s) : P (channelReact s) := k.keptByChannel.react h

theorem roleReact (h : P s) : P (roleReact s) := by
  unfold Machine.roleReact
  (repeat' split)
  · exact k.cornerReact h
  · exact k.approachReact h
  · exact k.channelReact h
  · exact k.deskIndicators h
  · exact h

theorem lampReact (h : P s) : P (lampReact s) := by
  unfold Machine.lampReact
  (repeat' split)
  · exact k.approachReact h
  · exact k.channelReact h
  · exact h
  · exact h
  · exact h

/-! ### Clears -/

theorem leaveTripped (h : P s) : P (leaveTripped s) := by
  unfold Machine.leaveTripped
  split
  · exact k.ofRun (CornerRun.afterEntry (CornerRun.clearedCornerPhase_ne s) .none s).cornerReact (k.enterCorner h)
  · exact k.approachReact (k.enterApproach h)
  · exact k.channelReact (k.enterChannel h)
  · refine k.deskIndicators ?_
    split <;> exact k.enterDesk h

theorem acceptClear {source : Nat} (h : P s) : P (acceptClear source s) := by
  unfold Machine.acceptClear
  refine k.leaveTripped (k.told (k.onTrip (fun _ => ?_) h))
  exact ⟨by simp, by simp, by simp, nofun⟩

theorem clearAttempt {source : Nat} (h : P s) : P (clearAttempt source s) := by
  unfold Machine.clearAttempt
  split
  · exact k.acceptClear h
  · exact h
  · exact h

theorem clearPress (h : P s) : P (clearPress s) := k.clearAttempt (k.onDesk h)

/-! ### The link and frames -/

theorem linkOnly {f : State → State} (hf : LinkOnly f) (h : P s) : P (f s) := by
  rw [hf s]
  exact k.same h rfl rfl rfl rfl

theorem setHealth {l : LinkLine} {x : Health} {n : Nat} (h : P s) : P (setHealth l x n s) := by
  unfold Machine.setHealth
  dsimp only
  split
  · exact h
  · exact k.told (k.onLine h)

theorem healthReact (h : P s) : P (healthReact s) := by
  unfold Machine.healthReact
  split
  · exact k.deskIndicators h
  · exact h

theorem lineSilent {l : LinkLine} (h : P s) : P (lineSilent l s) := by
  unfold Machine.lineSilent Machine.healthExpiry
  refine k.healthReact ?_
  split
  · exact k.setHealth (k.latch (k.onLine h))
  · exact h

theorem acceptFrame {line : LinkLine} {j : Fin 12} {f : Frame} (h : P s) : P (acceptFrame line j f s) := by
  cases hj : s.peer j with
  | none =>
    have e : Machine.acceptFrame line j f s = s := by rw [Machine.acceptFrame, hj]
    rwa [e]
  | some e =>
    have hstored : P (stored line j f e s) := by
      unfold stored
      dsimp only
      (repeat' split)
      · exact k.told (k.latch (k.setPeer h))
      · exact k.told (k.setPeer h)
      · exact k.latch (k.setPeer h)
      · exact k.setPeer h
    have hattempted : P (attempted line j f e s) := by
      unfold attempted
      split
      · exact k.clearAttempt hstored
      · exact hstored
    have htested : P (tested line j f e s) := by
      unfold tested
      split
      · exact k.submitIf hattempted
      · exact hattempted
    rw [acceptFrame_eq hj]
    split
    · exact k.roleReact htested
    · exact htested

theorem ownNumberFrame (h : P s) : P (ownNumberFrame s) := by
  have hseen : P { Machine.latch .duplicateStation s with duplicateTimer := some s.staleTime } :=
    k.same (k.latch (c := .duplicateStation) h) rfl rfl rfl rfl
  unfold Machine.ownNumberFrame
  exact k.submitCause hseen

theorem checkFrame {line : LinkLine} {f : Frame} (h : P s) : P (checkFrame line f s) := by
  unfold Machine.checkFrame
  (repeat' split)
  · exact k.ownNumberFrame h
  · exact k.latch h
  · exact k.latch h
  · exact k.acceptFrame h
  · exact h

theorem hears {line : LinkLine} {source : Nat} (h : P s) : P (hears line source s) :=
  k.healthReact (k.setHealth (k.onLine (k.onLine h)))

theorem receiveFrame {line : LinkLine} {levels : List Bool} (h : P s) : P (receiveFrame line levels s) := by
  have heard : P (s.onLine line LineUnit.heard) := k.onLine h
  unfold Machine.receiveFrame
  split
  · exact h
  · dsimp only
    split
    · exact heard
    · unfold takeFrame
      split
      · exact heard
      · exact k.checkFrame (k.hears h)

theorem collide {l : LinkLine} {atFirst : Bool} (h : P s) : P (collide l atFirst s) := by
  have released : P (releaseLine l atFirst s) := k.onLine h
  unfold Machine.collide
  dsimp only
  (repeat' split)
  · exact k.linkOnly (enterGap_linkOnly l) (k.onLine released)
  · exact k.linkOnly (fillIfChanged_linkOnly l) (k.told (k.latch (k.onLine released)))
  · exact h

/-! ### The peer table's timers -/

theorem staleExpiry {j : Fin 12} (h : P s) : P (staleExpiry j s) := by
  unfold Machine.staleExpiry
  (repeat' split)
  · exact h
  · exact k.roleReact (k.submitIf (k.latch (k.told (k.setPeer h))))
  · exact h

theorem lostExpiry {j : Fin 12} (h : P s) : P (lostExpiry j s) := by
  unfold Machine.lostExpiry
  (repeat' split)
  · exact h
  · exact k.roleReact (k.latch (k.told (k.setPeer h)))
  · exact h

theorem seenExpiry {j : Fin 12} {line : LinkLine} (h : P s) : P (seenExpiry j line s) := by
  unfold Machine.seenExpiry
  (repeat' split)
  · exact h
  · exact k.setPeer h
  · exact h
  · exact k.setPeer h
  · exact h

theorem timeTick (h : P s) : P (timeTick s) := by
  have aged : P s.aged := k.same h rfl rfl rfl rfl
  rw [timeTick_eq]
  exact k.submitIf aged

/-! ### Inputs -/

theorem followDeck {old : Bool} (h : P s) : P (followDeck old s) := by
  unfold Machine.followDeck
  split
  · exact k.onClosure h
  · exact h

theorem deliverApproach {i : Fin 25} {active : Bool} {before : State} (h : P s) :
    P (deliverApproach i active before s) := by
  unfold Machine.deliverApproach
  (repeat' split)
  · exact k.approachReact (k.patternEvent h)
  · exact k.approachReact (k.followDeck (k.presenceEvent h))
  · exact k.approachReact (k.followDeck h)
  · exact h

theorem vesselEvent {active : Bool} (h : P s) : P (vesselEvent active s) := by
  unfold Machine.vesselEvent
  dsimp only
  refine k.channelReact (k.testVesselAlert ?_)
  split
  · exact k.onChannel h
  · exact h

theorem setDemand {d : Demand} (h : P s) : P (setDemand d s) := k.deskIndicators (k.onDesk h)

theorem demandPress {d : Demand} (h : P s) : P (demandPress d s) := by
  unfold Machine.demandPress
  split
  · exact k.setDemand h
  · exact h

theorem keyEvent {active : Bool} (h : P s) : P (keyEvent active s) := by
  unfold Machine.keyEvent
  (repeat' split)
  · exact k.deskIndicators (k.enterDesk h)
  · exact k.deskIndicators (k.enterDesk h)
  · exact k.deskIndicators h

theorem deliverDesk {i : Fin 25} {active : Bool} (h : P s) : P (deliverDesk i active s) := by
  unfold Machine.deliverDesk
  (repeat' split)
  · exact k.demandPress h
  · exact h
  · exact k.demandPress h
  · exact h
  · exact k.demandPress h
  · exact h
  · exact k.clearPress h
  · exact h
  · exact k.keyEvent h
  · exact h

theorem deliverInput {i : Fin 25} {active : Bool} {before : State} (h : P s) : P (deliverInput i active before s) := by
  unfold Machine.deliverInput
  split
  · exact k.ofRun CornerRun.refl.deliverCorner h
  · exact k.deliverApproach h
  · unfold deliverChannel
    split
    · exact k.vesselEvent h
    · exact h
  · exact k.deliverDesk h

theorem sampleInput {i : Fin 25} {active : Bool} (h : P s) : P (sampleInput i active s) := by
  unfold Machine.sampleInput
  dsimp only
  split
  · exact h
  · exact k.setInput h

theorem filterExpiry {i : Fin 25} (h : P s) : P (filterExpiry i s) := by
  unfold Machine.filterExpiry
  dsimp only
  split
  · split
    · exact k.setInput h
    · refine k.deliverInput ?_
      split
      · exact k.told (k.setInput h)
      · exact k.setInput h
  · exact h

theorem sampleEstop {active : Bool} (h : P s) : P (sampleEstop active s) := by
  unfold Machine.sampleEstop
  split
  · exact h
  · exact k.onTrip id h

theorem estopExpiry (h : P s) : P (estopExpiry s) := by
  unfold Machine.estopExpiry
  split
  · exact k.submitIf (k.onTrip id h)
  · exact h

/-! ### Stage timers -/

theorem completeStage {next : ApproachPhase} (h : P s) : P (completeStage next s) := by
  unfold Machine.completeStage
  split <;> exact k.enterApproach h

theorem amberExpiry (h : P s) : P (amberExpiry s) := by
  unfold Machine.amberExpiry
  split
  · exact k.approachReact (k.completeStage h)
  · exact h

theorem redExpiry (h : P s) : P (redExpiry s) := by
  unfold Machine.redExpiry
  dsimp only
  (repeat' split)
  · exact k.approachReact (k.completeStage h)
  · exact k.approachReact (k.enterApproach (k.latch h))
  · exact k.approachReact (k.onClosure (k.latch h))
  · exact h

theorem deckClearExpiry (h : P s) : P (deckClearExpiry s) := by
  unfold Machine.deckClearExpiry
  split
  · exact k.approachReact (k.completeStage h)
  · exact h

theorem deckLimitExpiry (h : P s) : P (deckLimitExpiry s) := by
  unfold Machine.deckLimitExpiry
  split
  · exact k.latch (k.onClosure h)
  · exact h

theorem clearingExpiry (h : P s) : P (clearingExpiry s) := by
  unfold Machine.clearingExpiry
  split
  · exact k.channelReact (k.enterChannel h)
  · exact h

/-! ### Every event -/

omit k in
/-- A transmitter's event writes the link alone, but for the jam of a collision. -/
theorem transmitter_linkOnly {c : Instr} {f : State → State} (hf : eventWork c = some f) (hc : transmitterEvent c = true)
    (hj : ∀ p, c ≠ .collision p) (s : State) : f s = s.withLink (f s).link := by
  cases c <;> cases hc <;> cases hf
  case spacingTimerExpiry l => exact (spacingExpiry_lineStep l s).link
  case refreshTimerExpiry l => exact (refreshExpiry_lineStep l s).link
  case idleGapMet l => exact (idleGap_lineStep l s).link
  case deferral l => exact (deferLine_lineStep l s).link
  case attemptStart l => exact (delayExpiry_lineStep l s).link
  case collision p => exact absurd rfl (hj p)
  case transmissionComplete l => exact (completeTransmission_lineStep l s).link

theorem transmitter {c : Instr} {f : State → State} (hf : eventWork c = some f) (hc : transmitterEvent c = true) (h : P s) :
    P (f s) := by
  by_cases hj : ∀ p, c ≠ .collision p
  · rw [transmitter_linkOnly hf hc hj s]
    exact k.same h rfl rfl rfl rfl
  · push Not at hj
    obtain ⟨p, rfl⟩ := hj
    cases hf
    exact k.collide h

theorem event {c : Instr} {f : State → State} (hf : eventWork c = some f) (h : P s) : P (f s) := by
  have table (ht : transmitterEvent c = false) (hc : cornerEvent c = false) : P (f s) := by
    cases c <;> cases ht <;> cases hc <;> cases hf
    case frameReceived line levels => exact k.receiveFrame h
    case staleTimerExpiry j => exact k.staleExpiry h
    case lostTimerExpiry j => exact k.lostExpiry h
    case seenTimerExpiry j line => exact k.seenExpiry h
    case duplicateTimerExpiry => exact k.same h rfl rfl rfl rfl
    case stationTimeTick => exact k.timeTick h
    case healthTimerExpiry l => exact k.lineSilent h
    case inputRawChange i active => exact k.sampleInput h
    case filterTimerExpiry i => exact k.filterExpiry h
    case estopRawChange active => exact k.sampleEstop h
    case estopEvent => exact k.estopExpiry h
    case amberTimerExpiry => exact k.amberExpiry h
    case redClearanceExpiry => exact k.redExpiry h
    case deckClearExpiry => exact k.deckClearExpiry h
    case deckLimitExpiry => exact k.deckLimitExpiry h
    case gapTimerExpiry i => exact k.gapExpiry h
    case armTravelTimeout i => exact k.approachReact (k.armTravelExpiry h)
    case retryTimerExpiry i => exact k.approachReact (k.retryExpiry h)
    case laneTimerExpiry i => exact k.laneExpiry h
    case clearingTimerExpiry => exact k.clearingExpiry h
    case flashHalfExpiry => exact k.lampReact (k.flashExpiry h)
    case lampSenseEvent i sensed => exact k.lampReact (k.senseEvent h)
    case provingTimerExpiry i => exact k.lampReact (k.provingExpiry h)
    case watchTimerExpiry i => exact k.lampReact (k.watchExpiry h)
    case darkTimerExpiry i => exact k.lampReact (k.darkExpiry h)
    case stepTimerExpiry i => exact k.stepExpiry h
  cases ht : transmitterEvent c with
  | true => exact k.transmitter hf ht h
  | false =>
    cases hc : cornerEvent c with
    | true => exact k.ofRun (eventWork_cornerRun hf hc s) h
    | false => exact table ht hc

/-! ### RUN and the orders -/

theorem cornerAtRun (h : P s) : P (CornerRun.cornerAtRun s) := by
  have referenced : P (referenceAtRun s) := by
    unfold referenceAtRun
    extract_lets s1 s2
    have h1 : P s1 := by
      dsimp only [s1]
      split
      · exact k.onMotion (k.onMotion h)
      · exact h
    exact k.onMotion (k.onMotion (k.onMotion h1))
  have derived : P (deriveBolt (referenceAtRun s)) := by
    unfold deriveBolt
    split <;> exact k.onBolt referenced
  exact k.onMotion derived

theorem runRole (h : P s) : P (runRole s) := by
  unfold Machine.runRole
  split
  · exact k.ofRun (CornerRun.runCorner s) (k.enterCorner (k.cornerAtRun h))
  · exact k.approachReact (k.submitIf (k.enterApproach (k.deriveArms h)))
  · exact k.channelReact (k.submitIf (k.enterChannel h))
  · exact k.deskIndicators (k.submitIf (k.enterDesk h))

theorem startRun (h : P s) : P (startRun s) := by
  have started : P s.started := k.untold s _ ⟨rfl, rfl, rfl, id, id, rfl, rfl⟩ h
  have lines : P (atRun s) := k.setNotProved (k.onLine (k.onLine started))
  have blocks : P (startBlocks s) := k.runRole lines
  exact k.linkOnly (f := fillBoth) fillBoth_linkOnly (k.onLine (k.onLine blocks))

theorem setInhibit {on : Bool} (h : P s) : P (setInhibit on s) := by
  unfold Machine.setInhibit
  split
  · exact h
  · exact k.roleReact (k.untold s _ ⟨rfl, rfl, rfl, id, id, rfl, rfl⟩ h)

theorem takeNavAccept (h : P s) : P (takeNavAccept s) := by
  unfold Machine.takeNavAccept
  (repeat' split)
  · exact h
  · exact k.channelReact (k.enterChannel (k.onChannel h))
  · exact k.onChannel h

theorem resetArm {i : Fin 4} (h : P s) : P (resetArm i s) := by
  unfold Machine.resetArm Machine.actOnCommand
  dsimp only
  refine k.approachReact (k.driveArm ?_)
  split
  · exact k.beginRaise (k.enterArm (k.onArm h))
  · exact k.beginLowering (k.enterArm (k.onArm h))

theorem setGoal {height : Nat} (h : P s) : P (setGoal height s) := k.onDesk h

theorem order {c : Instr} {d : State → State × Answer} (hd : orderDecision c = some d) (h : P s) : P (d s).1 := by
  cases c <;> cases hd
  case setItem item value => unfold orderSetItem; (repeat' split); exacts [h, h, k.same h rfl rfl rfl rfl]
  case setRoster codes => unfold orderSetRoster; (repeat' split); exacts [h, k.same h rfl rfl rfl rfl, h]
  case run => unfold orderRun; (repeat' split); exacts [h, h, k.startRun h]
  case enableReset => exact k.untold s _ ⟨rfl, rfl, rfl, id, id, rfl, rfl⟩ h
  case setMask mask => exact k.untold s _ ⟨rfl, rfl, rfl, id, id, rfl, rfl⟩ h
  case setThreshold threshold =>
    refine k.untold s _ ⟨rfl, rfl, rfl, fun hs => ?_, id, rfl, rfl⟩ h
    unfold orderSetThreshold
    dsimp only [State.onPort]
    split
    · assumption
    · exact hs
  case clearInhibit => unfold orderClearInhibit; (repeat' split); exacts [h, h, k.setInhibit h]
  case setInhibit => unfold orderSetInhibit; split; exacts [h, k.setInhibit h]
  case clearTrip => unfold orderClearTrip; (repeat' split); exacts [h, h, h, k.acceptClear h]
  case home =>
    have homed : P (Machine.cornerReact (toCorner .homing .none s)) :=
      k.ofRun (CornerRun.afterEntry (by decide) .none s).cornerReact (k.enterCorner h)
    unfold orderHome
    (repeat' split)
    exacts [h, h, h, h, homed]
  case armAccept arm =>
    unfold orderArmAccept
    dsimp only
    (repeat' split)
    any_goals exact h
    exact k.approachReact (k.driveArm (k.enterArm h))
  case armReset arm =>
    unfold orderArmReset
    dsimp only
    (repeat' split)
    any_goals exact h
    exact k.resetArm h
  case navAccept => unfold orderNavAccept; (repeat' split); exacts [h, h, h, k.takeNavAccept h]
  case demand value =>
    unfold orderDemand
    (repeat' split)
    · exact h
    · exact h
    · exact h
    · exact h
    · exact h
    · dsimp only
      exact k.setDemand h
  case setGoal height => unfold orderSetGoal; (repeat' split); exacts [h, h, k.setGoal h, k.setGoal h]
  case clearRequest => unfold orderClearRequest; (repeat' split); exacts [h, h, k.clearPress h]

theorem controlWork (h : P s) : P (controlWork s) := k.ofRun CornerRun.refl.controlWork h

end KeptByWork

end Sys2Proof.Machine
end

section
/-! PROOFS. Every command keeps the FIFOs, the lost count, the threshold and the trip record in range (O11). -/

namespace Sys2Proof.Machine

/-- The port keeps to its ranges, and the trip record keeps its form. -/
def InForm (s : State) : Prop := PortInRange s ∧ TripRecordLegal s

namespace InForm

variable {s t : State}

theorem congr (h : InForm s) (hport : t.port = s.port) (htrip : t.trip = s.trip) : InForm t := by
  unfold InForm PortInRange TripRecordLegal
  rw [hport, htrip]
  exact h

/-- The queue of reports, the orders, the lost count and the threshold, where the trip unit stays. -/
theorem onPort {f : LocalPort → LocalPort} (h : InForm s) (horders : (f s.port).orders.length ≤ 8)
    (hreports : (f s.port).reports.length ≤ 32) (hlost : (f s.port).lostCount ≤ 65535)
    (hthreshold : (f s.port).threshold = s.port.threshold) : InForm (s.onPort f) := by
  obtain ⟨⟨-, -, -, hlow, hhigh⟩, htrip⟩ := h
  exact ⟨⟨horders, hreports, hlost, by simpa [hthreshold] using hlow, by simpa [hthreshold] using hhigh⟩, htrip⟩

/-- A report joins while fewer than 32 stand, and is counted as lost otherwise (R196, R197). -/
theorem submit (h : InForm s) (r : Report) : InForm (submit r s) := by
  have hs := h
  obtain ⟨⟨horders, hreports, hlost, -⟩, -⟩ := hs
  unfold Machine.submit
  split
  · exact h.onPort horders (by simpa using ‹s.port.reports.length < 32›) hlost rfl
  · have hl : InForm (s.onPort fun p => { p with
        lostCount := min 65535 (p.lostCount + 1)
        lostFirstKind := if p.lostCount = 0 then byteOf (kindCode r.kind) else p.lostFirstKind
        lostFirstTime := if p.lostCount = 0 then r.time else p.lostFirstTime
        lostLastKind := byteOf (kindCode r.kind) }) := h.onPort horders hreports (min_le_left _ _) rfl
    exact hl

theorem report (h : InForm s) (k : ReportKind) (a b c d e : Nat) : InForm (report k a b c d e s) := h.submit _

theorem latch (h : InForm s) (c : Condition) : InForm (latch c s) := h

theorem setProving (h : InForm s) (i : Fin 16) (p : Proving) : InForm (setProving i p s) := by
  have hfed : InForm (feed s (s.onLamp i fun l => { l with proving := p })) := h
  unfold Machine.setProving
  dsimp only
  (repeat' split)
  · exact h
  · exact (hfed.report _ _ _ _ _ _).latch _
  · exact hfed.report _ _ _ _ _ _

theorem enterArm (h : InForm s) (i : Fin 4) (x : ArmState) (event : Nat) : InForm (enterArm i x event s) := by
  unfold Machine.enterArm
  extract_lets a s1 s2
  have h1 : InForm s1 := h.congr rfl rfl
  have h2 : InForm s2 := h1.report _ _ _ _ _ _
  (repeat' split)
  · exact h
  · exact h2.latch _
  · exact h2

theorem keptByWork : KeptByWork InForm where
  untold s t hu h := by
    obtain ⟨⟨horders, hreports, hlost, hlow, hhigh⟩, htrip⟩ := h
    exact ⟨⟨hu.orders ▸ horders, hu.reports ▸ hreports, hu.lost ▸ hlost, hu.threshold ⟨hlow, hhigh⟩⟩, hu.trip htrip⟩
  report k a b c d e s _ h := h.report k a b c d e
  phase a b c d e s t hport htrip _ _ h := (h.congr hport htrip).report _ _ _ _ _ _
  proving i p s h := h.setProving i p
  arm i x event s h := h.enterArm i x event

/-! ### The order handler -/

theorem setFed (h : InForm s) (b : Bool) : InForm (s.setFed b) := h.congr rfl rfl

theorem publish (h : InForm s) (before : State) : InForm (publish before s) :=
  h.congr (publish_port before s) (publish_trip before s)

theorem removeOrder (h : InForm s) (o : Order) : InForm (removeOrder o s) := by
  have hs := h
  obtain ⟨⟨horders, hreports, hlost, -⟩, -⟩ := hs
  exact h.onPort (by simp; omega) hreports hlost rfl

theorem takeOrder {d : State → State × Answer} (h : InForm s) (hd : ∀ t, InForm t → InForm (d t).1) (o : Order) :
    InForm (takeOrder o d s) := by
  unfold Machine.takeOrder
  split
  · have hp : InForm (Machine.publish (Machine.removeOrder o s) (d ((Machine.removeOrder o s).setFed false)).1) :=
      (hd _ ((h.removeOrder o).setFed false)).publish _
    refine report ?_ _ _ _ _ _ _
    split
    · exact hp.latch _
    · exact hp
  · exact h

/-! ### Resets -/

theorem afterReset (straps : Straps) (code subject : Byte) (config : ConfigStore) (roster : Vector (Option Role) 12)
    (encoder : Encoder) (found : Found) : InForm (State.afterReset straps code subject config roster encoder found) :=
  ⟨by simp [PortInRange, State.afterReset, LocalPort.atReset], by simp [TripRecordLegal, State.afterReset]⟩

theorem powerOn (straps : Straps) (s : State) : InForm (powerOnReset straps s) := afterReset _ _ _ _ _ _ _

theorem orderReset (straps : Straps) (s : State) : InForm (orderReset straps s) :=
  keptByWork.onMotion (afterReset straps _ _ s.config s.roster _ _)

/-! ### The edges of a transaction -/

/-- An order joins while fewer than eight wait (R194). -/
theorem receiveOrder (h : InForm s) (bytes : List Byte) (partBits : Nat) : InForm (receiveOrder bytes partBits s) := by
  have hs := h
  obtain ⟨⟨-, hreports, hlost, -⟩, -⟩ := hs
  unfold Machine.receiveOrder
  (repeat' split)
  · exact h.latch _
  · exact h.latch _
  · exact h.latch _
  · rename_i hfull
    exact h.onPort (by simpa [orderDepth] using hfull) hreports hlost rfl

/-- A LOST marker takes the place of the report that has left (R197). -/
theorem removeReport (h : InForm s) : InForm (s.onPort removeReport) := by
  have hs := h
  obtain ⟨⟨horders, hreports, hlost, -⟩, -⟩ := hs
  have fields : (Machine.removeReport s.port).orders = s.port.orders ∧
      (Machine.removeReport s.port).reports.length ≤ 32 ∧ (Machine.removeReport s.port).lostCount ≤ 65535 ∧
      (Machine.removeReport s.port).threshold = s.port.threshold := by
    unfold Machine.removeReport
    split
    · exact ⟨rfl, by simp; omega, hlost, rfl⟩
    · exact ⟨rfl, by simp; omega, by simp, rfl⟩
  obtain ⟨ho, hr, hl, ht⟩ := fields
  exact h.onPort (ho ▸ horders) hr hl ht

/-- What an edge writes of the serial port alone, or of the conditions too. -/
theorem edge (h : InForm s) {f : LocalPort → LocalPort} (hf : ∀ p, ((f p).orders, (f p).reports, (f p).lostCount,
    (f p).threshold) = (p.orders, p.reports, p.lostCount, p.threshold)) : InForm (s.onPort f) := by
  obtain ⟨⟨horders, hreports, hlost, -⟩, -⟩ := id h
  have hp := hf s.port
  simp only [Prod.mk.injEq] at hp
  obtain ⟨ho, hr, hl, ht⟩ := hp
  exact h.onPort (ho ▸ horders) (hr ▸ hreports) (hl ▸ hlost) ht

theorem clockIn (h : InForm s) (mosi : Bool) (u : Transaction) : InForm (clockIn mosi u s) := by
  unfold Machine.clockIn
  extract_lets b s1
  have h1 : InForm s1 := h.edge fun _ => rfl
  split
  · exact h
  · split
    · exact h1.edge fun _ => rfl
    · exact h1

theorem clockOut (h : InForm s) (u : Transaction) : InForm (clockOut u s) := by
  unfold Machine.clockOut
  dsimp only
  (repeat' split)
  · exact edge (edge h fun _ => rfl) fun _ => rfl
  · exact h.edge fun _ => rfl
  · exact h

theorem atRise (h : InForm s) (partBits : Nat) (u : Transaction) : InForm (atRise partBits u s) := by
  unfold Machine.atRise
  split
  case h_1 => split; exacts [h, h.latch _]
  case h_2 => exact h.latch _
  case h_4 => exact h.receiveOrder _ _
  case h_5 => split; exacts [h.removeReport, h]
  all_goals exact h

theorem portEdge (h : InForm s) (code : Nat) (x : PortEdge) (mosi : Bool) : InForm (portEdge code x mosi s) := by
  have inside : ∀ f : Transaction → State → State, (∀ u, InForm (f u s)) → InForm (within code f s) := by
    intro f hf
    unfold within
    (repeat' split)
    · exact h
    · exact hf _
    · exact h
  cases x with
  | csFall =>
    show InForm (openTransaction s)
    unfold openTransaction
    split
    · exact h.edge fun _ => rfl
    · exact h
  | sckRise => exact inside _ fun u => h.clockIn mosi u
  | sckFall => exact inside _ fun u => h.clockOut u
  | csRise => exact inside _ fun u => (h.atRise _ u).edge fun _ => rfl

/-! ### Every step -/

theorem exec {c : Instr} (h : InForm s) (hx : exec c s = .next t) : InForm t := by
  cases executes_of_exec hx with
  | powerOn straps _ => exact powerOn straps s
  | reset straps _ =>
    unfold takeReset
    (repeat' split)
    · exact orderReset straps s
    · exact h.takeOrder (fun _ ht => ht) _
    · exact h
  | port code x mosi => exact h.portEdge code x mosi
  | order o d _ hd => exact h.takeOrder (fun _ ht => keptByWork.order hd ht) o
  | event f hf => exact (keptByWork.event hf (h.setFed false)).publish s
  | period =>
    have worked : InForm (Machine.publish s (controlWork (s.setFed false))) :=
      (keptByWork.controlWork (h.setFed false)).publish s
    unfold controlPeriod
    dsimp only
    (repeat' split)
    · exact keptByWork.linkOnly fillBoth_linkOnly worked
    · exact worked
    · exact h

theorem kept : Kept InForm := by
  intro s t h hst
  unfold step at hst
  split at hst
  · cases hst
    exact h
  · rename_i c rest _
    have taken : InForm { s with pending := rest } := h.congr rfl rfl
    exact taken.exec hst

end InForm

/-- Settles O11: the form of the lines, the ranges of port and trip record, and those of the items are three invariants. -/
theorem linesAndQueuesStayLegal : Obligations.LinesAndQueuesStayLegal := by
  refine ⟨?_, InForm.kept, configInRange_keptByCommands.kept⟩
  intro s t h hst
  have hlines := linesLegal_keptByCommands.kept s t (fun l => by cases l; exacts [h.1, h.2]) hst
  exact ⟨hlines .a, hlines .b⟩

end Sys2Proof.Machine
end

section
/-! PROOFS. The work of a command feeds a change with every report that tells one, and only with such reports (R30, O41). -/

namespace Sys2Proof.Machine

/-! ### Changes of the content -/

/-- A test that an element of a list without repetition meets besides counts one more. -/
theorem filter_length_succ {α : Type} {f g : α → Bool} {x : α} {l : List α} (hl : l.Nodup) (hx : x ∈ l) (hf : f x = false)
    (hg : g x = true) (heq : ∀ y, y ≠ x → f y = g y) : (l.filter g).length = (l.filter f).length + 1 := by
  induction l with
  | nil => cases hx
  | cons a rest ih =>
    obtain ⟨ha, hrest⟩ := List.nodup_cons.mp hl
    by_cases hax : a = x
    · subst hax
      have same : rest.filter f = rest.filter g :=
        List.filter_congr fun y hy => heq y fun hya => ha (hya ▸ hy)
      simp [hf, hg, same]
    · have hin : x ∈ rest := (List.mem_cons.mp hx).resolve_left (Ne.symm hax)
      have hstep := ih hrest hin
      rw [List.filter_cons, List.filter_cons, heq a hax]
      split
      · simpa using hstep
      · exact hstep

theorem lampSummary_lt (s : State) : s.lampSummary < 256 :=
  lt_of_le_of_lt (List.length_filter_le _ _) (by decide)

/-- A further lamp that is FAILED or STUCK_ON counts one more in LAMP_SUMMARY (R100). -/
theorem lampSummary_succ {s t : State} {i : Fin 16} (hs : lampFaulty (s.lamp i).proving = false)
    (ht : lampFaulty (t.lamp i).proving = true) (heq : ∀ j, j ≠ i → (t.lamp j).proving = (s.lamp j).proving) :
    t.lampSummary = s.lampSummary + 1 := by
  have all : ∀ j : Fin 16, j ∈ lampOutputs := by decide
  exact filter_length_succ (x := i) (by decide) (all i) hs ht fun j hj => by rw [heq j hj]

/-- A lamp that becomes faulty, or ceases to be, changes LAMP_SUMMARY (R100). -/
theorem lampSummary_proving {i : Fin 16} {p : Proving} {s : State} (h : lampFaulty (s.lamp i).proving ≠ lampFaulty p) :
    (s.onLamp i fun l => { l with proving := p }).lampSummary ≠ s.lampSummary := by
  have hlamp : ((s.onLamp i fun l => { l with proving := p }).lamp i).proving = p := by rw [State.lamp_onLamp]
  have heq : ∀ j, j ≠ i → ((s.onLamp i fun l => { l with proving := p }).lamp j).proving = (s.lamp j).proving :=
    fun j hj => by rw [State.lamp_onLamp_ne hj]
  cases hs : lampFaulty (s.lamp i).proving with
  | false =>
    have hp : lampFaulty p = true := by simpa [hs] using h
    rw [lampSummary_succ hs (by rw [hlamp, hp]) heq]
    exact Nat.succ_ne_self _
  | true =>
    have hp : lampFaulty p = false := by simpa [hs] using h
    rw [lampSummary_succ (t := s) (by rw [hlamp, hp]) hs fun j hj => (heq j hj).symm]
    exact (Nat.succ_ne_self _).symm

theorem byteOf_inj {m n : Nat} (hm : m < 256) (hn : n < 256) (h : byteOf m = byteOf n) : m = n := by
  have := congrArg BitVec.toNat h
  simp only [byteOf, BitVec.toNat_ofNat] at this
  omega

/-- The record of an approach or a channel shows LAMP_SUMMARY (R100, R167). -/
theorem lampSummary_of_ownContent {s t : State} (hstraps : t.straps = s.straps) (hr : s.role = .approach ∨ s.role = .channel)
    (h : s.ownContent = t.ownContent) : s.lampSummary = t.lampSummary := by
  have hrole : t.role = s.role := by rw [State.role, hstraps]; rfl
  have hp : s.ownPayload = t.ownPayload := congrArg Content.payload h
  refine byteOf_inj (lampSummary_lt s) (lampSummary_lt t) ?_
  unfold State.ownPayload at hp
  rcases hr with hr | hr
  · rw [hrole, hr] at hp
    simp only [Payload.approach.injEq] at hp
    obtain ⟨-, -, -, -, -, -, -, -, -, hsummary, -⟩ := hp
    exact hsummary
  · rw [hrole, hr] at hp
    simp only [Payload.channel.injEq] at hp
    obtain ⟨-, -, -, -, -, hsummary, -⟩ := hp
    exact hsummary

/-- The record of an approach shows the state of each arm (R115). -/
theorem armCode_of_ownContent {s t : State} (hstraps : t.straps = s.straps) (hr : s.role = .approach)
    (h : s.ownContent = t.ownContent) (i : Fin 4) : BitVec.ofNat 4 (s.armCodeOf i) = BitVec.ofNat 4 (t.armCodeOf i) := by
  have hrole : t.role = s.role := by rw [State.role, hstraps]; rfl
  have hp : s.ownPayload = t.ownPayload := congrArg Content.payload h
  unfold State.ownPayload at hp
  rw [hrole, hr] at hp
  simp only [Payload.approach.injEq] at hp
  obtain ⟨h0, h1, h2, h3, -⟩ := hp
  match i with
  | 0 => exact h0
  | 1 => exact h1
  | 2 => exact h2
  | 3 => exact h3

theorem armCode_lt (x : ArmState) : armCode x < 16 := by
  unfold armCode
  split <;> decide

/-! ### Reports that tell a change -/

/-- A code of FAILED or STUCK_ON (R147). -/
def faultyCode (code : Byte) : Bool := decide (code = 2 ∨ code = 3)

theorem faultyCode_provingCode (p : Proving) : faultyCode (byteOf (provingCode p)) = lampFaulty p := by
  cases p <;> decide

/-- A report of a change that a field of the record follows: PHASE, an arm's state at an approach, or whether a lamp of an
approach or a channel is FAILED or STUCK_ON (R30, R100, R115). -/
def TellsChange (s : State) (r : Report) : Prop :=
  r.kind = .phase ∨ (s.straps.role = .approach ∧ r.kind = .arm ∧ r.old ≠ r.new) ∨
    ((s.straps.role = .approach ∨ s.straps.role = .channel) ∧ r.kind = .lamp ∧ r.subject.toNat < 16 ∧
      faultyCode r.old ≠ faultyCode r.new)

/-- From `s` to `t` reports are only submitted; a change is fed with each that tells one, and with no other kind. -/
structure Feeds (s t : State) : Prop where
  straps : t.straps = s.straps
  told : ∃ new, t.port.reports = s.port.reports ++ new ∧ (s.fed = true → t.fed = true) ∧
    ((∃ r ∈ new, TellsChange s r) → t.fed = true) ∧
    (t.fed = true → s.fed = true ∨ 32 ≤ t.port.reports.length ∨ ∃ r ∈ new, r.kind ∈ fedKinds)

namespace Feeds

variable {s t u : State}

theorem refl (s : State) : Feeds s s := ⟨rfl, [], by simp, id, by simp, .inl⟩

/-- A report is submitted behind what `u` writes, which is fed where the report tells it. -/
theorem submit (h : Feeds s t) {r : Report} (hport : u.port = t.port) (hstraps : u.straps = t.straps)
    (hkeep : t.fed = true → u.fed = true) (htell : TellsChange t r → u.fed = true)
    (hfed : u.fed = true → t.fed = true ∨ r.kind ∈ fedKinds) : Feeds s (submit r u) := by
  obtain ⟨hs, new, hnew, hold, hchange, hkind⟩ := h
  obtain ⟨more, hmore, honly, hjoin⟩ := submit_reports r u
  have hfeds : (Machine.submit r u).fed = u.fed := submit_fed r u
  have htelleq : ∀ x, TellsChange s x → TellsChange t x := fun x hx => by
    unfold TellsChange
    rw [hs]
    exact hx
  have hstrapsu : (Machine.submit r u).straps = u.straps := congrArg Fixed.straps (submit_fixed r u)
  refine ⟨hstrapsu.trans (hstraps.trans hs), new ++ more, by rw [hmore, hport, hnew, List.append_assoc], fun h => ?_, ?_, ?_⟩
  · rw [hfeds]
    exact hkeep (hold h)
  · rintro ⟨x, hx, htx⟩
    rw [hfeds]
    rcases List.mem_append.mp hx with hx | hx
    · exact hkeep (hchange ⟨x, hx, htx⟩)
    · exact htell (htelleq r (honly x hx ▸ htx))
  · intro hu
    rcases hjoin with hin | hfull
    · rcases hfed (hfeds ▸ hu) with ht | hk
      · rcases hkind ht with h0 | hlen | ⟨x, hx, hk⟩
        · exact .inl h0
        · exact .inr (.inl (by rw [hmore, hport, List.length_append]; omega))
        · exact .inr (.inr ⟨x, List.mem_append_left _ hx, hk⟩)
      · exact .inr (.inr ⟨r, List.mem_append_right _ hin, hk⟩)
    · exact .inr (.inl hfull)

theorem report (h : Feeds s t) {k : ReportKind} {a b c d e : Nat} (hk : TellsNoChange k a b c) :
    Feeds s (report k a b c d e t) := by
  obtain ⟨hphase, harm, hlamp⟩ := hk
  refine h.submit rfl rfl id ?_ .inl
  rintro (hp | ⟨-, ha, hne⟩ | ⟨-, hl, hsubject, -⟩)
  · exact absurd hp hphase
  · exact absurd (congrArg byteOf (harm ha)) hne
  · exact absurd hsubject (not_lt.mpr (hlamp hl))

theorem phase (h : Feeds s t) {a b c d e : Nat} (hport : u.port = t.port) (hstraps : u.straps = t.straps)
    (hfed : u.fed = true) : Feeds s (Machine.report .phase a b c d e u) :=
  h.submit hport hstraps (fun _ => hfed) (fun _ => hfed) fun _ => .inr (by decide : ReportKind.phase ∈ fedKinds)

/-- What `u` writes of the content is fed. -/
theorem feed_fed_of_ne (ht : t.ownContent ≠ u.ownContent) : (feed t u).fed = true := by
  rw [Machine.feed_fed, decide_eq_true ht, Bool.or_true]

theorem feed_fed_of_fed (hu : u.fed = t.fed) (h : t.fed = true) : (feed t u).fed = true := by
  rw [Machine.feed_fed, hu, h, Bool.true_or]

/-- A LAMP report of a lamp that becomes faulty, or ceases to be, comes with a change of LAMP_SUMMARY (R100, R147). -/
theorem lampReport (h : Feeds s t) {i : Fin 16} {p : Proving} {d e : Nat} :
    Feeds s (Machine.report .lamp i.val (provingCode (t.lamp i).proving) (provingCode p) d e
      (feed t (t.onLamp i fun l => { l with proving := p }))) := by
  refine h.submit rfl rfl (feed_fed_of_fed rfl) ?_ fun _ => .inr (by decide : ReportKind.lamp ∈ fedKinds)
  rintro (hp | ⟨-, ha, -⟩ | ⟨hrole, -, -, hne⟩)
  · cases hp
  · cases ha
  · refine feed_fed_of_ne fun hc => ?_
    have hfaulty : lampFaulty (t.lamp i).proving ≠ lampFaulty p := by
      rw [← faultyCode_provingCode, ← faultyCode_provingCode]
      exact hne
    have hsummary :=
      lampSummary_of_ownContent (s := t) (t := t.onLamp i fun l => { l with proving := p }) rfl hrole hc
    exact lampSummary_proving hfaulty hsummary.symm

theorem setProving (h : Feeds s t) {i : Fin 16} {p : Proving} : Feeds s (setProving i p t) := by
  have latched : ∀ {v : State} (c : Condition), Feeds s v → Feeds s (latch c v) := fun _ hv => ⟨hv.straps, hv.told⟩
  unfold Machine.setProving
  dsimp only
  (repeat' split)
  · exact h
  · exact latched _ h.lampReport
  · exact h.lampReport

/-- An ARM report of another state comes with a change of the arm's code (R115, R133). -/
theorem armReport (h : Feeds s t) {i : Fin 4} {x : ArmState} {f : Arm → Arm} {d e : Nat}
    (hf : (f (t.arm i)).state = some x) :
    Feeds s (Machine.report .arm i.val (t.armCodeOf i) (armCode x) d e (feed t (t.onArm i f))) := by
  refine h.submit rfl rfl (feed_fed_of_fed rfl) ?_ fun _ => .inr (by decide : ReportKind.arm ∈ fedKinds)
  rintro (hp | ⟨hrole, -, hne⟩ | ⟨-, hl, -⟩)
  · cases hp
  · refine feed_fed_of_ne fun hc => ?_
    have hcode := armCode_of_ownContent (s := t) (t := t.onArm i f) rfl hrole hc i
    have hnew : (t.onArm i f).armCodeOf i = armCode x := by
      rw [State.armCodeOf, State.arm_onArm, hf]
      rfl
    have hlt : t.armCodeOf i < 16 := by
      unfold State.armCodeOf
      cases (t.arm i).state with
      | none => decide
      | some y => exact armCode_lt y
    have hnat := congrArg BitVec.toNat hcode
    simp only [hnew, BitVec.toNat_ofNat, Nat.mod_eq_of_lt hlt, Nat.mod_eq_of_lt (armCode_lt x)] at hnat
    exact hne (congrArg byteOf hnat)
  · cases hl

theorem enterArm (h : Feeds s t) {i : Fin 4} {x : ArmState} {event : Nat} : Feeds s (enterArm i x event t) := by
  have latched : ∀ {v : State} (c : Condition), Feeds s v → Feeds s (latch c v) := fun _ hv => ⟨hv.straps, hv.told⟩
  unfold Machine.enterArm
  dsimp only
  (repeat' split)
  · exact h
  · exact latched _ (h.armReport rfl)
  · exact h.armReport rfl

theorem untold (h : Feeds s t) (hu : Untold t u) : Feeds s u := by
  obtain ⟨hs, new, hnew, hold, hchange, hkind⟩ := h
  refine ⟨hu.straps.trans hs, new, hu.reports.trans hnew, ?_, ?_, ?_⟩
  · rwa [hu.fed]
  · rwa [hu.fed]
  · rwa [hu.fed, hu.reports]

theorem keptByWork (s : State) : KeptByWork (Feeds s) where
  untold _ _ hu h := h.untold hu
  report _ _ _ _ _ _ _ hk h := h.report hk
  phase _ _ _ _ _ _ _ hport _ hstraps hfed h := h.phase hport hstraps hfed
  proving _ _ _ h := h.setProving
  arm _ _ _ _ h := h.enterArm

end Feeds

end Sys2Proof.Machine
end

section
/-! PROOFS. A change of content in RUN is sent, and CHANGED is set for nothing else (O41, first clause). -/

namespace Sys2Proof.Machine

/-! ### A line that has the change in hand -/

/-- The line stands with CHANGED set and its slot full or its spacing timer running, or already sends the content (R30, R32). -/
def Sent (t : State) (l : LinkLine) : Prop :=
  ((t.line l).changed = true ∧ ((t.line l).slot ≠ .empty ∨ (t.line l).spacingTimer.isSome = true)) ∨
    ((t.line l).tx = .sending ∧ (t.line l).changed = false ∧ t.link.reference = some t.ownContent)

/-- An operation of a line leaves the content, and the reference but for the content as it stands. -/
def Refers (s t : State) : Prop :=
  t.ownContent = s.ownContent ∧ (t.link.reference = s.link.reference ∨ t.link.reference = some s.ownContent)

theorem Refers.trans {s t u : State} (h : Refers s t) (k : Refers t u) : Refers s u := by
  obtain ⟨hc, hr⟩ := h
  obtain ⟨kc, kr⟩ := k
  refine ⟨kc.trans hc, ?_⟩
  rcases kr with e | e
  · rw [e]
    exact hr
  · exact .inr (e.trans (congrArg some hc))

theorem refers_onLine {l : LinkLine} {f : LineUnit → LineUnit} {s : State}
    (hf : ((f (s.line l)).health, (f (s.line l)).healthTimer) = ((s.line l).health, (s.line l).healthTimer)) :
    Refers s (s.onLine l f) := ⟨onLine_ownContent hf, .inl (by cases l <;> rfl)⟩

theorem refers_startAttempt (l : LinkLine) (s : State) : Refers s (startAttempt l s) :=
  ⟨(LineStep.refl (l := l) (s := s)).startAttempt.ownContent, .inr (startAttempt_number l s).2⟩

theorem refers_enterDelay (l : LinkLine) (s : State) : Refers s (enterDelay l s) := by
  unfold enterDelay
  split
  · exact refers_startAttempt l s
  · exact refers_onLine rfl

theorem refers_enterGap (l : LinkLine) (s : State) : Refers s (enterGap l s) := by
  unfold enterGap
  split
  · exact refers_enterDelay l s
  · exact refers_onLine rfl

theorem refers_fillSlot (l : LinkLine) (s : State) : Refers s (fillSlot l s) := by
  have filled : Refers s (s.onLine l LineUnit.filled) := refers_onLine rfl
  unfold fillSlot
  dsimp only
  (repeat' split)
  · exact filled.trans (refers_onLine rfl)
  · exact filled.trans (refers_enterGap l _)
  · exact filled
  · exact ⟨rfl, .inl rfl⟩

namespace Sent

variable {s t : State} {l m : LinkLine}

/-- An operation of the other line, or of this one where it leaves what stands here. -/
theorem congr (h : Sent s m) (hline : t.line m = s.line m) (hr : Refers s t) : Sent t m := by
  obtain ⟨hc, href⟩ := hr
  unfold Sent
  rw [hline]
  rcases h with h | ⟨ht, hn, h⟩
  · exact .inl h
  · refine .inr ⟨ht, hn, ?_⟩
    rw [hc]
    exact href.elim (fun e => e.trans h) id

theorem startAttempt : Sent (startAttempt l s) l := by
  obtain ⟨hcontent, -⟩ := refers_startAttempt l s
  refine .inr ⟨?_, ?_, ?_⟩
  · rw [startAttempt_line]
    rfl
  · rw [startAttempt_line]
    rfl
  · rw [hcontent]
    exact (startAttempt_number l s).2

theorem enterDelay (hc : (s.line l).changed = true) (hs : (s.line l).slot ≠ .empty) : Sent (enterDelay l s) l := by
  by_cases hd : delayBits s l = 0
  · have h : accessDelay s l = 0 := hd
    rw [Machine.enterDelay, if_pos h]
    exact startAttempt
  · refine .inl ?_
    rw [enterDelay_pos hd]
    exact ⟨hc, .inl hs⟩

theorem enterGap (hc : (s.line l).changed = true) (hs : (s.line l).slot ≠ .empty) : Sent (enterGap l s) l := by
  cases hi : (s.line l).idle with
  | true =>
    rw [enterGap_idle hi]
    exact enterDelay hc hs
  | false =>
    refine .inl ?_
    rw [enterGap_active hi]
    exact ⟨hc, .inl hs⟩

/-- Filling the slot of a line with CHANGED set has the change in hand. -/
theorem fillSlot_changed (hc : (s.line l).changed = true) : Sent (fillSlot l s) l := by
  rcases fillSlot_cases l s with ⟨hs, e⟩ | ⟨-, -, -, e⟩ | ⟨-, -, -, e⟩ | ⟨-, -, e⟩
  · rw [e]
    exact .inl ⟨hc, .inl hs⟩
  · rw [e]
    exact enterGap (by rwa [State.line_onLine]) (by rw [State.line_onLine]; nofun)
  · refine .inl ?_
    rw [e]
    exact ⟨hc, .inl nofun⟩
  · refine .inl ?_
    rw [e]
    exact ⟨hc, .inl nofun⟩

theorem fillSlot (h : Sent s m) (l : LinkLine) : Sent (fillSlot l s) m := by
  by_cases hm : m = l
  · subst hm
    rcases h with ⟨hc, -⟩ | ⟨ht, hn, hr⟩
    · exact fillSlot_changed hc
    · obtain ⟨hcontent, href⟩ := refers_fillSlot m s
      have hline : ((Machine.fillSlot m s).line m).tx = .sending ∧ ((Machine.fillSlot m s).line m).changed = false := by
        by_cases hs : (s.line m).slot = .empty
        · rw [fillSlot_busy hs (by rw [ht]; decide)]
          exact ⟨ht, hn⟩
        · rw [fillSlot_full hs]
          exact ⟨ht, hn⟩
      refine .inr ⟨hline.1, hline.2, ?_⟩
      rw [hcontent]
      exact href.elim (fun e => e.trans hr) id
  · exact h.congr (fillSlot_writes l s m hm) (refers_fillSlot l s)

theorem fillIfChanged (h : Sent s m) (l : LinkLine) : Sent (fillIfChanged l s) m := by
  unfold Machine.fillIfChanged
  split
  · exact h.fillSlot l
  · exact h

theorem fillIfChanged_changed (hc : (s.line l).changed = true) : Sent (Machine.fillIfChanged l s) l := by
  cases hs : (s.line l).spacingTimer with
  | none =>
    rw [fillIfChanged_fills hc hs]
    exact fillSlot_changed hc
  | some n =>
    rw [fillIfChanged_waits (.inr (by rw [hs]; rfl))]
    exact .inl ⟨hc, .inr (by rw [hs]; rfl)⟩

theorem fillBoth (h : Sent s m) : Sent (fillBoth s) m := (h.fillSlot .a).fillSlot .b

/-- A change of content puts it in hand on both lines (R30, R32). -/
theorem contentChanged (s : State) (l : LinkLine) : Sent (contentChanged s) l := by
  cases l with
  | a => exact fillIfChanged (fillIfChanged_changed rfl) .b
  | b =>
    refine fillIfChanged_changed ?_
    rw [fillIfChanged_writes .a _ .b (by decide)]
    rfl

end Sent

/-! ### CHANGED is set by a change of content alone -/

/-- No line has CHANGED set that had it clear. -/
def SetsNoChanged (s t : State) : Prop := ∀ l, (t.line l).changed = true → (s.line l).changed = true

namespace SetsNoChanged

variable {s t u : State} {l : LinkLine}

theorem refl (s : State) : SetsNoChanged s s := fun _ h => h

theorem trans (h : SetsNoChanged s t) (k : SetsNoChanged t u) : SetsNoChanged s u := fun l hl => h l (k l hl)

theorem of_link (h : t.link = s.link) : SetsNoChanged s t := fun l hl => by
  have e : t.line l = s.line l := by simp only [State.line, h]
  rwa [e] at hl

theorem of_fixed (h : t.fixed = s.fixed) : SetsNoChanged s t := by
  have hl : t.fixed.link = s.fixed.link := congrArg Fixed.link h
  exact of_link hl

/-- An operation that writes one line, where it leaves or clears its flag. -/
theorem write {f : State → State} (h : SetsNoChanged s t) (hf : WritesLine l f)
    (hc : ((f t).line l).changed = true → (t.line l).changed = true) : SetsNoChanged s (f t) := by
  refine h.trans fun m hm => ?_
  by_cases hml : m = l
  · subst hml
    exact hc hm
  · rwa [hf t m hml] at hm

theorem onLine {f : LineUnit → LineUnit} (h : SetsNoChanged s t) (hf : (f (t.line l)).changed = (t.line l).changed) :
    SetsNoChanged s (t.onLine l f) := h.write (onLine_writes l f) fun hc => by
  rwa [State.line_onLine, hf] at hc

theorem startAttempt (h : SetsNoChanged s t) : SetsNoChanged s (startAttempt l t) :=
  h.write (startAttempt_writes l) fun hc => by
    rw [startAttempt_line] at hc
    cases hc

theorem enterDelay (h : SetsNoChanged s t) : SetsNoChanged s (enterDelay l t) := by
  unfold Machine.enterDelay
  split
  · exact h.startAttempt
  · exact h.onLine rfl

theorem enterGap (h : SetsNoChanged s t) : SetsNoChanged s (enterGap l t) := by
  unfold Machine.enterGap
  split
  · exact h.enterDelay
  · exact h.onLine rfl

theorem fillSlot (h : SetsNoChanged s t) : SetsNoChanged s (fillSlot l t) := by
  have filled : SetsNoChanged s (t.onLine l LineUnit.filled) := h.onLine rfl
  unfold Machine.fillSlot
  dsimp only
  (repeat' split)
  · exact filled.onLine rfl
  · exact filled.enterGap
  · exact filled
  · exact h

theorem fillIfChanged (h : SetsNoChanged s t) : SetsNoChanged s (fillIfChanged l t) := by
  unfold Machine.fillIfChanged
  split
  · exact h.fillSlot
  · exact h

theorem fillBoth (h : SetsNoChanged s t) : SetsNoChanged s (fillBoth t) := h.fillSlot.fillSlot

theorem setHealth (h : SetsNoChanged s t) {x : Health} {n : Nat} : SetsNoChanged s (setHealth l x n t) :=
  h.trans fun m hm => by
    rw [setHealth_line] at hm
    split at hm
    · subst m
      exact hm
    · exact hm

/-! ### The events that write the link -/

theorem spacingExpiry (l : LinkLine) (s : State) : SetsNoChanged s (spacingExpiry l s) := by
  have stopped : SetsNoChanged s (s.onLine l LineUnit.spaced) := (refl s).onLine rfl
  unfold Machine.spacingExpiry
  dsimp only
  (repeat' split)
  · exact stopped.enterGap
  · exact stopped.fillIfChanged
  · exact refl s

theorem refreshExpiry (l : LinkLine) (s : State) : SetsNoChanged s (refreshExpiry l s) := by
  have stopped : SetsNoChanged s (s.onLine l LineUnit.refreshed) := (refl s).onLine rfl
  unfold Machine.refreshExpiry
  split
  · exact stopped.fillSlot
  · exact refl s

theorem idleGap (l : LinkLine) (s : State) : SetsNoChanged s (idleGap l s) := by
  have idled : SetsNoChanged s (s.onLine l LineUnit.idled) := (refl s).onLine rfl
  unfold Machine.idleGap
  dsimp only
  (repeat' split)
  · exact refl s
  · exact idled.enterDelay
  · exact idled

theorem delayExpiry (l : LinkLine) (s : State) : SetsNoChanged s (delayExpiry l s) := by
  unfold Machine.delayExpiry
  split
  · exact (refl s).startAttempt
  · exact refl s

theorem collide (l : LinkLine) (atFirst : Bool) (s : State) : SetsNoChanged s (collide l atFirst s) := by
  have released : SetsNoChanged s (releaseLine l atFirst s) := (refl s).onLine rfl
  unfold Machine.collide
  extract_lets s1 s2 code
  have emptied : SetsNoChanged s s2 := released.onLine rfl
  have told : SetsNoChanged s (report .link (lineNumber l) code code 2 jamLimit (latch (jamCondition l) s2)) :=
    emptied.trans (of_link (congrArg Fixed.link (report_fixed _ _ _ _ _ _ _)))
  (repeat' split)
  · exact (released.onLine rfl).enterGap
  · exact told.fillIfChanged
  · exact refl s

theorem completeTransmission (l : LinkLine) (s : State) : SetsNoChanged s (completeTransmission l s) := by
  have emptied : SetsNoChanged s (s.onLine l LineUnit.sent) := (refl s).onLine rfl
  unfold Machine.completeTransmission
  split
  · exact emptied.fillIfChanged
  · exact refl s

theorem lineSilent (l : LinkLine) (s : State) : SetsNoChanged s (lineSilent l s) := by
  have stopped : SetsNoChanged s (s.onLine l fun u => { u with healthTimer := none }) := (refl s).onLine rfl
  have latched : SetsNoChanged s (latch (silentCondition l) (s.onLine l fun u => { u with healthTimer := none })) := stopped
  have expired : SetsNoChanged s (healthExpiry l s) := by
    unfold healthExpiry
    split
    · exact latched.setHealth
    · exact refl s
  exact expired.trans (of_link (congrArg Fixed.link (healthReact_fixed _)))

theorem receiveFrame (line : LinkLine) (levels : List Bool) (s : State) : SetsNoChanged s (receiveFrame line levels s) := by
  have heard : SetsNoChanged s (s.onLine line LineUnit.heard) := (refl s).onLine rfl
  have hears : ∀ source, SetsNoChanged s (hears line source s) := fun source m hm => by
    rw [hears_line] at hm
    split at hm
    · subst m
      exact hm
    · exact hm
  unfold Machine.receiveFrame
  split
  · exact refl s
  · dsimp only
    split
    · exact heard
    · unfold takeFrame
      split
      · exact heard
      · exact (hears _).trans (of_link (checkFrame_link line _ _))

theorem event {c : Instr} {f : State → State} (hf : eventWork c = some f) (s : State) : SetsNoChanged s (f s) := by
  have table (hc : linkEvent c = true) : SetsNoChanged s (f s) := by
    cases c <;> cases hc <;> cases hf
    case frameReceived line levels => exact receiveFrame line levels s
    case spacingTimerExpiry l => exact spacingExpiry l s
    case refreshTimerExpiry l => exact refreshExpiry l s
    case idleGapMet l => exact idleGap l s
    case deferral l => exact (refl s).onLine (f := LineUnit.deferred) rfl
    case attemptStart l => exact delayExpiry l s
    case collision p => exact collide p.line _ s
    case transmissionComplete l => exact completeTransmission l s
    case healthTimerExpiry l => exact lineSilent l s
  cases hc : linkEvent c with
  | false => exact of_link (eventWork_link hf hc s)
  | true => exact table hc

/-- In RUN the order handler leaves the link until its decision ends. -/
theorem order {c : Instr} {d : State → State × Answer} (hd : orderDecision c = some d) {s : State} (hrun : s.running = true) :
    SetsNoChanged s (d s).1 := by
  have inhibit : ∀ on, SetsNoChanged s (setInhibit on s) := fun on =>
    of_link ((congrArg Fixed.link (setInhibit_fixed on s)).trans rfl)
  cases c <;> cases hd
  case setItem item value => rw [orderSetItem_running item value s hrun]; exact refl s
  case setRoster codes => rw [orderSetRoster, if_pos hrun]; exact refl s
  case run => rw [orderRun, if_pos hrun]; exact refl s
  case enableReset => exact refl s
  case setMask => exact refl s
  case setThreshold => exact refl s
  case clearInhibit => unfold orderClearInhibit; (repeat' split); exacts [refl s, refl s, inhibit _]
  case setInhibit => unfold orderSetInhibit; split; exacts [refl s, inhibit _]
  all_goals exact of_fixed (by simp)

end SetsNoChanged

end Sys2Proof.Machine
end

section
/-! PROOFS. Every command in RUN sends the change of content it makes, and sets CHANGED for no other (O41, first clause). -/

namespace Sys2Proof.Machine

/-- What a command from `s` to `t` in RUN makes of changes of content: it sends each, also one that a report tells and that has
returned, and sets CHANGED with no other. -/
structure Sends (s t : State) : Prop where
  content : s.ownContent ≠ t.ownContent → ∀ l, Sent t l
  told : ∀ new, t.port.reports = s.port.reports ++ new → (∃ r ∈ new, TellsChange s r) → ∀ l, Sent t l
  only : ∀ l, s.ownContent = t.ownContent → (s.line l).changed = false → (t.line l).changed = true →
    ∃ new, t.port.reports = s.port.reports ++ new ∧
      ((∃ r ∈ new, r.kind ∈ fedKinds) ∨ 32 ≤ t.port.reports.length)

theorem fillBoth_ownContent (s : State) : (fillBoth s).ownContent = s.ownContent :=
  (refers_fillSlot .b _).1.trans (refers_fillSlot .a s).1

namespace Sends

variable {s t : State}

/-- What writes neither content, line nor report sends nothing. -/
theorem of_untold (hcontent : t.ownContent = s.ownContent) (hlink : t.link = s.link)
    (hreports : ∀ new, t.port.reports = s.port.reports ++ new → ∀ r ∈ new, r.kind = .lost) : Sends s t where
  content h := absurd hcontent.symm h
  told new hnew h := by
    obtain ⟨r, hr, htell⟩ := h
    have hk : r.kind = .lost := hreports new hnew r hr
    rw [TellsChange, hk] at htell
    rcases htell with h | ⟨-, h, -⟩ | ⟨-, h, -⟩ <;> cases h
  only l _ hs ht := by
    have hl : t.line l = s.line l := by simp only [State.line, hlink]
    rw [hl, hs] at ht
    cases ht

theorem refl (s : State) : Sends s s := of_untold rfl rfl fun new hnew r hr => by
  rw [List.self_eq_append_right.mp hnew] at hr
  cases hr

/-- The end of an event, in RUN: the work is sent where it changed the content or fed a change, and nothing else sets CHANGED. -/
theorem publish {u : State} (hrun : s.running = true) (hu : u.running = true) (hfeeds : Feeds (s.setFed false) u)
    (hclear : SetsNoChanged s u) : Sends s (publish s u) := by
  obtain ⟨-, new, hnew, -, hchange, hkind⟩ := hfeeds
  have hport := publish_port s u
  have hcontent := publish_ownContent s u
  have hsent : u.fed = true ∨ s.ownContent ≠ u.ownContent → ∀ l, Sent (Machine.publish s u) l := fun h l => by
    have e : Machine.publish s u = (contentChanged u).setFed s.fed := by
      unfold Machine.publish
      rw [if_pos ⟨hrun, hu, h⟩]
    rw [e]
    exact Sent.contentChanged u l
  refine ⟨fun h => hsent (.inr (hcontent ▸ h)), fun more hmore h => hsent (.inl ?_), fun l hsame hs ht => ?_⟩
  · have hnewmore : new = more := by
      rw [hport, hnew] at hmore
      exact List.append_cancel_left hmore
    subst hnewmore
    exact hchange h
  · refine ⟨new, by rw [hport]; exact hnew, ?_⟩
    cases hfed : u.fed with
    | true =>
      rcases hkind hfed with h | h | h
      · cases h
      · exact .inr (by rw [hport]; exact h)
      · exact .inl h
    | false =>
      have e : Machine.publish s u = u.setFed s.fed := event_same hfed (hcontent ▸ hsame)
      rw [e] at ht
      exact absurd (hclear l ht) (by rw [hs]; decide)

/-- The slots filled on top, for the periodic sending of a corner (R32). -/
theorem fillBoth (h : Sends s t) : Sends s (fillBoth t) := by
  have hcontent := fillBoth_ownContent t
  have hport : (Machine.fillBoth t).port = t.port := by
    rw [fillBoth_linkOnly t]
    rfl
  refine ⟨fun hne l => (h.content (hcontent ▸ hne) l).fillBoth, fun new hnew hr l => ?_, fun l hsame hs ht => ?_⟩
  · rw [hport] at hnew
    exact (h.told new hnew hr l).fillBoth
  · rw [hport]
    exact h.only l (hcontent ▸ hsame) hs ((SetsNoChanged.refl t).fillBoth l ht)

/-- An ORDER_RESULT on top (R195). -/
theorem submit (h : Sends s t) {r : Report} (hr : r.kind = .orderResult)
    (hgrown : ∃ new, t.port.reports = s.port.reports ++ new) : Sends s (submit r t) := by
  obtain ⟨first, hfirst⟩ := hgrown
  obtain ⟨more, hmore, honly, -⟩ := submit_reports r t
  have hcontent := submit_ownContent r t
  have hlink : (Machine.submit r t).link = t.link := congrArg Fixed.link (submit_fixed r t)
  have hline : ∀ l, (Machine.submit r t).line l = t.line l := fun l => by simp only [State.line, hlink]
  have hsent : ∀ l, Sent t l → Sent (Machine.submit r t) l := fun l hl =>
    hl.congr (hline l) ⟨hcontent, .inl (congrArg Link.reference hlink)⟩
  refine ⟨fun hne l => hsent l (h.content (hcontent ▸ hne) l), fun new hnew hx l => hsent l ?_, fun l hsame hs ht => ?_⟩
  · have hall : new = first ++ more := by
      rw [hmore, hfirst, List.append_assoc] at hnew
      exact (List.append_cancel_left hnew).symm
    obtain ⟨x, hx, htell⟩ := hx
    rw [hall] at hx
    rcases List.mem_append.mp hx with hx | hx
    · exact h.told first hfirst ⟨x, hx, htell⟩ l
    · rw [honly x hx, TellsChange, hr] at htell
      rcases htell with h | ⟨-, h, -⟩ | ⟨-, h, -⟩ <;> cases h
  · rw [hline] at ht
    obtain ⟨new, hnew, hin⟩ := h.only l (hcontent ▸ hsame) hs ht
    refine ⟨new ++ more, by rw [hmore, hnew, List.append_assoc], ?_⟩
    rcases hin with ⟨x, hx, hk⟩ | hfull
    · exact .inl ⟨x, List.mem_append_left _ hx, hk⟩
    · exact .inr (by rw [hmore, List.length_append]; omega)

theorem latch (h : Sends s t) (c : Condition) : Sends s (latch c t) := ⟨h.content, h.told, h.only⟩

/-! ### The order handler -/

theorem takeOrder {d : State → State × Answer} {o : Order}
    (hwork : ∀ u : State, u.running = true → (d u).1.running = true ∧ Feeds u (d u).1 ∧ SetsNoChanged u (d u).1)
    (hrun : s.running = true) : Sends s (takeOrder o d s) := by
  by_cases ho : s.port.orders.head? = some o
  · let v := removeOrder o s
    obtain ⟨hrunu, hfeeds, hclear⟩ := hwork (v.setFed false) hrun
    have hp : Sends v (Machine.publish v (d (v.setFed false)).1) := publish hrun hrunu hfeeds hclear
    have hps : Sends s (Machine.publish v (d (v.setFed false)).1) := ⟨hp.content, hp.told, hp.only⟩
    have hgrown : ∃ new, (Machine.publish v (d (v.setFed false)).1).port.reports = s.port.reports ++ new := by
      obtain ⟨-, new, hnew, -⟩ := hfeeds
      exact ⟨new, by rw [publish_port]; exact hnew⟩
    rw [takeOrder_head o d s ho]
    unfold answerOrder
    split
    · exact submit (hps.latch _) rfl hgrown
    · exact submit hps rfl hgrown
  · rw [takeOrder_other o d s ho]
    exact refl s

end Sends

/-! ### The edges of a transaction -/

/-- From `s` to `t` the port alone is written, the start inhibit stays, and the reports stay or the head of them is removed. -/
structure PortWrite (s t : State) : Prop where
  only : t = s.onPort fun _ => t.port
  inhibit : t.port.startInhibit = s.port.startInhibit
  reports : t.port.reports = s.port.reports ∨ t.port.reports = (removeReport s.port).reports

namespace PortWrite

variable {s t : State}

theorem refl (s : State) : PortWrite s s := ⟨rfl, rfl, .inl rfl⟩

theorem onPort (h : PortWrite s t) {f : LocalPort → LocalPort}
    (hf : ∀ p, ((f p).startInhibit, (f p).reports) = (p.startInhibit, p.reports)) : PortWrite s (t.onPort f) := by
  obtain ⟨honly, hinhibit, hreports⟩ := h
  have hp := hf t.port
  simp only [Prod.mk.injEq] at hp
  obtain ⟨hi, hr⟩ := hp
  refine ⟨?_, hi.trans hinhibit, ?_⟩
  · rw [honly]
    rfl
  · exact hreports.imp hr.trans hr.trans

theorem onSerial (h : PortWrite s t) {f : SerialPort → SerialPort} : PortWrite s (t.onSerial f) :=
  h.onPort fun _ => rfl

theorem receiveOrder (h : PortWrite s t) (bytes : List Byte) (partBits : Nat) : PortWrite s (receiveOrder bytes partBits t) := by
  unfold Machine.receiveOrder
  (repeat' split) <;> exact h.onPort fun _ => rfl

theorem removeReport (s : State) : PortWrite s (s.onPort removeReport) := by
  refine ⟨rfl, ?_, .inr rfl⟩
  show (Machine.removeReport s.port).startInhibit = _
  unfold Machine.removeReport
  split <;> rfl

theorem atRise (partBits : Nat) (u : Transaction) (s : State) : PortWrite s (atRise partBits u s) := by
  have framing : PortWrite s (latch .portFraming s) := (refl s).onPort fun _ => rfl
  unfold Machine.atRise
  split
  case h_1 => split; exacts [refl s, framing]
  case h_2 => exact framing
  case h_4 => exact (refl s).receiveOrder _ _
  case h_5 => split; exacts [removeReport s, refl s]
  all_goals exact refl s

theorem clockIn (mosi : Bool) (u : Transaction) (s : State) : PortWrite s (clockIn mosi u s) := by
  unfold Machine.clockIn
  extract_lets b s1
  have h1 : PortWrite s s1 := (refl s).onPort fun _ => rfl
  split
  · exact refl s
  · split
    · exact h1.onPort fun _ => rfl
    · exact h1

theorem clockOut (u : Transaction) (s : State) : PortWrite s (clockOut u s) := by
  unfold Machine.clockOut
  extract_lets s1
  have h1 : PortWrite s s1 := (refl s).onPort fun _ => rfl
  split
  · split
    · exact h1.onSerial
    · exact h1
  · exact refl s

theorem portEdge (code : Nat) (x : PortEdge) (mosi : Bool) (s : State) : PortWrite s (portEdge code x mosi s) := by
  have inside : ∀ f : Transaction → State → State, (∀ u, PortWrite s (f u s)) → PortWrite s (within code f s) := by
    intro f hf
    unfold within
    (repeat' split)
    · exact refl s
    · exact hf _
    · exact refl s
  cases x with
  | csFall =>
    show PortWrite s (openTransaction s)
    unfold openTransaction
    split
    · exact (refl s).onPort fun _ => rfl
    · exact refl s
  | sckRise => exact inside _ fun u => clockIn mosi u s
  | sckFall => exact inside _ fun u => clockOut u s
  | csRise => exact inside _ fun u => (atRise _ u s).onSerial

/-- No field of the record follows the port but the start inhibit (R28). -/
theorem ownContent (h : PortWrite s t) : t.ownContent = s.ownContent := by
  have hport : t.port = { t.port with startInhibit := s.port.startInhibit } := by rw [← h.inhibit]
  rw [h.only, hport]
  rfl

/-- What has joined behind the reports that stood is a LOST marker (R197). -/
theorem joined (h : PortWrite s t) {new : List Report} (hnew : t.port.reports = s.port.reports ++ new) :
    ∀ r ∈ new, r.kind = .lost := by
  intro r hr
  rcases h.reports with e | e
  · rw [e] at hnew
    rw [List.self_eq_append_right.mp hnew] at hr
    cases hr
  · rw [e] at hnew
    have hpos : 0 < new.length := List.length_pos_of_mem hr
    unfold Machine.removeReport at hnew
    split at hnew
    · have hlen := congrArg List.length hnew
      simp only [List.length_tail, List.length_append] at hlen
      omega
    · cases hs : s.port.reports with
      | nil =>
        rw [hs] at hnew
        have hlost : new = [lostMarker s.port] := hnew.symm
        rw [hlost, List.mem_singleton] at hr
        rw [hr]
        rfl
      | cons x rest =>
        have hlen := congrArg List.length hnew
        simp only [hs, List.length_tail, List.length_append, List.length_cons, List.length_nil] at hlen
        omega

theorem sends (h : PortWrite s t) : Sends s t :=
  Sends.of_untold h.ownContent (by rw [h.only]; rfl) fun _ hnew => h.joined hnew

end PortWrite

/-! ### Every command -/

/-- The decision of an order in RUN, as its handler takes it. -/
theorem orderDecision_works {c : Instr} {d : State → State × Answer} (hd : orderDecision c = some d) {u : State}
    (hrun : u.running = true) : (d u).1.running = true ∧ Feeds u (d u).1 ∧ SetsNoChanged u (d u).1 := by
  refine ⟨?_, (Feeds.keptByWork u).order hd (Feeds.refl u), SetsNoChanged.order hd hrun⟩
  rcases orderDecision_frame hd u with ⟨hf, -⟩ | ⟨hstop, -⟩
  · exact (congrArg Prod.fst hf : (d u).1.running = u.running).trans hrun
  · rw [hrun] at hstop
    cases hstop

theorem sends_of_exec {c : Instr} {s t : State} (hx : exec c s = .next t) (hrun : s.running = true)
    (hrunt : t.running = true) : Sends s t := by
  cases executes_of_exec hx with
  | powerOn straps _ => cases hrunt
  | reset straps _ =>
    have refusal : Sends s (takeOrder .reset (fun t => (t, refused .notEnabled)) s) :=
      Sends.takeOrder (fun u hu => ⟨hu, Feeds.refl u, SetsNoChanged.refl u⟩) hrun
    unfold takeReset at hrunt ⊢
    split
    · split
      · rename_i ho he
        rw [if_pos ho, if_pos he] at hrunt
        cases hrunt
      · exact refusal
    · exact Sends.refl s
  | port code x mosi => exact (PortWrite.portEdge code x mosi s).sends
  | order o d _ hd => exact Sends.takeOrder (fun u hu => orderDecision_works hd hu) hrun
  | event f hf =>
    have hu : (f (s.setFed false)).running = true :=
      (running_of_setup (eventWork_setup hf (s.setFed false))).trans hrun
    exact Sends.publish hrun hu ((Feeds.keptByWork _).event hf (Feeds.refl _)) (SetsNoChanged.event hf (s.setFed false))
  | period =>
    have hu : (controlWork (s.setFed false)).running = true :=
      (running_of_fixed (controlWork_fixed (s.setFed false))).trans hrun
    have worked : Sends s (publish s (controlWork (s.setFed false))) :=
      Sends.publish hrun hu ((Feeds.keptByWork _).controlWork (Feeds.refl _))
        (SetsNoChanged.of_fixed (controlWork_fixed (s.setFed false)))
    unfold controlPeriod
    dsimp only
    (repeat' split)
    · exact worked.fillBoth
    · exact worked
    · exact Sends.refl s

end Sys2Proof.Machine
end

section
/-! PROOFS. The periodic sending of a corner (O41, last clause). -/

namespace Sys2Proof.Machine

/-- The phases in which a corner sends at each expiry, some of them with its brake released alone (R32). -/
theorem sendsEachPeriod_of_phase {s : State}
    (h : s.motion.phase ∈ [some .releasing, some .raising, some .lowering, some .halting] ∨
      (s.motion.phase ∈ [some .raised, some .held] ∧ s.motion.brake.out = true)) : sendsEachPeriod s = true := by
  unfold sendsEachPeriod State.cornerIn State.cornerIs
  simp only [List.mem_cons, List.not_mem_nil, or_false] at h
  rcases h with (h | h | h | h) | ⟨h | h, hb⟩ <;> simp [movingPhase, *]

/-- A corner's control period in RUN: its work, and what it sends where its phase asks for it. -/
theorem controlPeriod_sends {s : State} (hrun : s.running = true) (hrole : s.role = .corner)
    (ht : s.motion.controlTimer.isSome = true) :
    let u := publish s (controlWork (s.setFed false))
    controlPeriod s = if sendsEachPeriod u then fillBoth u else u := if_pos ⟨hrun, hrole, ht⟩

theorem controlPeriod_fillsSlots {s : State} (hrun : s.running = true) (hrole : s.role = .corner)
    (ht : s.motion.controlTimer.isSome = true) :
    ((controlPeriod s).motion.phase ∈ [some .releasing, some .raising, some .lowering, some .halting] ∨
        ((controlPeriod s).motion.phase ∈ [some .raised, some .held] ∧ (controlPeriod s).motion.brake.out = true) →
      ∀ l, ((controlPeriod s).line l).slot ≠ .empty) ∧
    UnchangedBut (.link :: roleBlocks) s (controlPeriod s) := by
  let u := publish s (controlWork (s.setFed false))
  have hwork : UnchangedBut roleBlocks (s.setFed false) (controlWork (s.setFed false)) :=
    unchangedBut_of_fixed (controlWork_fixed _)
  have hu : UnchangedBut (.link :: roleBlocks) s u := event_unchangedBut (hwork.mono (by simp))
  have hmotion : (fillBoth u).motion = u.motion := by
    rw [fillBoth_linkOnly u]
    rfl
  have e := controlPeriod_sends hrun hrole ht
  by_cases hs : sendsEachPeriod u = true
  · have e' : controlPeriod s = fillBoth u := e.trans (if_pos hs)
    rw [e']
    exact ⟨fun _ l => (fillBoth_line l u).1, hu.trans ((fillBoth_linkOnly.unchangedBut u).mono (by simp))⟩
  · have e' : controlPeriod s = u := e.trans (if_neg hs)
    rw [e']
    exact ⟨fun h => absurd (sendsEachPeriod_of_phase h) hs, hu⟩

end Sys2Proof.Machine
end

section
/-! PROOFS. An approach that holds at the end of its red clearance and is raised again in the same event (O41). -/

namespace Sys2Proof.Machine

/-! ### The DEMAND view of a station that is no desk -/

/-- At a station that is no desk the DEMAND view reads the entries of the peer table alone (R16, R17). -/
theorem demandView_of_fixed {s t : State} (hrole : s.role ≠ .desk) (hf : t.fixed = s.fixed) : t.demandView = s.demandView := by
  have hstraps : t.straps = s.straps := congrArg Fixed.straps hf
  have hpeers : t.peers = s.peers := congrArg Fixed.peers hf
  have hnumber : t.number = s.number := by rw [State.number, hstraps]; rfl
  have own : ∀ u : State, u.role ≠ .desk → ∀ demand goal count key ceiling cause,
      u.ownContent.payload ≠ .desk demand goal count key ceiling cause := fun u hu _ _ _ _ _ _ hp =>
    hu ((ownPayload_eq_desk u _ _ _ _ _ _).mp hp).1
  have hrolet : t.role ≠ .desk := by rw [State.role, hstraps]; exact hrole
  have desks : t.countedDesks = s.countedDesks := by
    unfold State.countedDesks
    congr 1
    funext j
    simp only [State.counted, hnumber, qualifying_of_peers hpeers j]
    by_cases hj : j.val = s.number
    · simp only [if_pos hj]
      split
      · exact absurd ‹_› (own t hrolet _ _ _ _ _ _)
      · split
        · exact absurd ‹_› (own s hrole _ _ _ _ _ _)
        · rfl
    · simp only [if_neg hj]
  simp only [State.demandView, desks]

/-! ### The red clearance -/

theorem Feeds.fed {s t : State} (h : Feeds s t) (hs : s.fed = true) : t.fed = true := by
  obtain ⟨-, new, -, hold, -⟩ := h
  exact hold hs

/-- An entry feeds its change of PHASE (R30). -/
theorem enterApproach_fed (p : ApproachPhase) (held : Option ApproachPhase) (s : State) :
    (enterApproach p held s).fed = true := by
  unfold enterApproach
  extract_lets old s1 s2
  have h2 : s2.fed = true := submit_fed _ _
  have k := Feeds.keptByWork s2
  exact (k.approachActions (k.requestSteady (k.requestRow (Feeds.refl s2)))).fed h2

theorem enterApproach_holdPending (p : ApproachPhase) (held : Option ApproachPhase) (s : State) :
    (enterApproach p held s).closure.holdPending = if p = .holding ∨ p = .tripped then false else s.closure.holdPending :=
  congrArg (·.2.2.2.2.1) (enterApproach_besideStage p held s)

/-- The entry to RED_CLEARANCE has not been served (R104). -/
theorem enterApproach_redClearance_served (held : Option ApproachPhase) (s : State) :
    (enterApproach .redClearance held s).closure.served = false := by
  obtain ⟨t, ht, ha, -⟩ := enterApproach_eq .redClearance held s
  have hreds : (renewFailedReds t).closure = t.closure := congrArg (·.2.2.1) (renewFailedReds_aside t)
  have hentering : t.closure = s.closure.entering .redClearance held := congrArg (·.2.2.1) ha
  have hserved : (renewFailedReds t).closure.served = false := by
    rw [hreds, hentering]
    rfl
  rw [ht]
  exact hserved

/-- HOLDING resumes its stage where RAISE stands and the inhibit is clear (R112). -/
theorem approachCondition_resumes {s : State} {q : ApproachPhase} (hp : s.closure.phase = some .holding)
    (hq : s.closure.heldStage = some q) (hin : s.port.startInhibit = false) (hd : s.demandView = .raise) :
    approachCondition s = some (enterApproach q none s) := by
  have hclosing : s.inClosingStage = false := by
    rw [State.inClosingStage, hp]
    rfl
  simp [approachCondition, hclosing, hp, hq, hin, hd]

/-- RED_CLEARANCE waits for its timer where no hold is pending and RAISE stands (R104). -/
theorem approachCondition_waits {s : State} (hp : s.closure.phase = some .redClearance) (hpending : s.closure.holdPending = false)
    (hserved : s.closure.served = false) (hd : s.demandView = .raise) : approachCondition s = none := by
  simp [approachCondition, hp, hpending, hserved, hd]

theorem approachReact_twice {s t : State} (h : approachCondition s = some t) (ht : approachCondition t = none) :
    approachReact s = t := by
  simp [approachReact, approachSettle, h, ht]

/-- The approach that holds at the end of its red clearance with both stop lamps failed (R104, R111). -/
def heldAtRed (s : State) : State := enterApproach .holding (some .redClearance) (latch .stopSignalFailed s)

/-- The approach that has held so, and resumed (R112). -/
def resumed (s : State) : State := enterApproach .redClearance none (heldAtRed s)

theorem heldAtRed_fixed (s : State) : (heldAtRed s).fixed = s.fixed := enterApproach_fixed _ _ (latch .stopSignalFailed s)

theorem heldAtRed_stage (s : State) : (heldAtRed s).closure.phase = some .holding ∧
    (heldAtRed s).closure.heldStage = some .redClearance ∧ (heldAtRed s).closure.holdPending = false := by
  rw [heldAtRed, enterApproach_phase, enterApproach_heldStage, enterApproach_holdPending]
  exact ⟨rfl, rfl, rfl⟩

theorem startInhibit_of_fixed {s t : State} (h : t.fixed = s.fixed) : t.port.startInhibit = s.port.startInhibit :=
  congrArg Fixed.startInhibit h

theorem resumed_fixed (s : State) : (resumed s).fixed = s.fixed :=
  (enterApproach_fixed _ _ (heldAtRed s)).trans (heldAtRed_fixed s)

/-- It stands in RED_CLEARANCE with no hold pending and no held stage. -/
theorem resumed_stage (s : State) : (resumed s).closure.phase = some .redClearance ∧
    (resumed s).closure.holdPending = false ∧ (resumed s).closure.heldStage = none := by
  obtain ⟨-, -, hnone⟩ := heldAtRed_stage s
  rw [resumed, enterApproach_phase, enterApproach_holdPending, enterApproach_heldStage]
  exact ⟨rfl, hnone, rfl⟩

theorem redExpiry_resumes {s : State} (hrole : s.role ≠ .desk) (htimer : s.closure.redTimer.isSome = true)
    (hstop : s.stopSignalOk = false) (hpending : s.closure.holdPending = true) (hd : s.demandView = .raise)
    (hin : s.port.startInhibit = false) : redExpiry s = resumed s := by
  obtain ⟨hphasew, hstagew, -⟩ := heldAtRed_stage s
  have hinw : (heldAtRed s).port.startInhibit = false := (startInhibit_of_fixed (heldAtRed_fixed s)).trans hin
  have hdw : (heldAtRed s).demandView = .raise := (demandView_of_fixed hrole (heldAtRed_fixed s)).trans hd
  have hresumes : approachCondition (heldAtRed s) = some (resumed s) :=
    approachCondition_resumes hphasew hstagew hinw hdw
  obtain ⟨hphase, hnone, -⟩ := resumed_stage s
  have hwaits : approachCondition (resumed s) = none :=
    approachCondition_waits hphase hnone (enterApproach_redClearance_served _ _)
      ((demandView_of_fixed hrole (resumed_fixed s)).trans hd)
  have hexpiry : redExpiry s = approachReact (heldAtRed s) := by
    unfold redExpiry
    rw [if_pos htimer, if_neg (by rw [hstop]; decide)]
    dsimp only
    rw [if_pos hpending]
    rfl
  rw [hexpiry, approachReact_twice hresumes hwaits]

theorem resumed_beside (s : State) : (resumed s).trip = s.trip ∧ (resumed s).motion = s.motion ∧
    (resumed s).channel = s.channel ∧ (resumed s).desk = s.desk := by
  rw [resumed, heldAtRed, enterApproach_trip, enterApproach_trip, enterApproach_motion, enterApproach_motion,
    enterApproach_channel, enterApproach_channel, enterApproach_desk, enterApproach_desk]
  exact ⟨rfl, rfl, rfl, rfl⟩

theorem resumed_unchangedBut (s : State) : UnchangedBut [.feed, .reports, .signal, .closure] s (resumed s) := by
  refine (unchangedBut_of_fixed (resumed_fixed s)).narrow fun b hb hn => ?_
  obtain ⟨htrip, hmotion, hchannel, hdesk⟩ := resumed_beside s
  cases b <;> simp_all [roleBlocks, same]

/-- What an event in RUN feeds, it sends. -/
theorem publish_sent {s u : State} (hrun : s.running = true) (hu : u.running = true) (hfed : u.fed = true) (l : LinkLine) :
    Sent (publish s u) l := by
  rw [publish_fed s u hrun hu hfed]
  exact Sent.contentChanged u l

theorem closure_publish (before after : State) : (publish before after).closure = after.closure :=
  congrArg (·.2.2.1) (publish_aside before after)

theorem redClearance_resumes_sent {s : State} (hrun : s.running = true) (hrole : s.role = .approach)
    (htimer : s.closure.redTimer.isSome = true) (hstop : s.stopSignalOk = false) (hpending : s.closure.holdPending = true)
    (hd : s.demandView = .raise) (hin : s.port.startInhibit = false) :
    ∃ t, exec .redClearanceExpiry s = .next t ∧ t.closure.phase = some .redClearance ∧ t.closure.holdPending = false ∧
      t.closure.heldStage = none ∧ t.latched .stopSignalFailed = true ∧ (∀ l, Sent t l) ∧
      UnchangedBut [.link, .reports, .signal, .closure] s t := by
  let v := s.setFed false
  have hnot : v.role ≠ .desk := by
    have : v.role = .approach := hrole
    rw [this]
    decide
  have hwork : redExpiry v = resumed v := redExpiry_resumes hnot htimer hstop hpending hd hin
  have hexec : exec .redClearanceExpiry s = .next (publish s (resumed v)) := by
    rw [exec_of_eventWork (c := .redClearanceExpiry) s rfl, hwork]
  have hclosure : (publish s (resumed v)).closure = (resumed v).closure := closure_publish s (resumed v)
  have hrunr : (resumed v).running = true := (running_of_fixed (resumed_fixed v)).trans hrun
  obtain ⟨hphase, hnone, hheld⟩ := resumed_stage v
  refine ⟨_, hexec, by rw [hclosure, hphase], by rw [hclosure, hnone], by rw [hclosure, hheld], ?_,
    publish_sent hrun hrunr (enterApproach_fed _ _ _), event_unchangedBut (resumed_unchangedBut v)⟩
  have grows : Grows (latch .stopSignalFailed v) (resumed v) := (Grows.refl _).enterApproach.enterApproach
  have hl := grows.latched _ (latch_latched .stopSignalFailed v)
  rwa [State.latched, ← publish_port s (resumed v)] at hl

end Sys2Proof.Machine
end

section
/-! PROOFS. A flash half in which one warning lamp fails and another is proved again, and what O41 says of every change of
content. -/

namespace Sys2Proof.Machine

/-! ### The lamps of a flash half -/

/-- What a flash half does with one output (R139, R140). -/
def flashStep (old : FlashHalf) (t : State) (i : Fin 16) : State :=
  let m := (t.lamp i).mode
  if modeOn m old && !modeOn m (otherHalf old) then endOnPhase i true t
  else if !modeOn m old && modeOn m (otherHalf old) then beginOnPhase i t
  else t

theorem flashExpiry_eq {s : State} (h : s.signal.halfTimer.isSome = true) :
    flashExpiry s = lampOutputs.foldl (flashStep s.signal.half)
      (s.onSignal fun g => { g with half := otherHalf s.signal.half, halfTimer := some s.halfFlashPeriod }) := if_pos h

/-- A lamp that does not flash has no on-phase that begins or ends with a half. -/
theorem flashStep_rest {old : FlashHalf} {t : State} {i : Fin 16} (h : t.modes i = .off ∨ t.modes i = .steady) :
    flashStep old t i = t := by
  have hm : (t.lamp i).mode = .off ∨ (t.lamp i).mode = .steady := h
  unfold flashStep
  rcases hm with hm | hm <;> rw [hm] <;> cases old <;> rfl

theorem foldl_flashStep_rest {old : FlashHalf} {t : State} {l : List (Fin 16)}
    (h : ∀ i ∈ l, t.modes i = .off ∨ t.modes i = .steady) : l.foldl (flashStep old) t = t := by
  induction l with
  | nil => rfl
  | cons i rest ih =>
    rw [List.foldl_cons, flashStep_rest (h i List.mem_cons_self)]
    exact ih fun j hj => h j (List.mem_cons_of_mem i hj)

/-- At the end of half A the lamp of output 4 ends its on-phase and that of output 5 begins one, where no other flashes. -/
theorem flashExpiry_pair {s : State} (h : s.signal.halfTimer.isSome = true) (hhalf : s.signal.half = .a)
    (h4 : (s.lamp 4).mode = .flashA) (h5 : (s.lamp 5).mode = .flashB)
    (hrest : ∀ k, k ≠ 4 → k ≠ 5 → (s.lamp k).mode = .off ∨ (s.lamp k).mode = .steady) :
    flashExpiry s = beginOnPhase 5 (endOnPhase 4 true
      (s.onSignal fun g => { g with half := .b, halfTimer := some s.halfFlashPeriod })) := by
  let s1 := s.onSignal fun g => { g with half := .b, halfTimer := some s.halfFlashPeriod }
  have hm : s1.modes = s.modes := rfl
  have hm4 : (endOnPhase 4 true s1).modes = s.modes := (endOnPhase_modes 4 true s1).trans hm
  have hm5 : (beginOnPhase 5 (endOnPhase 4 true s1)).modes = s.modes := (beginOnPhase_modes 5 _).trans hm4
  have step4 : flashStep .a s1 4 = endOnPhase 4 true s1 := by
    have hmode : (s1.lamp 4).mode = .flashA := h4
    rw [flashStep, hmode]
    rfl
  have step5 : flashStep .a (endOnPhase 4 true s1) 5 = beginOnPhase 5 (endOnPhase 4 true s1) := by
    have hmode : ((endOnPhase 4 true s1).lamp 5).mode = .flashB := (congrFun hm4 5).trans h5
    rw [flashStep, hmode]
    rfl
  have before : [0, 1, 2, 3].foldl (flashStep .a) s1 = s1 := foldl_flashStep_rest fun i hi =>
    hrest i (by rintro rfl; revert hi; decide) (by rintro rfl; revert hi; decide)
  have behind : [6, 7, 8, 9, 10, 11, 12, 13, 14, 15].foldl (flashStep .a) (beginOnPhase 5 (endOnPhase 4 true s1)) =
      beginOnPhase 5 (endOnPhase 4 true s1) := foldl_flashStep_rest fun i hi => by
    rw [hm5]
    exact hrest i (by rintro rfl; revert hi; decide) (by rintro rfl; revert hi; decide)
  have outputs : lampOutputs = [0, 1, 2, 3] ++ ([4, 5] ++ [6, 7, 8, 9, 10, 11, 12, 13, 14, 15]) := rfl
  have pair : [4, 5].foldl (flashStep .a) s1 = beginOnPhase 5 (endOnPhase 4 true s1) := by
    rw [List.foldl_cons, step4, List.foldl_cons, step5, List.foldl_nil]
  have start : flashExpiry s = lampOutputs.foldl (flashStep .a) s1 := by
    rw [flashExpiry_eq h, hhalf]
    rfl
  rw [start, outputs, List.foldl_append, List.foldl_append, before, pair, behind]

theorem endOnPhase_lamp_ne {i j : Fin 16} (hj : j ≠ i) (byTimebase : Bool) (s : State) :
    (endOnPhase i byTimebase s).lamp j = s.lamp j := by
  unfold endOnPhase
  dsimp only
  split
  · rw [State.lamp_onLamp_ne hj]
    split
    · rw [windowFails, setProving_lamp, if_neg hj, State.lamp_onLamp_ne hj]
    · rfl
  · rfl

/-- A window that the timebase ends has failed (R140, R143). -/
theorem endOnPhase_fails {i : Fin 16} {s : State} (hp : provedOutput s.role i = true)
    (hw : (s.lamp i).window.isSome = true) : ((endOnPhase i true s).lamp i).proving = .failed := by
  rw [endOnPhase, if_pos hp, hw, Bool.true_and, if_pos rfl, State.lamp_onLamp, windowFails, setProving_lamp, if_pos rfl]

/-- An on-phase of a lamp whose current is sensed proves it as it begins (R143, R145). -/
theorem beginOnPhase_sensed {i : Fin 16} {s : State} (hp : provedOutput s.role i = true) (hs : (s.lamp i).sensed = true) :
    beginOnPhase i s =
      windowSucceeds i (s.onLamp i fun l => { l with darkTimer := none, watchTimer := none, watched := false }) := by
  rw [beginOnPhase, if_pos hp]
  dsimp only
  rw [if_pos (by rw [State.lamp_onLamp]; exact hs)]

theorem beginOnPhase_proves {i : Fin 16} {s : State} (hp : provedOutput s.role i = true) (hs : (s.lamp i).sensed = true) :
    ((beginOnPhase i s).lamp i).proving = provingAfterSuccess (s.lamp i).proving := by
  rw [beginOnPhase_sensed hp hs, windowSucceeds, setProving_lamp, if_pos rfl, State.lamp_onLamp, State.lamp_onLamp]

theorem beginOnPhase_lamp_ne {i j : Fin 16} {s : State} (hp : provedOutput s.role i = true)
    (hs : (s.lamp i).sensed = true) (hj : j ≠ i) : (beginOnPhase i s).lamp j = s.lamp j := by
  rw [beginOnPhase_sensed hp hs, windowSucceeds, setProving_lamp, if_neg hj, State.lamp_onLamp_ne hj,
    State.lamp_onLamp_ne hj]

/-- A lamp of an approach or a channel that becomes faulty, or ceases to be, feeds a change (R30, R100). -/
theorem setProving_fed {i : Fin 16} {p : Proving} {s : State} (hrole : s.role = .approach ∨ s.role = .channel)
    (h : lampFaulty (s.lamp i).proving ≠ lampFaulty p) : (setProving i p s).fed = true := by
  have hne : (s.lamp i).proving ≠ p := fun e => h (congrArg lampFaulty e)
  have hfed : (feed s (s.onLamp i fun l => { l with proving := p })).fed = true := Feeds.feed_fed_of_ne fun hc => by
    have hsummary := lampSummary_of_ownContent (s := s) (t := s.onLamp i fun l => { l with proving := p }) rfl hrole hc
    exact lampSummary_proving h hsummary.symm
  unfold setProving
  dsimp only
  rw [if_neg hne]
  split
  · exact (submit_fed _ _).trans hfed
  · exact (submit_fed _ _).trans hfed

theorem endOnPhase_fed {i : Fin 16} {s : State} (hrole : s.role = .approach ∨ s.role = .channel)
    (hp : provedOutput s.role i = true) (hw : (s.lamp i).window.isSome = true)
    (h : lampFaulty (s.lamp i).proving = false) : (endOnPhase i true s).fed = true := by
  have hfails : (windowFails i s).fed = true := by
    refine setProving_fed hrole ?_
    rw [State.lamp_onLamp]
    show lampFaulty (s.lamp i).proving ≠ true
    rw [h]
    decide
  rw [endOnPhase, if_pos hp, hw]
  exact hfails

/-! ### A record that returns -/

/-- At an approach the record follows trip record, arms, stages, inputs and lines, and of the lamps alone LAMP_SUMMARY and
STOP_SIGNAL_OK (R115). -/
theorem ownContent_of_lamps {s t : State} (hrole : s.role = .approach) (ha : t.aside = s.aside) (hf : t.fixed = s.fixed)
    (hsummary : t.lampSummary = s.lampSummary) (hstop : t.stopSignalOk = s.stopSignalOk) : t.ownContent = s.ownContent := by
  simp only [State.aside, Prod.mk.injEq] at ha
  obtain ⟨htrip, -, hclosure, -, -⟩ := ha
  have hstraps : t.straps = s.straps := congrArg Fixed.straps hf
  have hinputs : t.inputs = s.inputs := congrArg Fixed.inputs hf
  have hlink : t.link = s.link := congrArg Fixed.link hf
  have hdup : t.duplicateTimer = s.duplicateTimer := congrArg Fixed.duplicateTimer hf
  have hrolet : t.role = .approach := by rw [State.role, hstraps]; exact hrole
  have hfiltered : ∀ i, t.filtered i = s.filtered i := fun i => by simp only [State.filtered, State.inputLine, hinputs]
  have harm : ∀ i, t.arm i = s.arm i := fun i => by simp only [State.arm, hclosure]
  have hline : ∀ l, t.line l = s.line l := fun l => by simp only [State.line, hlink]
  have hfitted : ∀ i, t.isFitted i = s.isFitted i := fun i => by
    have hconfig : t.config = s.config := config_of_fixed hf
    simp only [State.isFitted, State.isEntryArm, State.isExitArm, hconfig]
  have hclosed : t.closureIntact = s.closureIntact := by
    simp only [State.closureIntact, State.allArmsDown, State.armDown, State.armIs, hfitted, hclosure, harm]
  have hpayload : t.ownPayload = s.ownPayload := by
    simp only [State.ownPayload, hrole, hrolet, State.armCodeOf, harm, State.loop, hfiltered, State.deckPresent, hclosed,
      hstop, State.heldStageCode, hclosure, hsummary, State.tripCause, htrip]
  have hphase : t.phaseCode = s.phaseCode := by simp only [State.phaseCode, hrole, hrolet, hclosure]
  simp only [State.ownContent, htrip, startInhibit_of_fixed hf, hphase, State.maint, hfiltered, State.lineOk, hline, hdup,
    hpayload]

/-- In TRIPPED an approach takes no condition cause (R114). -/
theorem approachReact_tripped {s : State} (h : s.closure.phase = some .tripped) : approachReact s = s := by
  have hclosing : s.inClosingStage = false := by
    rw [State.inClosingStage, h]
    rfl
  have hnone : approachCondition s = none := by simp [approachCondition, hclosing, h]
  simp [approachReact, approachSettle, hnone]

/-! ### The flash half -/

/-- The approach at the start of half B, before its lamps act (R139). -/
def atHalfB (s : State) : State := s.onSignal fun g => { g with half := .b, halfTimer := some s.halfFlashPeriod }

/-- The approach whose warning lamp of output 4 has failed at the end of half A. -/
def oneFailed (s : State) : State := endOnPhase 4 true (atHalfB s)

/-- The approach whose warning lamp of output 5 has then been proved at the start of half B. -/
def flashed (s : State) : State := beginOnPhase 5 (oneFailed s)

section

variable {s : State} (hrole : s.role = .approach) (hwindow : (s.lamp 4).window.isSome = true)
  (hsensed : (s.lamp 5).sensed = true)

theorem oneFailed_fixed (s : State) : (oneFailed s).fixed = s.fixed := endOnPhase_fixed 4 true (atHalfB s)
theorem flashed_fixed (s : State) : (flashed s).fixed = s.fixed := (beginOnPhase_fixed 5 (oneFailed s)).trans (oneFailed_fixed s)
theorem flashed_aside (s : State) : (flashed s).aside = s.aside :=
  (beginOnPhase_aside 5 (oneFailed s)).trans (endOnPhase_aside 4 true (atHalfB s))

theorem oneFailed_lamp_ne {j : Fin 16} (hj : j ≠ 4) : (oneFailed s).lamp j = s.lamp j :=
  endOnPhase_lamp_ne hj true (atHalfB s)

include hrole in
theorem oneFailed_role : (oneFailed s).role = .approach := (role_of_frame (frame_of_fixed (oneFailed_fixed s))).trans hrole

include hrole hwindow

theorem oneFailed_fails : ((oneFailed s).lamp 4).proving = .failed := by
  have hr : (atHalfB s).role = .approach := hrole
  exact endOnPhase_fails (s := atHalfB s) (by rw [hr]; rfl) hwindow

/-- The failing lamp feeds a change of LAMP_SUMMARY (R30, R100). -/
theorem oneFailed_fed (hproven : (s.lamp 4).proving = .proven) : (oneFailed s).fed = true := by
  have hr : (atHalfB s).role = .approach := hrole
  have hsound : lampFaulty ((atHalfB s).lamp 4).proving = false := by
    show lampFaulty (s.lamp 4).proving = false
    rw [hproven]
    rfl
  exact endOnPhase_fed (s := atHalfB s) (.inl hr) (by rw [hr]; rfl) hwindow hsound

include hsensed

omit hwindow in
theorem flashed_lamp_ne {j : Fin 16} (hj : j ≠ 5) : (flashed s).lamp j = (oneFailed s).lamp j := by
  have hs : ((oneFailed s).lamp 5).sensed = true := by rw [oneFailed_lamp_ne (by decide), hsensed]
  exact beginOnPhase_lamp_ne (by rw [oneFailed_role hrole]; rfl) hs hj

omit hwindow in
theorem flashed_proves (hfailed : (s.lamp 5).proving = .failed) : ((flashed s).lamp 5).proving = .proven := by
  have h5 : (oneFailed s).lamp 5 = s.lamp 5 := oneFailed_lamp_ne (by decide)
  have h := beginOnPhase_proves (i := 5) (s := oneFailed s) (by rw [oneFailed_role hrole]; rfl) (by rw [h5, hsensed])
  rw [h5, hfailed] at h
  exact h

/-- One lamp more is FAILED and one less, so that the record returns (R100). -/
theorem flashed_ownContent (hproven : (s.lamp 4).proving = .proven) (hfailed : (s.lamp 5).proving = .failed) :
    (flashed s).ownContent = s.ownContent := by
  have h4 := oneFailed_fails hrole hwindow
  have h5 := flashed_proves hrole hsensed hfailed
  have hother : ∀ j, j ≠ 4 → j ≠ 5 → (flashed s).lamp j = s.lamp j := fun j hj4 hj5 => by
    rw [flashed_lamp_ne hrole hsensed hj5, oneFailed_lamp_ne hj4]
  have one : (oneFailed s).lampSummary = s.lampSummary + 1 :=
    lampSummary_succ (i := 4) (by rw [hproven]; rfl) (by rw [h4]; rfl) fun j hj => by rw [oneFailed_lamp_ne hj]
  have two : (oneFailed s).lampSummary = (flashed s).lampSummary + 1 :=
    lampSummary_succ (i := 5) (by rw [h5]; rfl) (by rw [oneFailed_lamp_ne (by decide), hfailed]; rfl) fun j hj => by
      rw [flashed_lamp_ne hrole hsensed hj]
  refine ownContent_of_lamps hrole (flashed_aside s) (flashed_fixed s) (Nat.succ.inj (two.symm.trans one)) ?_
  simp only [State.stopSignalOk, State.lampFailed, hother 0 (by decide) (by decide), hother 1 (by decide) (by decide)]

end

/-- A flash half in TRIPPED in which one warning lamp fails and the other is proved sends the record that has returned. -/
theorem flashHalf_returns_sent {s : State} (hrun : s.running = true) (hrole : s.role = .approach)
    (hphase : s.closure.phase = some .tripped) (htimer : s.signal.halfTimer.isSome = true) (hhalf : s.signal.half = .a)
    (h4 : (s.lamp 4).mode = .flashA) (h5 : (s.lamp 5).mode = .flashB) (hwindow : (s.lamp 4).window.isSome = true)
    (hproven : (s.lamp 4).proving = .proven) (hsensed : (s.lamp 5).sensed = true)
    (hfailed : (s.lamp 5).proving = .failed)
    (hrest : ∀ k, k ≠ 4 → k ≠ 5 → (s.lamp k).mode = .off ∨ (s.lamp k).mode = .steady) :
    ∃ t, exec .flashHalfExpiry s = .next t ∧ (t.lamp 4).proving = .failed ∧ (t.lamp 5).proving = .proven ∧
      t.ownContent = s.ownContent ∧ (∀ l, Sent t l) ∧ UnchangedBut [.link, .reports, .signal] s t := by
  let v := s.setFed false
  have hrunf : (flashed v).running = true := (running_of_fixed (flashed_fixed v)).trans hrun
  have hreact : lampReact (flashed v) = flashed v := by
    have hr : (flashed v).role = .approach := (role_of_frame (frame_of_fixed (flashed_fixed v))).trans hrole
    have hp : (flashed v).closure.phase = some .tripped := by
      have hc : (flashed v).closure = v.closure := congrArg (·.2.2.1) (flashed_aside v)
      rw [hc]
      exact hphase
    rw [lampReact, if_pos hrunf, hr]
    exact approachReact_tripped hp
  have hflash : flashExpiry v = flashed v := flashExpiry_pair (s := v) htimer hhalf h4 h5 hrest
  have hexec : exec .flashHalfExpiry s = .next (publish s (flashed v)) := by
    rw [exec_of_eventWork (c := .flashHalfExpiry) s rfl]
    show Host.Outcome.next (publish s (lampReact (flashExpiry v))) = _
    rw [hflash, hreact]
  have hlamp : ∀ j, (publish s (flashed v)).lamp j = (flashed v).lamp j := fun j => by
    rw [State.lamp, publish_signal]
    rfl
  have hfed : (flashed v).fed = true :=
    ((Feeds.keptByWork (oneFailed v)).beginOnPhase (Feeds.refl _)).fed (oneFailed_fed (s := v) hrole hwindow hproven)
  refine ⟨_, hexec, ?_, ?_, ?_, publish_sent hrun hrunf hfed, ?_⟩
  · rw [hlamp, flashed_lamp_ne (s := v) hrole hsensed (by decide)]
    exact oneFailed_fails (s := v) hrole hwindow
  · rw [hlamp]
    exact flashed_proves (s := v) hrole hsensed hfailed
  · rw [publish_ownContent]
    exact flashed_ownContent (s := v) hrole hwindow hsensed hproven hfailed
  · have hall : UnchangedBut [.feed, .link, .reports, .signal] v (flashed v) :=
      unchangedBut_of_aside (flashed_aside v) (congrArg Fixed.unlinked (flashed_fixed v))
    exact (event_unchangedBut hall).mono (by simp)

/-! ### Every change of content -/

/-- Settles O41. The clause over every command is what a command in RUN sends; the others are events in which the record returns,
and the periodic sending of a corner. -/
theorem contentChangesAreSent : Obligations.ContentChangesAreSent := by
  refine ⟨fun c s t hx hrun hrunt l => ?_, ?_, ?_, fun s hrun hrole ht => ?_⟩
  · have h := sends_of_exec hx hrun hrunt
    exact ⟨fun hne => h.content hne l, fun new hnew hr => h.told new hnew hr l, h.only l⟩
  · intro s hrun hrole hphase htimer hhalf h4 h5 hwindow hproven hsensed hfailed hrest
    exact flashHalf_returns_sent hrun hrole hphase htimer hhalf h4 h5 hwindow hproven hsensed hfailed hrest
  · intro s hrun hrole _ htimer hstop hpending hd hin
    exact redClearance_resumes_sent hrun hrole htimer hstop hpending hd hin
  · obtain ⟨hfills, hun⟩ := controlPeriod_fillsSlots hrun hrole ht
    exact ⟨controlPeriod s, rfl, hfills, hun⟩

end Sys2Proof.Machine
end

section
/-! PROOFS. What the entry into a corner phase writes of the Motion Unit, field by field (R67). -/

namespace Sys2Proof.Machine

/-! ### Output stage, brake and bolt at an entry -/

/-- The Motion Unit without its output stage, brake, bolt and hold timer. -/
def MotionUnit.unactuated (m : MotionUnit) : MotionUnit :=
  let r := MotionUnit.atReset 0 Encoder.atPowerOn
  { m with output := r.output, brake := r.brake, bolt := r.bolt, holdTimer := none }

/-- Brake and bolt, as an operation on one of output stage, brake or bolt leaves the others. -/
theorem setRequest_unactuated (s : State) : (setRequest s).motion.unactuated = s.motion.unactuated := by
  unfold setRequest; split <;> rfl
theorem releaseRequest_unactuated (s : State) : (releaseRequest s).motion.unactuated = s.motion.unactuated := by
  unfold releaseRequest; split <;> rfl
theorem driveBolt_unactuated (s : State) : (driveBolt s).motion.unactuated = s.motion.unactuated := by
  unfold driveBolt; (repeat' split) <;> rfl
theorem withdrawBolt_unactuated (s : State) : (withdrawBolt s).motion.unactuated = s.motion.unactuated := by
  unfold withdrawBolt; (repeat' split) <;> rfl

theorem brakeOnEntry_unactuated (p : CornerPhase) (s : State) :
    (brakeOnEntry p s).motion.unactuated = s.motion.unactuated := by
  unfold brakeOnEntry
  (repeat' split)
  · exact setRequest_unactuated _
  · exact releaseRequest_unactuated s
  · exact setRequest_unactuated s
  · rfl
  · rfl

theorem boltOnEntry_unactuated (p : CornerPhase) (s : State) : (boltOnEntry p s).motion.unactuated = s.motion.unactuated := by
  unfold boltOnEntry
  (repeat' split)
  · exact driveBolt_unactuated s
  · exact withdrawBolt_unactuated s
  · exact withdrawBolt_unactuated s
  · rfl

@[simp] theorem setRequest_output (s : State) : (setRequest s).motion.output = s.motion.output := by
  unfold setRequest; split <;> rfl
@[simp] theorem setRequest_bolt (s : State) : (setRequest s).motion.bolt = s.motion.bolt := by
  unfold setRequest; split <;> rfl
@[simp] theorem releaseRequest_output (s : State) : (releaseRequest s).motion.output = s.motion.output := by
  unfold releaseRequest; split <;> rfl
@[simp] theorem releaseRequest_bolt (s : State) : (releaseRequest s).motion.bolt = s.motion.bolt := by
  unfold releaseRequest; split <;> rfl
@[simp] theorem applyOutput_brake (v : Int) (s : State) : (applyOutput v s).motion.brake = s.motion.brake := rfl
@[simp] theorem applyOutput_bolt (v : Int) (s : State) : (applyOutput v s).motion.bolt = s.motion.bolt := rfl
@[simp] theorem applyOutput_holdTimer (v : Int) (s : State) : (applyOutput v s).motion.holdTimer = s.motion.holdTimer := rfl

/-- A set request sets the brake (R80). -/
@[simp] theorem setRequest_brakeOut (s : State) : (setRequest s).motion.brake.out = false := by
  unfold setRequest
  split
  · rfl
  · simpa using ‹¬s.motion.brake.out = true›

/-- A release request releases the brake (R80). -/
@[simp] theorem releaseRequest_brakeOut (s : State) : (releaseRequest s).motion.brake.out = true := by
  unfold releaseRequest
  split
  · assumption
  · rfl

theorem brakeOnEntry_bolt (p : CornerPhase) (s : State) : (brakeOnEntry p s).motion.bolt = s.motion.bolt := by
  unfold brakeOnEntry
  (repeat' split) <;> simp

theorem boltOnEntry_actuators (p : CornerPhase) (s : State) :
    (boltOnEntry p s).motion.output = s.motion.output ∧ (boltOnEntry p s).motion.brake = s.motion.brake ∧
      (boltOnEntry p s).motion.holdTimer = s.motion.holdTimer := by
  have drive : (driveBolt s).motion.output = s.motion.output ∧ (driveBolt s).motion.brake = s.motion.brake ∧
      (driveBolt s).motion.holdTimer = s.motion.holdTimer := by
    unfold driveBolt; (repeat' split) <;> exact ⟨rfl, rfl, rfl⟩
  have withdraw : (withdrawBolt s).motion.output = s.motion.output ∧ (withdrawBolt s).motion.brake = s.motion.brake ∧
      (withdrawBolt s).motion.holdTimer = s.motion.holdTimer := by
    unfold withdrawBolt; (repeat' split) <;> exact ⟨rfl, rfl, rfl⟩
  unfold boltOnEntry
  (repeat' split)
  · exact drive
  · exact withdraw
  · exact withdraw
  · exact ⟨rfl, rfl, rfl⟩

/-- What a bolt command reads: the bolt, P, the inputs and the configuration. -/
theorem boltOnEntry_bolt_congr (p : CornerPhase) {s t : State} (hb : t.motion.bolt = s.motion.bolt)
    (hp : t.motion.pos = s.motion.pos) (hf : t.fixed = s.fixed) :
    (boltOnEntry p t).motion.bolt = (boltOnEntry p s).motion.bolt := by
  have hin : t.inputs = s.inputs := inputs_of_fixed hf
  have hc : t.config = s.config := config_of_fixed hf
  have hfil : ∀ i, t.filtered i = s.filtered i := fun i => by simp only [State.filtered, State.inputLine, hin]
  have hdrive : t.driveCondition = s.driveCondition := by
    simp only [State.driveCondition, State.seat, hfil, hp, State.seatTolerance, hc]
    rfl
  have htravel : t.boltTravelTime = s.boltTravelTime := by simp only [State.boltTravelTime, hc]
  have hpattern : t.boltPattern = s.boltPattern := by simp only [State.boltPattern, hfil]
  have drive : (driveBolt t).motion.bolt = (driveBolt s).motion.bolt := by
    unfold driveBolt startDriving
    rw [hb, hpattern, hdrive, htravel]
    (repeat' split) <;> first | rfl | exact hb
  have withdraw : (withdrawBolt t).motion.bolt = (withdrawBolt s).motion.bolt := by
    unfold withdrawBolt startWithdrawing
    rw [hb, hpattern, htravel]
    (repeat' split) <;> first | rfl | exact hb
  unfold boltOnEntry
  (repeat' split)
  · exact drive
  · exact withdraw
  · exact withdraw
  · exact hb

/-! ### The fields of an entry -/

/-- The Motion Unit at an entry, before the actions of the entry on brake, bolt and reference. -/
def MotionUnit.entering (p : CornerPhase) (rel : Intent) (s : State) : MotionUnit :=
  { s.motion with
    phase := some p
    intent := intentOn p rel s.motion.intent
    goal := if clearsGoal p rel then 0 else s.motion.goal
    workingGoal := if p = .raising then some (leastGoal s s.motion.goal) else none
    holdTimer := none
    profile := profileOn p (leastGoal s s.motion.goal) s.motion.profile
    stall := stallOn s p }

/-- The state in which the actions of an entry find the station. -/
def atEntry (p : CornerPhase) (rel : Intent) (s : State) : State :=
  (s.onMotion fun _ => MotionUnit.entering p rel s).setFed true

/-- What entering HOMING does to the reference: the travel starts at P, and the flag is cleared (R46, R54, R90). -/
def MotionUnit.homed (p : CornerPhase) (m : MotionUnit) : MotionUnit :=
  if p = .homing then
    { m with homingStart := some m.pos, position := -32768, encoder := { m.encoder with referenced := false } }
  else m

theorem homingOnEntry_motion (p : CornerPhase) (s : State) : (homingOnEntry p s).motion = s.motion.homed p := by
  unfold homingOnEntry MotionUnit.homed
  split <;> rfl

theorem MotionUnit.homed_unactuated (p : CornerPhase) (m : MotionUnit) : (m.homed p).unactuated = m.unactuated.homed p := by
  unfold homed
  split <;> rfl

section
variable (p : CornerPhase) (rel : Intent) (s : State)

theorem enterCorner_motion :
    (enterCorner p rel s).motion = (boltOnEntry p (brakeOnEntry p (atEntry p rel s))).motion.homed p := by
  unfold enterCorner
  rw [report_motion]
  exact homingOnEntry_motion p _

/-- An entry beside its actions on output stage, brake, bolt and hold timer. -/
theorem enterCorner_unactuated :
    (enterCorner p rel s).motion.unactuated = (MotionUnit.entering p rel s).unactuated.homed p := by
  rw [enterCorner_motion, MotionUnit.homed_unactuated, boltOnEntry_unactuated, brakeOnEntry_unactuated]
  rfl

variable {p rel s} in
/-- A field that brake, bolt, outputs and reference do not touch is as the entry sets it. -/
theorem enterCorner_field {α : Type} (f : MotionUnit → α) (hu : ∀ m, f m.unactuated = f m := by intro m; rfl)
    (hh : ∀ m, f (m.homed p) = f m := by intro m; unfold MotionUnit.homed; split <;> rfl) :
    f (enterCorner p rel s).motion = f (MotionUnit.entering p rel s) := by
  rw [← hu, enterCorner_unactuated, hh, hu]

@[simp] theorem enterCorner_intent : (enterCorner p rel s).motion.intent = intentOn p rel s.motion.intent :=
  enterCorner_field (·.intent)
@[simp] theorem enterCorner_goal : (enterCorner p rel s).motion.goal = if clearsGoal p rel then 0 else s.motion.goal :=
  enterCorner_field (·.goal)
@[simp] theorem enterCorner_workingGoal : (enterCorner p rel s).motion.workingGoal =
    if p = .raising then some (leastGoal s s.motion.goal) else none :=
  enterCorner_field (·.workingGoal)
@[simp] theorem enterCorner_leftBehind : (enterCorner p rel s).motion.leftBehind = s.motion.leftBehind :=
  enterCorner_field (·.leftBehind)
@[simp] theorem enterCorner_controlTimer : (enterCorner p rel s).motion.controlTimer = s.motion.controlTimer :=
  enterCorner_field (·.controlTimer)
@[simp] theorem enterCorner_pos : (enterCorner p rel s).motion.pos = s.motion.pos := enterCorner_field (·.pos)
@[simp] theorem enterCorner_profile :
    (enterCorner p rel s).motion.profile = profileOn p (leastGoal s s.motion.goal) s.motion.profile :=
  enterCorner_field (·.profile)
@[simp] theorem enterCorner_stall : (enterCorner p rel s).motion.stall = stallOn s p := enterCorner_field (·.stall)
@[simp] theorem enterCorner_position :
    (enterCorner p rel s).motion.position = if p = .homing then -32768 else s.motion.position := by
  refine (congrArg MotionUnit.position (enterCorner_unactuated p rel s)).trans ?_
  unfold MotionUnit.homed
  split <;> rfl
@[simp] theorem enterCorner_encoder : (enterCorner p rel s).motion.encoder =
    if p = .homing then { s.motion.encoder with referenced := false } else s.motion.encoder := by
  refine (congrArg MotionUnit.encoder (enterCorner_unactuated p rel s)).trans ?_
  unfold MotionUnit.homed
  split <;> rfl

theorem homed_actuators (m : MotionUnit) : (m.homed p).output = m.output ∧ (m.homed p).brake = m.brake ∧
    (m.homed p).bolt = m.bolt ∧ (m.homed p).holdTimer = m.holdTimer := by
  unfold MotionUnit.homed
  split <;> exact ⟨rfl, rfl, rfl, rfl⟩

/-- The outputs are forced off in the phases of `forcesOff`, and stay elsewhere (R62). -/
@[simp] theorem enterCorner_output : (enterCorner p rel s).motion.output =
    if forcesOff p then (applyOutput 0 s).motion.output else s.motion.output := by
  obtain ⟨hout, -⟩ := homed_actuators p (boltOnEntry p (brakeOnEntry p (atEntry p rel s))).motion
  obtain ⟨hbolt, -⟩ := boltOnEntry_actuators p (brakeOnEntry p (atEntry p rel s))
  rw [enterCorner_motion, hout, hbolt]
  unfold brakeOnEntry
  split
  · exact setRequest_output _
  · (repeat' split)
    · exact releaseRequest_output _
    · exact setRequest_output _
    · rfl
    · rfl

/-- The bolt at an entry is the bolt as the phase commands it (R72). -/
@[simp] theorem enterCorner_bolt : (enterCorner p rel s).motion.bolt = (boltOnEntry p s).motion.bolt := by
  obtain ⟨-, -, hbolt, -⟩ := homed_actuators p (boltOnEntry p (brakeOnEntry p (atEntry p rel s))).motion
  rw [enterCorner_motion, hbolt]
  exact boltOnEntry_bolt_congr p (s := s) (brakeOnEntry_bolt p _)
    (congrArg MotionUnit.pos (brakeOnEntry_unactuated p (atEntry p rel s)) : _)
    (brakeOnEntry_fixed p (atEntry p rel s))

/-- The brake output at an entry: set where the outputs are forced off, released for RELEASING and HOMING, and set in RAISED and
HELD with a hold time of 0 (R62, R79, R80, R82, R86, R90). -/
@[simp] theorem enterCorner_brakeOut : (enterCorner p rel s).motion.brake.out =
    if forcesOff p then false
    else if p = .releasing ∨ p = .homing then true
    else if (p = .raised ∨ p = .held) ∧ s.holdTime = 0 then false
    else s.motion.brake.out := by
  obtain ⟨-, hbrake, -⟩ := homed_actuators p (boltOnEntry p (brakeOnEntry p (atEntry p rel s))).motion
  obtain ⟨-, hbolt, -⟩ := boltOnEntry_actuators p (brakeOnEntry p (atEntry p rel s))
  have hsame : (atEntry p rel s).motion.brake = s.motion.brake := rfl
  have htime : (atEntry p rel s).holdTime = s.holdTime := rfl
  rw [enterCorner_motion, hbrake, hbolt]
  unfold brakeOnEntry
  rw [hsame, htime]
  by_cases hf : forcesOff p = true
  · simp [hf]
  · by_cases hr : p = .releasing ∨ p = .homing
    · simp [hf, hr]
    · by_cases hh : p = .raised ∨ p = .held
      · cases ho : s.motion.brake.out <;> by_cases ht : s.holdTime = 0 <;> simp [hf, hr, hh, ht, hsame, ho]
      · simp [hf, hr, hh, hsame]

/-- The hold timer at an entry: it starts in RAISED and HELD where the brake is released and the hold time is not 0, and stops
elsewhere (R82). -/
@[simp] theorem enterCorner_holdTimer : (enterCorner p rel s).motion.holdTimer =
    if (p = .raised ∨ p = .held) ∧ s.motion.brake.out = true ∧ s.holdTime ≠ 0 then some s.holdTime else none := by
  obtain ⟨-, -, -, hhold⟩ := homed_actuators p (boltOnEntry p (brakeOnEntry p (atEntry p rel s))).motion
  obtain ⟨-, -, hbolt⟩ := boltOnEntry_actuators p (brakeOnEntry p (atEntry p rel s))
  have hnone : (atEntry p rel s).motion.holdTimer = none := rfl
  have hsame : (atEntry p rel s).motion.brake = s.motion.brake := rfl
  have htime : (atEntry p rel s).holdTime = s.holdTime := rfl
  have hset : ∀ t : State, t.motion.holdTimer = none → (setRequest t).motion.holdTimer = none := by
    intro t ht
    unfold setRequest
    split
    · rfl
    · exact ht
  have hrelease : ∀ t : State, (releaseRequest t).motion.holdTimer = t.motion.holdTimer := by
    intro t
    unfold releaseRequest
    split <;> rfl
  rw [enterCorner_motion, hhold, hbolt]
  unfold brakeOnEntry
  rw [hsame, htime]
  by_cases hf : forcesOff p = true
  · have hp : ¬(p = .raised ∨ p = .held) := by rintro (rfl | rfl) <;> simp [forcesOff, seatedPhase] at hf
    simp [hf, hp, hset, hnone]
  · by_cases hr : p = .releasing ∨ p = .homing
    · have hp : ¬(p = .raised ∨ p = .held) := by rintro (rfl | rfl) <;> simp at hr
      simp [hf, hr, hp, hrelease, hnone]
    · by_cases hh : p = .raised ∨ p = .held
      · cases ho : s.motion.brake.out <;> by_cases ht : s.holdTime = 0 <;> simp [hf, hr, hh, ht, hset, hnone]
      · simp [hf, hr, hh, hnone]

end

end Sys2Proof.Machine
end

section
/-! PROOFS. The outputs of the arms stay exclusive through every operation of an approach (R117). -/

namespace Sys2Proof.Machine

/-- No arm asserts UP and DOWN together. -/
def ArmsExclusive (s : State) : Prop := ∀ i, ¬((s.arm i).up = true ∧ (s.arm i).down = true)

namespace ArmsExclusive

variable {s t : State}

theorem congr (h : ArmsExclusive s) (ha : t.closure.arms = s.closure.arms) : ArmsExclusive t := fun i => by
  have hi : t.arm i = s.arm i := by rw [State.arm, ha]; rfl
  rw [hi]
  exact h i

theorem of_aside (h : ArmsExclusive s) (ha : t.aside = s.aside) : ArmsExclusive t :=
  h.congr (congrArg (fun a => a.2.2.1.arms) ha)

/-- An arm acts, and its outputs follow: they are exclusive whatever they were. -/
theorem drive (h : ArmsExclusive s) {i : Fin 4} (hb : t.besideArm i = s.besideArm i) : ArmsExclusive (driveArm i t) := by
  intro j
  by_cases hj : j = i
  · subst hj
    exact (driveArm_safe j t).2.2.2
  · rw [arm_of_besideArm ((driveArm_besideArm i t).trans hb) hj]
    exact h j

/-- An operation of one arm that leaves its outputs. -/
theorem beside (h : ArmsExclusive s) {i : Fin 4} (hb : t.besideArm i = s.besideArm i)
    (ho : (t.arm i).up = (s.arm i).up ∧ (t.arm i).down = (s.arm i).down) : ArmsExclusive t := by
  intro j
  by_cases hj : j = i
  · subst hj
    rw [ho.1, ho.2]
    exact h j
  · rw [arm_of_besideArm hb hj]
    exact h j

theorem onArm (h : ArmsExclusive s) {i : Fin 4} {f : Arm → Arm}
    (hf : ∀ a, (f a).up = a.up ∧ (f a).down = a.down := by intro a; exact ⟨rfl, rfl⟩) : ArmsExclusive (s.onArm i f) :=
  h.beside (onArm_besideArm i s f) (by rw [State.arm_onArm]; exact hf _)

theorem onClosure (h : ArmsExclusive s) {f : ClosureUnit → ClosureUnit} (hf : (f s.closure).arms = s.closure.arms := by rfl) :
    ArmsExclusive (s.onClosure f) := h.congr hf

theorem enterArm (h : ArmsExclusive s) (i : Fin 4) (x : ArmState) (event : Nat) : ArmsExclusive (enterArm i x event s) :=
  h.beside (enterArm_besideArm i s x event) (enterArm_outputs i x event s)

/-- What each element of a list keeps, the fold does. -/
theorem foldl {g : State → Fin 4 → State} (hg : ∀ {t i}, ArmsExclusive t → ArmsExclusive (g t i)) {l : List (Fin 4)}
    (h : ArmsExclusive s) : ArmsExclusive (l.foldl g s) := List.foldlRecOn l g h fun _ ht _ _ => hg ht

theorem commandArm (h : ArmsExclusive s) (i : Fin 4) (c : ArmCommand) : ArmsExclusive (commandArm i c s) := by
  unfold Machine.commandArm
  dsimp only
  (repeat' split)
  · exact h
  · exact h.drive (by simp)
  · exact h.drive (by simp)
  · exact h.onArm.onArm
  · exact h.drive (by simp)
  · exact h.drive (by simp)
  · exact h.drive (by simp)
  · exact h.onArm.onArm
  · exact h.drive (by simp)
  · exact h.drive (by simp)
  · exact h.onArm

theorem commandArms (h : ArmsExclusive s) (which : Fin 4 → Bool) (c : ArmCommand) :
    ArmsExclusive (commandArms which c s) := by
  refine foldl (fun {t i} ht => ?_) h
  split
  · exact ht.commandArm i c
  · exact ht

theorem tripArm (h : ArmsExclusive s) (i : Fin 4) : ArmsExclusive (tripArm i s) := by
  unfold Machine.tripArm
  dsimp only
  split <;> exact h.drive (by simp)

theorem newClosure (h : ArmsExclusive s) : ArmsExclusive (newClosure s) := foldl (fun ht => ht.onArm) h

theorem deriveArms (h : ArmsExclusive s) : ArmsExclusive (deriveArms s) := by
  refine foldl (fun {t i} ht => ?_) h
  unfold deriveArm
  dsimp only
  split
  · exact ht.onArm.enterArm i _ _
  · exact ht.onArm.onArm

theorem approachActions (h : ArmsExclusive s) (p : ApproachPhase) : ArmsExclusive (approachActions p s) := by
  unfold Machine.approachActions
  split
  · exact h.commandArms _ _
  · exact h.onClosure
  · exact (h.of_aside (renewFailedReds_aside s)).onClosure
  · exact h.commandArms _ _
  · exact h.onClosure
  · exact h.commandArms _ _
  · exact h
  · exact h.commandArms _ _
  · exact h.commandArms _ _
  · exact foldl (fun ht => ht.tripArm _) h

theorem enterApproach (h : ArmsExclusive s) (p : ApproachPhase) (held : Option ApproachPhase) :
    ArmsExclusive (enterApproach p held s) := by
  obtain ⟨t, ht, ha, -⟩ := enterApproach_eq p held s
  have hc : t.closure = s.closure.entering p held := congrArg (·.2.2.1) ha
  rw [ht]
  exact (h.congr (by rw [hc]; rfl) : ArmsExclusive t).approachActions p

theorem setHold (h : ArmsExclusive s) : ArmsExclusive (setHold s) := by
  unfold Machine.setHold
  dsimp only
  split
  · exact h.onClosure.commandArms _ _
  · exact h.onClosure

theorem patternEvent (h : ArmsExclusive s) (i : Fin 4) (old : LimitPattern) : ArmsExclusive (patternEvent i old s) := by
  unfold Machine.patternEvent
  split
  case h_1 | h_2 | h_3 | h_4 | h_5 | h_6 | h_7 => exact h.drive (by simp)
  case h_8 | h_9 | h_10 | h_11 =>
    split
    · exact h.drive (by simp)
    · exact h
  case h_12 => exact h

theorem presenceEvent (h : ArmsExclusive s) (i : Fin 4) (active : Bool) : ArmsExclusive (presenceEvent i active s) := by
  unfold Machine.presenceEvent
  (repeat' split)
  · exact h.drive (by simp)
  · exact h
  · exact h.drive (by simp)

theorem gapExpiry (h : ArmsExclusive s) (i : Fin 4) : ArmsExclusive (gapExpiry i s) := by
  unfold Machine.gapExpiry
  split
  · exact h.drive (by simp)
  · exact h

theorem armTravelExpiry (h : ArmsExclusive s) (i : Fin 4) : ArmsExclusive (armTravelExpiry i s) := by
  unfold Machine.armTravelExpiry
  split
  · exact h.drive (by simp)
  · exact h

theorem retryExpiry (h : ArmsExclusive s) (i : Fin 4) : ArmsExclusive (retryExpiry i s) := by
  unfold Machine.retryExpiry
  split
  · exact h.drive (by simp)
  · exact h

theorem laneExpiry (h : ArmsExclusive s) (i : Fin 4) : ArmsExclusive (laneExpiry i s) := by
  unfold Machine.laneExpiry
  dsimp only
  split
  · exact (h.onArm (i := i) (f := fun a => { a with laneTimer := none })).congr (by simp [latch])
  · exact h

end ArmsExclusive

end Sys2Proof.Machine
end

section
/-! PROOFS. What the tests of the condition causes do to a corner, step by step: entries under their permissions, the brake, causes,
and the arrival at the seat (R67, R68, R73 to R77, R81, R84 to R92, R94). -/

namespace Sys2Proof.Machine

/-! ### Which phase may follow which -/

/-- The phases from UNLOCKED to the end of a movement, and RAISED: there the bolt is WITHDRAWN (R71, R74, R75, R77, R81). -/
def freesBolt (p : CornerPhase) : Bool :=
  p == .unlocked || p == .releasing || p == .raising || p == .raised || p == .lowering || p == .halting

/-- A corner in a phase may enter this one: it is not tripped, and its bolt is free where the phase asks for it. -/
structure MayEnter (s : State) (p : CornerPhase) : Prop where
  acts : s.motion.phase ≠ none
  untripped : s.motion.phase ≠ some .tripped
  notTripped : p ≠ .tripped
  bolt : freesBolt p = true → s.cornerIn freesBolt = true ∨ s.motion.bolt.state = .withdrawn

theorem mayEnter_of_phase {s : State} {q : CornerPhase} (p : CornerPhase) (hq : s.motion.phase = some q)
    (ht : q ≠ .tripped := by decide) (hp : p ≠ .tripped := by decide) (hb : freesBolt p = true → freesBolt q = true := by decide) :
    MayEnter s p :=
  ⟨by simp [hq], by simpa [hq] using ht, hp, fun h => .inl (by simpa [State.cornerIn, hq] using hb h)⟩

theorem mayEnter_of_withdrawn {s : State} {q : CornerPhase} (p : CornerPhase) (hq : s.motion.phase = some q)
    (hb : s.motion.bolt.state = .withdrawn) (ht : q ≠ .tripped := by decide) (hp : p ≠ .tripped := by decide) :
    MayEnter s p :=
  ⟨by simp [hq], by simpa [hq] using ht, hp, fun _ => .inr hb⟩

/-- The phases in which a corner stands locked, or on its way there, or tripped. -/
def restsLocked (p : CornerPhase) : Bool := p == .seated || p == .locking || p == .seatedLocked || p == .tripped

/-- What a condition cause asks of the phase it enters: movements under their permissions, and no way from the locked phases but
under a demand of RAISE (R73 to R77, R84 to R89). -/
structure Enters (s : State) (p : CornerPhase) : Prop extends MayEnter s p where
  notHoming : p ≠ .homing
  notRaised : p ≠ .raised
  raising : p = .raising → s.raisingPermission = true
  lowering : p = .lowering → s.loweringPermission = true ∧ s.cornerIn restsLocked = false
  locked : s.cornerIn restsLocked = true → restsLocked p = true ∨ s.demandView = .raise

/-- A phase that no permission of a movement guards is entered from another than the locked ones. -/
theorem enters_of_phase {s : State} {q : CornerPhase} (p : CornerPhase) (hq : s.motion.phase = some q) (hm : MayEnter s p)
    (hp : p ∉ [.homing, .raised, .raising, .lowering] := by decide)
    (hl : restsLocked q = true → restsLocked p = true ∨ s.demandView = .raise := by exact fun h => absurd h (by decide)) :
    Enters s p := by
  simp only [List.mem_cons, List.not_mem_nil, or_false, not_or] at hp
  obtain ⟨hhoming, hraised, hraising, hlowering⟩ := hp
  exact { hm with
    notHoming := hhoming
    notRaised := hraised
    raising := fun h => absurd h hraising
    lowering := fun h => absurd h hlowering
    locked := fun h => hl (by simpa [State.cornerIn, hq] using h) }

/-! ### Operations that enter no phase -/

/-- The Motion Unit without what a corner notes beside its motion: goal, left-behind flag and skew. -/
def MotionUnit.besideNotes (m : MotionUnit) : MotionUnit := { m with goal := 0, leftBehind := false, skew := none }

/-- From `s` to `t` a corner notes its goal or skew, or sets its left-behind flag, which it clears without a demand of RAISE
alone (R59, R78, R85). -/
structure Notes (s t : State) : Prop where
  fixed : t.fixed = s.fixed
  beside : t.besideMotion = s.besideMotion
  motion : t.motion.besideNotes = s.motion.besideNotes
  left : s.motion.leftBehind = true → s.demandView = .raise → t.motion.leftBehind = true

namespace Notes

variable {s t : State}

theorem refl (s : State) : Notes s s := ⟨rfl, rfl, rfl, fun h _ => h⟩

/-- A field that no note touches. -/
theorem field {α : Type} (h : Notes s t) (f : MotionUnit → α) (hf : ∀ m, f m.besideNotes = f m := by intro m; rfl) :
    f t.motion = f s.motion := by
  rw [← hf, h.motion, hf]

theorem captureGoal (s : State) : Notes s (captureGoal s) := ⟨rfl, rfl, rfl, fun h _ => h⟩
theorem skewTested (s : State) : Notes s (s.onMotion fun m => { m with skew := some s.skewNow }) := ⟨rfl, rfl, rfl, fun h _ => h⟩
theorem latch (c : Condition) (s : State) : Notes s (latch c s) := ⟨rfl, rfl, rfl, fun h _ => h⟩

theorem leftBehind (s : State) :
    Notes s ((Machine.latch .leftBehind s).onMotion fun m => { m with leftBehind := true }) := ⟨rfl, rfl, rfl, fun _ _ => rfl⟩

theorem clearLeftBehind (s : State) : Notes s (clearLeftBehind s) := by
  unfold Machine.clearLeftBehind
  split
  · exact ⟨rfl, rfl, rfl, fun _ h => absurd h ‹_›⟩
  · exact refl s

end Notes

/-! ### Runs of these operations -/

/-- A run of what the tests of a corner do, where `E` says of a state which phases are entered from it. -/
inductive EntryRun (E : State → CornerPhase → Prop) (s : State) : State → Prop where
  | refl : EntryRun E s s
  | notes {t u : State} (h : EntryRun E s t) (hn : Notes t u) : EntryRun E s u
  | setBrake {t : State} (h : EntryRun E s t) : EntryRun E s (setRequest t)
  | enter {t u : State} (h : EntryRun E s t) (p : CornerPhase) (rel : Intent) (he : E t p) (hn : Notes t u) :
      EntryRun E s (enterCorner p rel u)
  | cause {t : State} (h : EntryRun E s t) (c : Cause) : EntryRun E s (submitCause c t)
  | mismatch {t : State} (h : EntryRun E s t) : EntryRun E s (submitCause .seatMismatch (formPosition t))
  | arrive {t x : State} (h : EntryRun E s t) (he : E x .lowering) (hf : t.fixed = x.fixed)
      (hp : t.motion.phase = some .lowering) (hs : t.seat = true)
      (hn : ((formPosition t).motion.pos.natAbs : Int) ≤ (formPosition t).seatTolerance) :
      EntryRun E s (arriveAtSeat (formPosition t))
  | home {t x : State} (h : EntryRun E s t) (he : E x .homing) (hp : t.motion.phase = some .homing) :
      EntryRun E s (completeHoming t)

theorem phase_of_cornerIs {s : State} {p : CornerPhase} (h : s.cornerIs p = true) : s.motion.phase = some p := by
  simpa [State.cornerIs] using h

/-- A cause leaves the phase, or trips the corner. -/
theorem submitCause_phase (c : Cause) (s : State) :
    (submitCause c s).motion.phase = s.motion.phase ∨ (submitCause c s).motion.phase = some .tripped := by
  have ofAside : ∀ {t : State} {trip : TripUnit}, t.aside = (trip, s.motion, s.closure, s.channel, s.desk) → t.motion = s.motion :=
    fun h => congrArg (·.2.1) h
  rcases submitCause_cases c s with ⟨-, h⟩ | ⟨-, -, trip, -, ha, -⟩ | ⟨-, -, t, ht, ha, -⟩
  · rw [h]
    exact .inl rfl
  · exact .inl (by rw [ofAside ha])
  · have hm := ofAside ha
    rw [ht, enterTripped]
    split
    · exact .inr (enterCorner_phase _ _ _)
    · exact .inl (by rw [enterApproach_motion, hm])
    · have hc := enterChannel_aside .tripped t
      simp only [State.aside, Prod.mk.injEq] at hc
      exact .inl (by rw [hc.2.1, hm])
    · have hd := (deskIndicators_aside (enterDesk .tripped .halt t)).trans (enterDesk_aside _ _ t)
      simp only [State.aside, Prod.mk.injEq] at hd
      exact .inl (by rw [hd.2.1, hm])

/-- A phase that is no movement and not HOMING is entered, and no more. -/
theorem toCorner_at_rest {p : CornerPhase} (rel : Intent) (s : State) (hm : movingPhase p = false := by rfl)
    (hh : p ≠ .homing := by decide) : toCorner p rel s = enterCorner p rel s := by
  simp [toCorner, hm, hh]

namespace EntryRun

variable {E F : State → CornerPhase → Prop} {s t u : State}

theorem trans (h : EntryRun E s t) (k : EntryRun E t u) : EntryRun E s u := by
  induction k with
  | refl => exact h
  | notes _ hn ih => exact ih.notes hn
  | setBrake _ ih => exact ih.setBrake
  | enter _ p rel he hn ih => exact ih.enter p rel he hn
  | cause _ c ih => exact ih.cause c
  | mismatch _ ih => exact ih.mismatch
  | arrive _ he hf hp hs hn ih => exact ih.arrive he hf hp hs hn
  | home _ he hp ih => exact ih.home he hp

theorem mono (hE : ∀ t p, E t p → F t p) (h : EntryRun E s t) : EntryRun F s t := by
  induction h with
  | refl => exact .refl
  | notes _ hn ih => exact ih.notes hn
  | setBrake _ ih => exact ih.setBrake
  | enter _ p rel he hn ih => exact ih.enter p rel (hE _ _ he) hn
  | cause _ c ih => exact ih.cause c
  | mismatch _ ih => exact ih.mismatch
  | arrive _ he hf hp hs hn ih => exact ih.arrive (hE _ _ he) hf hp hs hn
  | home _ he hp ih => exact ih.home (hE _ _ he) hp

theorem submitIf (h : EntryRun E s t) (b : Bool) (c : Cause) : EntryRun E s (submitIf b c t) := by
  unfold Machine.submitIf
  split
  · exact h.cause c
  · exact h

/-- Behind a test that may submit a cause the phase is the same, or TRIPPED. -/
theorem submitIf_phase {p : CornerPhase} (b : Bool) (c : Cause)
    (h : t.motion.phase = some p ∨ t.motion.phase = some .tripped) :
    (Machine.submitIf b c t).motion.phase = some p ∨ (Machine.submitIf b c t).motion.phase = some .tripped := by
  unfold Machine.submitIf
  split
  · rcases submitCause_phase c t with hc | hc
    · rwa [hc]
    · exact .inr hc
  · exact h

/-- A transition: the entry, and the tests that entering a movement or HOMING makes (R47, R59, R92, R94). -/
theorem toCorner (h : EntryRun E s t) (hn : Notes t u) {p : CornerPhase} (rel : Intent) (he : E t p) :
    EntryRun E s (toCorner p rel u) := by
  unfold Machine.toCorner
  extract_lets s1 s2 s3
  have h1 : EntryRun E s s1 := h.enter p rel he hn
  have hp1 : s1.motion.phase = some p := enterCorner_phase _ _ _
  have hf1 : s1.fixed = t.fixed := (enterCorner_fixed p rel u).trans hn.fixed
  clear_value s1
  split
  · have h2 : EntryRun E s s2 ∧ s2.fixed = t.fixed ∧ (s2.motion.phase = some p ∨ s2.motion.phase = some .tripped) := by
      dsimp only [s2]
      split
      · exact ⟨h1, hf1, .inl hp1⟩
      · exact ⟨(h1.notes (Notes.skewTested s1)).submitIf _ _, by rw [skewTest_fixed, hf1], submitIf_phase _ _ (.inl hp1)⟩
    obtain ⟨h2, hf2, hp2⟩ := h2
    have h3 : EntryRun E s s3 := (h2.submitIf _ _).submitIf _ _
    have hf3 : s3.fixed = t.fixed := by
      show (silentTest (sympathyTest s2)).fixed = _
      rw [silentTest_fixed, sympathyTest_fixed, hf2]
    have hp3 : s3.motion.phase = some p ∨ s3.motion.phase = some .tripped := submitIf_phase _ _ (submitIf_phase _ _ hp2)
    clear_value s3
    split
    · rename_i hl
      obtain ⟨hl, hs⟩ := Bool.and_eq_true_iff.mp hl
      have hlow := phase_of_cornerIs hl
      have hpl : p = .lowering := by
        rcases hp3 with hp3 | hp3
        · exact Option.some.inj (hp3.symm.trans hlow)
        · cases hp3.symm.trans hlow
      unfold seatCapture
      dsimp only
      split
      · exact h3.arrive (hpl ▸ he) hf3 hlow hs ‹_›
      · exact h3.mismatch
    · exact h3
  · split
    · rename_i hh
      exact h1.home (hh.1 ▸ he) (by rw [hp1, hh.1])
    · exact h1

/-- RELEASING is abandoned for SEATED or HELD (R81). -/
theorem abandonRelease (hq : s.motion.phase = some .releasing) : EntryRun Enters s (abandonRelease s) := by
  have hs : (Machine.setRequest s).motion.phase = some .releasing := by rw [setRequest_phase, hq]
  unfold Machine.abandonRelease
  dsimp only
  split
  · exact (EntryRun.refl.setBrake).toCorner (.refl _) _ (enters_of_phase _ hs (mayEnter_of_phase _ hs))
  · exact (EntryRun.refl.setBrake).toCorner (.refl _) _ (enters_of_phase _ hs (mayEnter_of_phase _ hs))

theorem haltLeftBehind {q : CornerPhase} (hq : s.motion.phase = some q) (hm : MayEnter s .halting)
    (hl : restsLocked q = true → restsLocked .halting = true ∨ s.demandView = .raise := by
      exact fun h => absurd h (by decide)) : EntryRun Enters s (haltLeftBehind s) :=
  EntryRun.refl.toCorner (.leftBehind s) _ (enters_of_phase .halting hq hm (hl := hl))

theorem failHoming (hq : s.motion.phase = some .homing) : EntryRun Enters s (failHoming s) :=
  EntryRun.refl.toCorner (.latch _ s) _ (enters_of_phase .unreferenced hq (mayEnter_of_phase _ hq))

theorem withdrawn_of_lowering (h : s.loweringPermission = true) : s.motion.bolt.state = .withdrawn := by
  simp only [State.loweringPermission, Bool.and_eq_true, beq_iff_eq] at h
  exact h.1.2

theorem withdrawn_of_raising (h : s.raisingPermission = true) : s.motion.bolt.state = .withdrawn := by
  simp only [State.raisingPermission, Bool.and_eq_true, beq_iff_eq] at h
  exact h.1.2

/-- RAISED and HELD are left for lowering under the permission (R86). -/
theorem toLowering {q : CornerPhase} (hq : s.motion.phase = some q) (ht : q ≠ .tripped) (hl : restsLocked q = false)
    (hperm : s.loweringPermission = true) : EntryRun Enters s (toLowering s) := by
  have hb := withdrawn_of_lowering hperm
  have hn : s.cornerIn restsLocked = false := by simpa [State.cornerIn, hq] using hl
  unfold Machine.toLowering
  split
  · exact EntryRun.refl.toCorner (.refl _) _
      { mayEnter_of_withdrawn .lowering hq hb ht with
        notHoming := by decide, notRaised := by decide, raising := nofun
        lowering := fun _ => ⟨hperm, hn⟩
        locked := by simp [hn] }
  · exact EntryRun.refl.toCorner (.refl _) _
      (enters_of_phase .releasing hq (mayEnter_of_withdrawn _ hq hb ht) (hl := by simp [hl]))

/-- HELD is left for raising under the permission (R75, R89). -/
theorem toRaising {q : CornerPhase} (hq : s.motion.phase = some q) (ht : q ≠ .tripped) (hl : restsLocked q = false)
    (hperm : s.raisingPermission = true) : EntryRun Enters s (toRaising s) := by
  have hb := withdrawn_of_raising hperm
  have hn : s.cornerIn restsLocked = false := by simpa [State.cornerIn, hq] using hl
  unfold Machine.toRaising
  dsimp only
  split
  · exact EntryRun.refl.toCorner (.captureGoal s) _
      { mayEnter_of_withdrawn .raising hq hb ht with
        notHoming := by decide, notRaised := by decide
        raising := fun _ => hperm
        lowering := nofun
        locked := by simp [hn] }
  · exact EntryRun.refl.toCorner (.captureGoal s) _
      (enters_of_phase .releasing hq (mayEnter_of_withdrawn _ hq hb ht) (hl := by simp [hl]))

theorem raise_of_unlock (h : s.unlockPermission = true) : s.demandView = .raise := by
  simp only [State.unlockPermission, Bool.and_eq_true, beq_iff_eq] at h
  exact h.1.1.1.1

/-- Every condition cause enters under its permission (R73 to R77, R81, R84 to R91). -/
theorem cornerCondition {t : State} (hc : cornerCondition s = some t) : EntryRun Enters s t := by
  have step : ∀ {p q : CornerPhase}, s.motion.phase = some q → Enters s p → EntryRun Enters s (Machine.toCorner p .none s) :=
    fun _ he => EntryRun.refl.toCorner (.refl s) .none he
  unfold Machine.cornerCondition at hc
  split at hc
  case h_1 => cases hc
  case h_2 hp =>
    split at hc
    · exact of_some_eq hc (step hp (enters_of_phase .locking hp (mayEnter_of_phase _ hp) (hl := fun _ => .inl rfl)))
    · rename_i hr
      have hr : s.demandView = .raise := by simpa using hr
      split at hc
      · split at hc
        · exact of_some_eq hc
            (step hp (enters_of_phase .unlocked hp (mayEnter_of_withdrawn _ hp ‹_›) (hl := fun _ => .inr hr)))
        · exact of_some_eq hc (step hp (enters_of_phase .unlocking hp (mayEnter_of_phase _ hp) (hl := fun _ => .inr hr)))
      · cases hc
  case h_3 hp =>
    split at hc
    · exact of_some_eq hc (step hp (enters_of_phase .seatedLocked hp (mayEnter_of_phase _ hp) (hl := fun _ => .inl rfl)))
    · cases hc
  case h_4 hp =>
    split at hc
    · rename_i hu
      exact of_some_eq hc
        (step hp (enters_of_phase .unlocking hp (mayEnter_of_phase _ hp) (hl := fun _ => .inr (raise_of_unlock hu))))
    · cases hc
  case h_5 hp =>
    split at hc
    · exact of_some_eq hc (step hp (enters_of_phase .locking hp (mayEnter_of_phase _ hp)))
    · split at hc
      · exact of_some_eq hc (step hp (enters_of_phase .unlocked hp (mayEnter_of_withdrawn _ hp ‹_›)))
      · cases hc
  case h_6 hp =>
    split at hc
    · exact of_some_eq hc (step hp (enters_of_phase .locking hp (mayEnter_of_phase _ hp)))
    · split at hc
      · exact of_some_eq hc
          (EntryRun.refl.toCorner (.captureGoal s) _ (enters_of_phase .releasing hp (mayEnter_of_phase _ hp)))
      · cases hc
  case h_7 hp =>
    split at hc
    · split at hc
      · exact of_some_eq hc (abandonRelease hp)
      · split at hc
        · exact of_some_eq hc (haltLeftBehind hp (mayEnter_of_phase _ hp))
        · cases hc
    · split at hc
      · exact of_some_eq hc (abandonRelease hp)
      · cases hc
  case h_8 hp =>
    split at hc
    · exact of_some_eq hc (step hp (enters_of_phase .halting hp (mayEnter_of_phase _ hp)))
    · split at hc
      · exact of_some_eq hc (haltLeftBehind hp (mayEnter_of_phase _ hp))
      · cases hc
  case h_9 hp =>
    split at hc
    · exact of_some_eq hc (toLowering hp (by decide) rfl ‹_›)
    · cases hc
  case h_10 hp =>
    split at hc
    · exact of_some_eq hc (step hp (enters_of_phase .halting hp (mayEnter_of_phase _ hp)))
    · cases hc
  case h_11 => cases hc
  case h_12 hp =>
    split at hc
    · exact of_some_eq hc (toLowering hp (by decide) rfl ‹_›)
    · split at hc
      · exact of_some_eq hc (toRaising hp (by decide) rfl ‹_›)
      · cases hc
  case h_13 hp =>
    split at hc
    · exact of_some_eq hc (failHoming hp)
    · cases hc
  case h_14 => cases hc
  case h_15 => cases hc

theorem settle (n : Nat) : ∀ {t}, EntryRun Enters s t → EntryRun Enters s (cornerSettle n t) := by
  induction n with
  | zero => exact fun h => h
  | succ n ih =>
    intro t h
    unfold cornerSettle
    split
    · exact h
    · rename_i u hu
      exact ih (h.trans (cornerCondition hu))

/-- The corner's tests of its condition causes are a run of entries under their permissions (R68). -/
theorem cornerReact (s : State) : EntryRun Enters s (cornerReact s) :=
  settle 16 (EntryRun.refl.notes (.clearLeftBehind s))

end EntryRun

end Sys2Proof.Machine
end

section
/-! PROOFS. Which operations of a corner write its outputs, its brake and its bolt: a predicate over these that a few operations
keep is kept by every operation of the corner. -/

namespace Sys2Proof.Machine

/-! ### What a few operations keep -/

/-- What stands still beside an operation that neither drives nor brakes nor bolts: mode, role, phase, output stage, bolt and
brake output. -/
def State.drive (s : State) :=
  (s.running, s.role, s.motion.phase, (s.motion.output.vOut, s.motion.output.up, s.motion.output.down),
    (s.motion.bolt.state, s.motion.bolt.driveOut, s.motion.bolt.withdrawOut), s.motion.brake.out)

/-- From `s` to `t` neither drive, brake and bolt nor the trip flag change, and no arm comes to assert both its outputs. -/
structure StandsStill (s t : State) : Prop where
  drive : t.drive = s.drive
  flag : t.trip.flag = s.trip.flag
  arms : ArmsExclusive s → ArmsExclusive t

/-- Drive and withdraw of the bolt exclude each other, and a driving bolt does not withdraw (R70). -/
def Bolt.Exclusive (b : Bolt) : Prop :=
  ¬(b.driveOut = true ∧ b.withdrawOut = true) ∧ (b.state = .driving → b.withdrawOut = false)

/-- A predicate over drive, brake, bolt and arms that these operations keep. -/
structure KeptByDrive (P : State → Prop) : Prop where
  still : ∀ s t, StandsStill s t → P s → P t
  enter : ∀ s p rel, MayEnter s p → P s → P (enterCorner p rel s)
  cause : ∀ s c, P s → P (submitCause c s)
  output : ∀ s v, (s.cornerIn forcesOff = true → v = 0) → P s → P (applyOutput v s)
  setBrake : ∀ s, P s → P (setRequest s)
  testBolt : ∀ s, P s → P (testDriveCondition s)
  restBolt : ∀ s b, b = .withdrawn ∨ s.motion.bolt.state ≠ .withdrawn → P s → P (restBolt b s)
  faultBolt : ∀ s, P s → P (faultBolt s)
  clear : ∀ s t, s.trip.flag = true → t.drive = s.drive → t.trip.flag = false → (ArmsExclusive s → ArmsExclusive t) →
    P s → if s.role = .corner then ∀ p, p ≠ .tripped → freesBolt p = false → P (enterCorner p .none t) else P t
  start : ∀ s t, s.running = false → t.running = true → t.trip.flag = s.trip.flag → (ArmsExclusive s → ArmsExclusive t) →
    P s → if t.role = .corner then
        t.motion.output = s.motion.output → t.motion.bolt.Exclusive →
          ∀ p, p ≠ .tripped → freesBolt p = false → P (enterCorner p .none t)
      else t.motion = s.motion → P t

namespace KeptByDrive

variable {P : State → Prop} (k : KeptByDrive P) {s : State}
include k

theorem onMotion {f : MotionUnit → MotionUnit} (h : P s) (hd : (s.onMotion f).drive = s.drive := by rfl) :
    P (s.onMotion f) := k.still s _ ⟨hd, rfl, id⟩ h

theorem latch {c : Condition} (h : P s) : P (latch c s) := k.still s _ ⟨rfl, rfl, id⟩ h

theorem submitIf {b : Bool} {c : Cause} (h : P s) : P (submitIf b c s) := by
  unfold Machine.submitIf
  split
  · exact k.cause s c h
  · exact h

theorem formPosition (h : P s) : P (formPosition s) := k.onMotion h
theorem setPosition (h : P s) : P (setPosition s) := k.onMotion h
theorem zeroCount (h : P s) : P (zeroCount s) := k.onMotion h
theorem setReferenced {r : Bool} (h : P s) : P (setReferenced r s) := k.onMotion h
theorem storeProfile {p : Profile} (h : P s) : P (storeProfile p s) := k.still s _ ⟨rfl, rfl, id⟩ h

theorem completeHoming (hp : s.motion.phase = some .homing) (h : P s) : P (completeHoming s) :=
  k.enter _ .seated .none (mayEnter_of_phase (q := .homing) .seated hp)
    (k.setPosition (k.setReferenced (k.zeroCount h)))

theorem arriveAtSeat (hp : s.motion.phase = some .lowering) (h : P s) : P (arriveAtSeat s) :=
  k.enter _ .seated .none (mayEnter_of_phase (q := .lowering) .seated hp) (k.setPosition (k.zeroCount h))

theorem seatCapture (hp : s.motion.phase = some .lowering) (h : P s) : P (seatCapture s) := by
  unfold Machine.seatCapture
  dsimp only
  split
  · exact k.arriveAtSeat (s := Machine.formPosition s) hp (k.formPosition h)
  · exact k.cause _ _ (k.formPosition h)

omit k in
theorem standsStill_of_notes {s t : State} (hn : Notes s t) : StandsStill s t := by
  have hb := hn.beside
  simp only [State.besideMotion, Prod.mk.injEq] at hb
  obtain ⟨htrip, hclosure, -⟩ := hb
  refine ⟨?_, by rw [htrip], fun h => h.congr (by rw [hclosure])⟩
  simp only [State.drive, running_of_fixed hn.fixed, role_of_fixed hn.fixed, hn.field (·.phase), hn.field (·.output),
    hn.field (·.bolt), hn.field (·.brake)]

/-- What these operations keep, every run of the corner's tests does. -/
theorem run {t : State} (hr : EntryRun MayEnter s t) (h : P s) : P t := by
  induction hr with
  | refl => exact h
  | notes _ hn ih => exact k.still _ _ (standsStill_of_notes hn) ih
  | setBrake _ ih => exact k.setBrake _ ih
  | enter _ p rel he hn ih =>
    refine k.enter _ p rel ⟨?_, ?_, he.notTripped, fun hb => ?_⟩ (k.still _ _ (standsStill_of_notes hn) ih)
    · rw [hn.field (·.phase)]
      exact he.acts
    · rw [hn.field (·.phase)]
      exact he.untripped
    · rw [State.cornerIn, hn.field (·.phase), hn.field (·.bolt)]
      exact he.bolt hb
  | cause _ c ih => exact k.cause _ c ih
  | mismatch _ ih => exact k.cause _ _ (k.formPosition ih)
  | arrive _ _ _ hp _ _ ih => exact k.arriveAtSeat hp (k.formPosition ih)
  | home _ _ hp ih => exact k.completeHoming hp ih

theorem toCorner {p : CornerPhase} {rel : Intent} (hp : MayEnter s p) (h : P s) : P (toCorner p rel s) :=
  k.run (EntryRun.refl.toCorner (.refl s) rel hp) h

theorem failHoming (hq : s.motion.phase = some .homing) (h : P s) : P (failHoming s) :=
  k.toCorner (mayEnter_of_phase (q := .homing) .unreferenced hq) (k.latch h)

theorem cornerReact (h : P s) : P (cornerReact s) := k.run ((EntryRun.cornerReact s).mono fun _ _ he => he.toMayEnter) h

theorem skewTest (h : P s) : P (skewTest s) := k.submitIf (k.onMotion h)
theorem sympathyTest (h : P s) : P (sympathyTest s) := k.submitIf h
theorem silentTest (h : P s) : P (silentTest s) := k.submitIf h

theorem reactIfMoved {before : State} (h : P s) : P (reactIfMoved before s) := by
  unfold Machine.reactIfMoved
  split
  · exact k.cornerReact h
  · exact h

/-! ### Events of inputs and timers -/

theorem seatEvent {active : Bool} (h : P s) : P (seatEvent active s) := by
  unfold Machine.seatEvent
  extract_lets s1 s2
  have h1 : P s1 := k.formPosition h
  have h2 : P s2 := by
    dsimp only [s2]
    (repeat' split)
    · exact k.seatCapture (phase_of_cornerIs ‹_›) h1
    · exact k.completeHoming (phase_of_cornerIs ‹_›) h1
    · exact h1
    · exact h1
  exact k.reactIfMoved (k.testBolt _ h2)

/-- A bolt that rests leaves DRIVING or WITHDRAWING. -/
theorem boltEvent (h : P s) : P (boltEvent s) := by
  refine k.reactIfMoved ?_
  split
  case h_1 | h_2 | h_3 | h_4 | h_5 => exact k.faultBolt s h
  case h_6 hb _ => exact k.restBolt s _ (.inr (by simp [hb])) h
  case h_7 => exact k.restBolt s _ (.inl rfl) h
  case h_8 => exact h

theorem brakeExpiry (h : P s) : P (brakeExpiry s) := by
  unfold Machine.brakeExpiry
  split
  · extract_lets s1
    have h1 : P s1 := k.onMotion h
    split
    · rename_i hr
      have hp : s1.motion.phase = some .releasing := phase_of_cornerIs hr
      have hset : (setRequest s1).motion.phase = some .releasing := by rw [setRequest_phase, hp]
      (repeat' split)
      · exact k.cause _ _ h1
      · exact k.cornerReact (k.toCorner (mayEnter_of_phase _ hp) h1)
      · exact k.cornerReact (k.toCorner (mayEnter_of_phase _ hp) h1)
      · exact k.cornerReact (k.toCorner (mayEnter_of_phase _ hset) (k.setBrake _ h1))
    · split
      · exact k.submitIf h1
      · exact h1
  · exact h

theorem setCheckExpiry (h : P s) : P (setCheckExpiry s) := by
  unfold Machine.setCheckExpiry
  split
  · exact k.submitIf (k.onMotion h)
  · exact h

theorem holdExpiry (h : P s) : P (holdExpiry s) := by
  unfold Machine.holdExpiry
  split
  · exact k.setBrake _ (k.onMotion h)
  · exact h

theorem boltTimeout (h : P s) : P (boltTimeout s) := by
  unfold Machine.boltTimeout
  split
  · exact k.faultBolt s h
  · exact h

theorem stallExpiry (h : P s) : P (stallExpiry s) := by
  unfold Machine.stallExpiry
  split
  · exact k.cause _ _ (k.onMotion h)
  · exact h

theorem deadExpiry (h : P s) : P (deadExpiry s) := by
  unfold Machine.deadExpiry
  split
  · exact k.onMotion h
  · exact h

theorem encoderSample {a b : Bool} (h : P s) : P (encoderSample a b s) := by
  unfold Machine.encoderSample
  extract_lets e s1
  have h1 : P s1 := k.onMotion h
  (repeat' split)
  · exact k.onMotion h1
  · exact k.cause _ _ h1
  · exact k.setPosition (k.setReferenced h1)
  · exact h1

theorem deliverCorner {i : Fin 25} {active : Bool} (h : P s) : P (deliverCorner i active s) := by
  unfold Machine.deliverCorner
  split
  · exact k.seatEvent h
  · exact k.boltEvent h
  · exact k.boltEvent h
  · exact k.submitIf h
  · exact k.submitIf h
  · exact k.cornerReact h
  · exact h

/-! ### The control period -/

theorem supervise (h : P s) : P (supervise s) := by
  unfold Machine.supervise
  extract_lets travel s1 s2 s3 s4
  have h1 : P s1 := k.onMotion (k.formPosition h)
  have h4 : P s4 := k.submitIf (k.submitIf (k.submitIf h1))
  split
  · exact k.skewTest h4
  · exact h4

theorem profileWork (h : P s) : P (profileWork s) := by
  unfold Machine.profileWork
  split
  case h_1 hp =>
    extract_lets g r s1
    have h1 : P s1 := k.storeProfile (k.onMotion h)
    split
    · exact k.cornerReact (k.toCorner (mayEnter_of_phase (q := .raising) .raised hp) h1)
    · exact h1
  case h_2 => exact k.storeProfile h
  case h_3 hp =>
    extract_lets v s1
    have h1 : P s1 := k.storeProfile h
    split
    · exact k.cornerReact (k.toCorner (mayEnter_of_phase (q := .halting) .held hp) h1)
    · exact h1
  case h_4 hp =>
    split
    · exact k.failHoming hp h
    · exact k.storeProfile h
  case h_5 => exact h

/-- Where the outputs are forced off, an expiry of the control period keeps V_OUT at 0 (R62). -/
theorem outputWork (h : P s) : P (outputWork s) := by
  have moving : s.cornerIs .raising || s.cornerIs .lowering || s.cornerIs .halting → s.cornerIn forcesOff ≠ true := by
    intro hm
    simp only [State.cornerIs, Bool.or_eq_true, beq_iff_eq] at hm
    rcases hm with (hp | hp) | hp <;> simp [State.cornerIn, hp, forcesOff, seatedPhase]
  have homing : s.cornerIs .homing = true → s.cornerIn forcesOff ≠ true := by
    intro hp
    simp [State.cornerIn, phase_of_cornerIs hp, forcesOff, seatedPhase]
  unfold Machine.outputWork
  extract_lets v
  (repeat' split)
  · exact k.output _ _ (fun hf => absurd hf (moving ‹_›)) (k.onMotion h)
  · exact k.output _ _ (fun hf => absurd hf (homing ‹_›)) (k.onMotion h)
  · exact k.output _ _ (fun _ => rfl) (k.onMotion h)

theorem stallWork (h : P s) : P (stallWork s) := by
  unfold Machine.stallWork
  dsimp only
  (repeat' split)
  · exact k.onMotion h
  · exact h
  · exact h

theorem controlWork (h : P s) : P (controlWork s) := by
  unfold Machine.controlWork
  extract_lets s1 s2 s3
  have h2 : P s2 := k.cornerReact (k.testBolt _ (k.supervise h))
  have h3 : P s3 := k.stallWork (k.outputWork (k.profileWork h2))
  clear_value s3
  exact k.onMotion (k.setPosition h3)

end KeptByDrive

end Sys2Proof.Machine
end

section
/-! PROOFS. Every command keeps what the operations of `KeptByDrive` keep: at another role than CORNER nothing writes drive, brake
and bolt (O5, O7). -/

namespace Sys2Proof.Machine

/-! ### Operations that leave the Motion Unit -/

theorem standsStill_of_motion {s t : State} (hm : t.motion = s.motion) (htrip : t.trip = s.trip)
    (hf : t.fixed.frame = s.fixed.frame) (ha : ArmsExclusive s → ArmsExclusive t) : StandsStill s t :=
  ⟨by simp only [State.drive, hm, running_of_frame hf, role_of_frame hf], by rw [htrip], ha⟩

theorem standsStill_of_aside {s t : State} (ha : t.aside = s.aside) (hf : t.fixed.frame = s.fixed.frame) : StandsStill s t :=
  standsStill_of_motion (congrArg (·.2.1) ha) (trip_of_aside ha) hf fun h => h.of_aside ha

section
variable {s : State} {x : TripUnit × MotionUnit × ClosureUnit × ChannelUnit × DeskUnit}

theorem motion_of_aside (h : s.aside = x) : s.motion = x.2.1 := by
  rw [← h]
  rfl

theorem closure_of_aside (h : s.aside = x) : s.closure = x.2.2.1 := by
  rw [← h]
  rfl

end

theorem motion_of_besideArms {s t : State} (h : t.besideArms = s.besideArms) : t.motion = s.motion := congrArg (·.2.1) h

/-- An operation of one arm leaves the Motion Unit. -/
theorem standsStill_of_arm {s t : State} (i : Fin 4) (hb : t.besideArm i = s.besideArm i) (hf : t.fixed = s.fixed)
    (ha : ArmsExclusive s → ArmsExclusive t) : StandsStill s t :=
  standsStill_of_motion (motion_of_besideArms (besideArms_of_besideArm hb)) (trip_of_besideArm hb) (frame_of_fixed hf) ha

theorem setHold_motion (s : State) : (setHold s).motion = s.motion := by
  unfold setHold
  dsimp only
  split
  · exact (motion_of_besideArms (commandArms_besideArms _ _ _)).trans rfl
  · rfl

/-! ### What RUN derives at a corner -/

theorem cornerAtRun_fixed (s : State) : (CornerRun.cornerAtRun s).fixed = s.fixed := by simp [CornerRun.cornerAtRun]

theorem cornerAtRun_beside (s : State) :
    (CornerRun.cornerAtRun s).trip = s.trip ∧ (CornerRun.cornerAtRun s).closure = s.closure := by
  have hb := cornerAtRun_besideMotion s
  simp only [State.besideMotion, Prod.mk.injEq] at hb
  exact ⟨hb.1, hb.2.1⟩

theorem referenceAtRun_output (s : State) : (referenceAtRun s).motion.output = s.motion.output := by
  unfold referenceAtRun
  dsimp only
  split <;> rfl

/-- RUN leaves the output stage, and derives a bolt of which at most one output is on (R70). -/
theorem cornerAtRun_drive (s : State) : (CornerRun.cornerAtRun s).motion.output = s.motion.output ∧
    (CornerRun.cornerAtRun s).motion.bolt.Exclusive := by
  unfold CornerRun.cornerAtRun deriveBolt
  rw [← referenceAtRun_output s]
  split <;> exact ⟨rfl, by simp [Bolt.Exclusive, restBolt, startWithdrawing, State.onBolt]⟩

namespace KeptByDrive

variable {P : State → Prop} (k : KeptByDrive P) {s : State}
include k

theorem aside {t : State} (ha : t.aside = s.aside) (hf : t.fixed.frame = s.fixed.frame) (h : P s) : P t :=
  k.still s t (standsStill_of_aside ha hf) h

theorem enterApproach {p : ApproachPhase} {held : Option ApproachPhase} (h : P s) : P (enterApproach p held s) :=
  k.still s _ (standsStill_of_motion (enterApproach_motion p held s) (enterApproach_trip p held s)
    (frame_of_fixed (enterApproach_fixed p held s)) fun ha => ha.enterApproach p held) h

theorem enterChannel {p : ChannelPhase} (h : P s) : P (enterChannel p s) := by
  have ha := enterChannel_aside p s
  exact k.still s _ (standsStill_of_motion (motion_of_aside ha) (enterChannel_trip p s)
    (frame_of_fixed (enterChannel_fixed p s)) fun hs => hs.congr (by rw [closure_of_aside ha])) h

theorem enterDesk {p : DeskPhase} {d : Demand} (h : P s) : P (enterDesk p d s) := by
  have ha := enterDesk_aside p d s
  exact k.still s _ (standsStill_of_motion (motion_of_aside ha) (enterDesk_trip p d s)
    (frame_of_fixed (enterDesk_fixed p d s)) fun hs => hs.congr (by rw [closure_of_aside ha])) h

theorem deskIndicators (h : P s) : P (deskIndicators s) :=
  k.aside (deskIndicators_aside s) (frame_of_fixed (deskIndicators_fixed s)) h

theorem takeFallback (h : P s) : P (takeFallback s) := by
  have ha := takeFallback_aside s
  exact k.still s _ (standsStill_of_motion (motion_of_aside ha) (takeFallback_trip s)
    (frame_of_fixed (takeFallback_fixed s)) fun hs => hs.congr (by rw [closure_of_aside ha])) h

theorem keptByApproach : KeptByApproach P where
  hold t _ h := k.still t _ (standsStill_of_motion (setHold_motion t) (setHold_trip t) (frame_of_fixed (setHold_fixed t))
    fun ha => ha.setHold) h
  enter _ _ _ _ _ _ _ h := k.enterApproach h
  resume _ _ h := k.enterApproach h
  anew t _ h := k.still t _ (standsStill_of_motion (motion_of_besideArms (newClosure_besideArms t))
    (trip_of_besideArms (newClosure_besideArms t)) (frame_of_fixed (newClosure_fixed t)) fun ha => ha.newClosure) h

theorem keptByChannel : KeptByChannel P where
  enter _ _ _ _ _ h := k.enterChannel h
  fallback _ _ h := k.takeFallback h

theorem approachReact (h : P s) : P (approachReact s) := k.keptByApproach.react h
theorem channelReact (h : P s) : P (channelReact s) := k.keptByChannel.react h

theorem roleReact (h : P s) : P (roleReact s) := by
  unfold Machine.roleReact
  (repeat' split)
  · exact k.cornerReact h
  · exact k.approachReact h
  · exact k.channelReact h
  · exact k.deskIndicators h
  · exact h

theorem lampReact (h : P s) : P (lampReact s) := by
  unfold Machine.lampReact
  (repeat' split)
  · exact k.approachReact h
  · exact k.channelReact h
  · exact h
  · exact h
  · exact h

/-! ### The clear of a trip -/

theorem acceptClear (source : Nat) (hflag : s.trip.flag = true) (h : P s) : P (acceptClear source s) := by
  unfold Machine.acceptClear Machine.leaveTripped
  extract_lets s1
  generalize hu : Machine.report .tripCleared source s.tripCause (clearedPhaseCode s1) s.trip.causes.length
    (flagNat s.trip.more) s1 = u
  have ha : u.aside = s1.aside := by rw [← hu, report_aside]
  have hf : u.fixed = s1.fixed := by rw [← hu, report_fixed]
  obtain ⟨hdrive, hclear, harms⟩ := standsStill_of_aside ha (frame_of_fixed hf)
  have hleft := k.clear s u hflag hdrive hclear harms h
  have hrole : u.role = s.role := role_of_frame (frame_of_fixed hf)
  split
  · rename_i hc
    rw [if_pos (hrole.symm.trans hc)] at hleft
    have hrest : movingPhase (clearedCornerPhase u) = false ∧ clearedCornerPhase u ≠ .homing ∧
        freesBolt (clearedCornerPhase u) = false := by
      unfold clearedCornerPhase
      (repeat' split) <;> decide
    obtain ⟨hmoving, hhoming, hbolt⟩ := hrest
    rw [toCorner_at_rest .none u hmoving hhoming]
    exact k.cornerReact (hleft _ (CornerRun.clearedCornerPhase_ne u) hbolt)
  · rename_i hc
    rw [if_neg (by simp [← hrole, hc])] at hleft
    exact k.approachReact (k.enterApproach hleft)
  · rename_i hc
    rw [if_neg (by simp [← hrole, hc])] at hleft
    exact k.channelReact (k.enterChannel hleft)
  · rename_i hc
    rw [if_neg (by simp [← hrole, hc])] at hleft
    split
    · exact k.deskIndicators (k.enterDesk hleft)
    · exact k.deskIndicators (k.enterDesk hleft)

theorem clearAttempt (source : Nat) (h : P s) : P (clearAttempt source s) := by
  unfold Machine.clearAttempt
  split
  · exact k.acceptClear source (State.Safe.flag_of_accepted ‹_›) h
  · exact h
  · exact h

theorem setGoal {height : Nat} (h : P s) : P (Machine.setGoal height s) :=
  k.still s _ ⟨rfl, rfl, id⟩ h

theorem clearPress (h : P s) : P (clearPress s) :=
  k.clearAttempt _ (k.still s (s.onDesk fun d => { d with clearCount := (d.clearCount + 1) % 16 }) ⟨rfl, rfl, id⟩ h)

/-! ### Frames and the peer table -/

theorem peerReport {j : Fin 12} {old : Freshness} {e : Entry} (h : P s) : P (peerReport j old e s) :=
  k.aside (peerReport_aside j old e s) (frame_of_fixed (peerReport_fixed j old e s)) h

theorem setPeer {j : Fin 12} {e : Option Entry} (h : P s) : P (s.setPeer j e) := k.still s _ ⟨rfl, rfl, id⟩ h

theorem onLine {l : LinkLine} {f : LineUnit → LineUnit} (h : P s) : P (s.onLine l f) :=
  k.aside (onLine_aside l f s) (Fixed.frame_of_setup (onLine_setup l f s)) h

theorem acceptFrame (line : LinkLine) (j : Fin 12) (f : Frame) (h : P s) : P (acceptFrame line j f s) := by
  cases hj : s.peer j with
  | none =>
    unfold Machine.acceptFrame
    rw [hj]
    exact h
  | some e =>
    have h3 : P (stored line j f e s) := k.aside (stored_aside line j f e s) (stored_frame line j f e s) h
    have h4 : P (attempted line j f e s) := by
      unfold attempted
      split
      · exact k.clearAttempt _ h3
      · exact h3
    have h5 : P (tested line j f e s) := by
      unfold tested
      split
      · exact k.sympathyTest h4
      · exact h4
    rw [acceptFrame_eq hj]
    split
    · exact k.roleReact h5
    · exact h5

theorem ownNumberFrame (h : P s) : P (ownNumberFrame s) :=
  k.cause _ .duplicate (k.still s { Machine.latch .duplicateStation s with duplicateTimer := some s.staleTime }
    ⟨rfl, rfl, id⟩ h)

theorem checkFrame (line : LinkLine) (f : Frame) (h : P s) : P (checkFrame line f s) := by
  unfold Machine.checkFrame
  (repeat' split)
  · exact k.ownNumberFrame h
  · exact k.latch h
  · exact k.latch h
  · exact k.acceptFrame _ _ _ h
  · exact h

theorem healthReact (h : P s) : P (healthReact s) :=
  k.aside (healthReact_aside s) (frame_of_fixed (healthReact_fixed s)) h

theorem receiveFrame (line : LinkLine) (levels : List Bool) (h : P s) : P (receiveFrame line levels s) := by
  unfold Machine.receiveFrame Machine.takeFrame
  dsimp only
  (repeat' split)
  · exact h
  · exact k.onLine h
  · exact k.onLine h
  · exact k.checkFrame _ _ (k.healthReact
      (k.aside (validFrame_aside _ _ _) (Fixed.frame_of_setup (validFrame_setup _ _ _)) (k.onLine h)))

theorem staleExpiry (j : Fin 12) (h : P s) : P (staleExpiry j s) := by
  unfold Machine.staleExpiry
  split
  · exact h
  · split
    · exact k.roleReact (k.submitIf (k.latch (k.peerReport (k.setPeer h))))
    · exact h

theorem lostExpiry (j : Fin 12) (h : P s) : P (lostExpiry j s) := by
  unfold Machine.lostExpiry
  split
  · exact h
  · split
    · exact k.roleReact (k.latch (k.peerReport (k.setPeer h)))
    · exact h

theorem seenExpiry (j : Fin 12) (line : LinkLine) (h : P s) : P (seenExpiry j line s) := by
  unfold Machine.seenExpiry
  (repeat' split) <;> first | exact h | exact k.setPeer h

theorem timeTick (h : P s) : P (timeTick s) := k.silentTest (k.still s s.aged ⟨rfl, rfl, id⟩ h)

/-! ### Inputs -/

theorem onClosure {f : ClosureUnit → ClosureUnit} (h : P s) (hf : (f s.closure).arms = s.closure.arms := by rfl) :
    P (s.onClosure f) := k.still s _ ⟨rfl, rfl, fun ha => ha.onClosure hf⟩ h

theorem followDeck (old : Bool) (h : P s) : P (followDeck old s) := by
  unfold Machine.followDeck
  split
  · exact k.onClosure h
  · exact h

theorem onChannel {f : ChannelUnit → ChannelUnit} (h : P s) : P (s.onChannel f) := k.still s _ ⟨rfl, rfl, id⟩ h
theorem onDesk {f : DeskUnit → DeskUnit} (h : P s) : P (s.onDesk f) := k.still s _ ⟨rfl, rfl, id⟩ h

theorem testVesselAlert (h : P s) : P (testVesselAlert s) := by
  unfold Machine.testVesselAlert
  dsimp only
  split
  · exact k.aside (requestPattern_aside _ _ _) rfl (k.latch (k.onChannel h))
  · exact k.onChannel h

theorem vesselEvent (active : Bool) (h : P s) : P (vesselEvent active s) := by
  unfold Machine.vesselEvent
  dsimp only
  split
  · exact k.channelReact (k.testVesselAlert (k.onChannel h))
  · exact k.channelReact (k.testVesselAlert h)

theorem setDemand (d : Demand) (h : P s) : P (setDemand d s) := k.deskIndicators (k.onDesk h)

theorem demandPress (d : Demand) (h : P s) : P (demandPress d s) := by
  unfold Machine.demandPress
  split
  · exact k.setDemand d h
  · exact h

theorem keyEvent (active : Bool) (h : P s) : P (keyEvent active s) := by
  unfold Machine.keyEvent
  (repeat' split)
  · exact k.deskIndicators (k.enterDesk h)
  · exact k.deskIndicators (k.enterDesk h)
  · exact k.deskIndicators h

theorem deliverInput (i : Fin 25) (active : Bool) (before : State) (h : P s) : P (deliverInput i active before s) := by
  unfold Machine.deliverInput
  split
  · exact k.deliverCorner h
  · unfold deliverApproach
    (repeat' split)
    · exact k.approachReact (k.still s _ (standsStill_of_arm _ (patternEvent_besideArm _ _ _) (patternEvent_fixed _ _ _)
        fun ha => ha.patternEvent _ _) h)
    · exact k.approachReact (k.followDeck _ (k.still s _ (standsStill_of_arm _ (presenceEvent_besideArm _ _ _)
        (presenceEvent_fixed _ _ _) fun ha => ha.presenceEvent _ _) h))
    · exact k.approachReact (k.followDeck _ h)
    · exact h
  · unfold deliverChannel
    split
    · exact k.vesselEvent active h
    · exact h
  · unfold deliverDesk
    (repeat' split)
    · exact k.demandPress _ h
    · exact h
    · exact k.demandPress _ h
    · exact h
    · exact k.demandPress _ h
    · exact h
    · exact k.clearPress h
    · exact h
    · exact k.keyEvent active h
    · exact h

theorem filterExpiry (i : Fin 25) (h : P s) : P (filterExpiry i s) := by
  unfold Machine.filterExpiry
  extract_lets x s1 s2
  have h1 : P s1 := k.still s s1 ⟨rfl, rfl, id⟩ h
  have h2 : P s2 := by
    dsimp only [s2]
    split
    · exact k.aside (report_aside _ _ _ _ _ _ _) (frame_of_fixed (report_fixed _ _ _ _ _ _ _)) h1
    · exact h1
  (repeat' split)
  · exact h1
  · exact k.deliverInput i _ s h2
  · exact h

theorem estopExpiry (h : P s) : P (estopExpiry s) := by
  unfold Machine.estopExpiry
  split
  · exact k.submitIf (k.still s (s.onTrip fun t => { t with estopTimer := none, estopFiltered := t.estopRaw })
      ⟨rfl, rfl, id⟩ h)
  · exact h

/-! ### Timers of an approach and a channel -/

theorem completeStage (next : ApproachPhase) (h : P s) : P (completeStage next s) := by
  unfold Machine.completeStage
  split <;> exact k.enterApproach h

theorem redExpiry (h : P s) : P (redExpiry s) := by
  unfold Machine.redExpiry
  dsimp only
  (repeat' split)
  · exact k.approachReact (k.completeStage _ h)
  · exact k.approachReact (k.enterApproach (k.latch h))
  · exact k.approachReact (k.onClosure (k.latch h))
  · exact h

theorem clearingExpiry (h : P s) : P (clearingExpiry s) := by
  unfold Machine.clearingExpiry
  split
  · exact k.channelReact (k.enterChannel h)
  · exact h

/-! ### Every event -/

theorem event {c : Instr} {f : State → State} (hf : eventWork c = some f) (h : P s) : P (f s) := by
  have lamp : ∀ {t : State}, t.aside = s.aside → t.fixed = s.fixed → P (Machine.lampReact t) := fun ha ht =>
    k.lampReact (k.aside ha (frame_of_fixed ht) h)
  have arm : ∀ {t : State} (i : Fin 4), t.besideArm i = s.besideArm i → t.fixed = s.fixed →
      (ArmsExclusive s → ArmsExclusive t) → P t := fun i hb ht ha => k.still s _ (standsStill_of_arm i hb ht ha) h
  have table (ht : transmitterEvent c = false) : P (f s) := by
    cases c <;> cases ht <;> cases hf
    case frameReceived line levels => exact k.receiveFrame line levels h
    case staleTimerExpiry j => exact k.staleExpiry j h
    case lostTimerExpiry j => exact k.lostExpiry j h
    case seenTimerExpiry j line => exact k.seenExpiry j line h
    case duplicateTimerExpiry => exact k.still s _ ⟨rfl, rfl, id⟩ h
    case stationTimeTick => exact k.timeTick h
    case healthTimerExpiry l =>
      exact k.healthReact (k.aside (healthExpiry_aside l s)
        (Fixed.frame_of_setup (Fixed.setup_of_unlinked (healthExpiry_unlinked l s))) h)
    case inputRawChange i active =>
      unfold sampleInput
      dsimp only
      split
      · exact h
      · exact k.still s _ ⟨rfl, rfl, id⟩ h
    case filterTimerExpiry i => exact k.filterExpiry i h
    case estopRawChange active =>
      unfold sampleEstop
      split
      · exact h
      · exact k.still s _ ⟨rfl, rfl, id⟩ h
    case estopEvent => exact k.estopExpiry h
    case encoderTransition a b => exact k.encoderSample h
    case deadTimeExpiry => exact k.deadExpiry h
    case stallTimerExpiry => exact k.stallExpiry h
    case boltTravelTimeout => exact k.boltTimeout h
    case brakeTimerExpiry => exact k.brakeExpiry h
    case setCheckExpiry => exact k.setCheckExpiry h
    case holdTimerExpiry => exact k.holdExpiry h
    case amberTimerExpiry =>
      unfold amberExpiry
      split
      · exact k.approachReact (k.completeStage _ h)
      · exact h
    case redClearanceExpiry => exact k.redExpiry h
    case deckClearExpiry =>
      unfold deckClearExpiry
      split
      · exact k.approachReact (k.completeStage _ h)
      · exact h
    case deckLimitExpiry =>
      unfold deckLimitExpiry
      split
      · exact k.latch (k.onClosure h)
      · exact h
    case gapTimerExpiry i => exact arm i (gapExpiry_besideArm i s) (gapExpiry_fixed i s) fun ha => ha.gapExpiry i
    case armTravelTimeout i =>
      exact k.approachReact (arm i (armTravelExpiry_besideArm i s) (armTravelExpiry_fixed i s) fun ha => ha.armTravelExpiry i)
    case retryTimerExpiry i =>
      exact k.approachReact (arm i (retryExpiry_besideArm i s) (retryExpiry_fixed i s) fun ha => ha.retryExpiry i)
    case laneTimerExpiry i => exact arm i (laneExpiry_besideArm i s) (laneExpiry_fixed i s) fun ha => ha.laneExpiry i
    case clearingTimerExpiry => exact k.clearingExpiry h
    case flashHalfExpiry => exact lamp (by simp) (by simp)
    case lampSenseEvent i sensed => exact lamp (by simp) (by simp)
    case provingTimerExpiry i => exact lamp (by simp) (by simp)
    case watchTimerExpiry i => exact lamp (by simp) (by simp)
    case darkTimerExpiry i => exact lamp (by simp) (by simp)
    case stepTimerExpiry i => exact k.aside (by simp) (frame_of_fixed (by simp)) h
  cases ht : transmitterEvent c with
  | true => exact k.aside (eventWork_transmitter_aside hf ht s) (Fixed.frame_of_setup (eventWork_setup hf s)) h
  | false => exact table ht

/-! ### RUN -/

theorem runRole (hrun : s.running = false) (h : P s) : P (runRole (atRun s)) := by
  have hrunning : (atRun s).running = true :=
    (congrArg Fixed.running (atRun_unlinked s) : (atRun s).fixed.unlinked.running = _)
  have haside := atRun_aside s
  have htrip : (atRun s).trip = s.trip := trip_of_aside haside
  have hmotion : (atRun s).motion = s.motion := congrArg (·.2.1) haside
  have hstart : (atRun s).role ≠ .corner → P (atRun s) := fun hc => by
    have := k.start s (atRun s) hrun hrunning (by rw [htrip]) (fun ha => ha.of_aside haside) h
    rw [if_neg hc] at this
    exact this hmotion
  unfold Machine.runRole
  split
  · rename_i hrole
    let u := CornerRun.cornerAtRun (atRun s)
    obtain ⟨ht, hc⟩ := cornerAtRun_beside (atRun s)
    obtain ⟨hout, hbolt⟩ := cornerAtRun_drive (atRun s)
    have hfix : u.fixed = (atRun s).fixed := cornerAtRun_fixed (atRun s)
    have hrole' : u.role = .corner := (role_of_fixed hfix).trans hrole
    have hu := k.start s u hrun ((running_of_fixed hfix).trans hrunning) (by rw [ht, htrip])
      (fun ha => (ha.of_aside haside).congr (by rw [hc])) h
    rw [if_pos hrole'] at hu
    have henter := hu (by rw [hout, hmotion]) hbolt (firstCornerPhase u) (CornerRun.firstCornerPhase_ne u) (by
      unfold firstCornerPhase
      (repeat' split) <;> rfl)
    exact k.cornerReact (k.submitIf (k.submitIf (k.submitIf (k.submitIf henter))))
  · have hderive : P (deriveArms (atRun s)) := k.still _ _ (standsStill_of_motion
      (motion_of_besideArms (deriveArms_besideArms _)) (trip_of_besideArms (deriveArms_besideArms _))
      (frame_of_fixed (deriveArms_fixed _)) fun ha => ha.deriveArms) (hstart (by simp_all))
    exact k.approachReact (k.submitIf (k.enterApproach hderive))
  · exact k.channelReact (k.submitIf (k.enterChannel (hstart (by simp_all))))
  · exact k.deskIndicators (k.submitIf (k.enterDesk (hstart (by simp_all))))

theorem startRun (hrun : s.running = false) (h : P s) : P (startRun s) :=
  k.aside (fillBoth_aside _) (Fixed.frame_of_setup (fillBoth_setup _)) (k.onLine (k.onLine (k.runRole hrun h)))

/-! ### Orders -/

theorem setInhibit (on : Bool) (h : P s) : P (setInhibit on s) := by
  unfold Machine.setInhibit
  split
  · exact h
  · exact k.roleReact (k.still s _ ⟨rfl, rfl, id⟩ h)

theorem takeNavAccept (h : P s) : P (takeNavAccept s) := by
  unfold Machine.takeNavAccept
  dsimp only
  (repeat' split)
  · exact h
  · exact k.channelReact (k.enterChannel (k.onChannel h))
  · exact k.onChannel h

/-- An arm that has acted is driven. -/
theorem driven {t : State} {i : Fin 4} (hb : t.besideArm i = s.besideArm i) (hf : t.fixed = s.fixed) (h : P s) :
    P (driveArm i t) :=
  k.still s _ (standsStill_of_arm i ((driveArm_besideArm i t).trans hb) ((driveArm_fixed i t).trans hf) fun ha => ha.drive hb) h

theorem acceptArm {i : Fin 4} (h : P s) : P (acceptArm i s) :=
  k.approachReact (k.driven (enterArm_besideArm i s _ _) (enterArm_fixed i _ _ s) h)

theorem resetArm {i : Fin 4} (h : P s) : P (resetArm i s) := by
  unfold Machine.resetArm
  exact k.approachReact (k.driven (s := s) (by simp) (by simp) h)

theorem order {c : Instr} {d : State → State × Answer} (hd : orderDecision c = some d) (h : P s) : P (d s).1 := by
  cases c <;> cases hd
  case setItem item value =>
    unfold orderSetItem
    (repeat' split)
    · exact h
    · exact h
    · exact k.still s _ ⟨rfl, rfl, id⟩ h
  case setRoster codes =>
    unfold orderSetRoster
    (repeat' split)
    · exact h
    · exact k.still s _ ⟨rfl, rfl, id⟩ h
    · exact h
  case run =>
    unfold orderRun
    (repeat' split)
    · exact h
    · exact h
    · exact k.startRun (by simpa using ‹¬s.running = true›) h
  case enableReset => exact k.still s _ ⟨rfl, rfl, id⟩ h
  case setMask => exact k.still s _ ⟨rfl, rfl, id⟩ h
  case setThreshold threshold => exact k.still s _ ⟨rfl, rfl, id⟩ h
  case clearInhibit => unfold orderClearInhibit; (repeat' split); exacts [h, h, k.setInhibit _ h]
  case setInhibit => unfold orderSetInhibit; split; exacts [h, k.setInhibit _ h]
  case clearTrip =>
    unfold orderClearTrip
    (repeat' split)
    · exact h
    · exact h
    · exact h
    · exact k.acceptClear _ (State.Safe.flag_of_accepted ‹_›) h
  case home =>
    unfold orderHome
    (repeat' split)
    · exact h
    · exact h
    · exact h
    · exact h
    · rename_i hp _ _
      simp only [State.cornerIs, Bool.not_eq_true', Bool.not_eq_false, Bool.or_eq_true, beq_iff_eq] at hp
      rcases hp with hp | hp
      · exact k.cornerReact (k.toCorner (mayEnter_of_phase .homing hp) h)
      · exact k.cornerReact (k.toCorner (mayEnter_of_phase .homing hp) h)
  case armAccept arm =>
    unfold orderArmAccept
    dsimp only
    (repeat' split)
    any_goals exact h
    exact k.acceptArm h
  case armReset arm =>
    unfold orderArmReset
    dsimp only
    (repeat' split)
    any_goals exact h
    exact k.resetArm h
  case navAccept =>
    unfold orderNavAccept
    (repeat' split)
    · exact h
    · exact h
    · exact h
    · exact k.takeNavAccept h
  case demand value =>
    unfold orderDemand
    (repeat' split)
    · exact h
    · exact h
    · exact h
    · exact h
    · exact h
    · dsimp only
      exact k.setDemand _ h
  case setGoal height =>
    unfold orderSetGoal
    (repeat' split)
    · exact h
    · exact h
    · exact k.setGoal h
    · exact k.setGoal h
  case clearRequest => unfold orderClearRequest; (repeat' split); exacts [h, h, k.clearPress h]

/-- Every step keeps the predicate, if it holds after a reset. -/
theorem kept (powerOn : ∀ straps s, P (powerOnReset straps s)) (reset : ∀ straps s, P (orderReset straps s)) : Kept P :=
  KeptByCommands.kept
    { handled := fun _ _ hu h => k.aside (aside_of_unchangedBut hu (by decide)) (frame_of_unchangedBut hu (by decide)) h
      published := fun before after h => k.aside (publish_aside before after) (Fixed.frame_of_setup (publish_setup before after)) h
      filled := fun s _ h => k.aside (fillBoth_aside s) (Fixed.frame_of_setup (fillBoth_setup s)) h
      powerOn := fun straps s _ => powerOn straps s
      orderReset := fun straps s _ => reset straps s
      order := fun _ _ _ hd h => k.order hd h
      event := fun _ _ _ hf h => k.event hf h
      period := fun _ _ _ h => k.controlWork h }

end KeptByDrive

end Sys2Proof.Machine
end

section
/-! PROOFS. The outputs stay exclusive (O5), a corner at rest stays safe and its bolt clear of its motion (O7). -/

namespace Sys2Proof.Machine

/-! ### A cause, as it acts on drive, brake and bolt -/

/-- Beside a corner, TRIPPED leaves drive, brake and bolt. -/
theorem enterTripped_standsStill {t : State} (hrole : t.role ≠ .corner) : StandsStill t (enterTripped t) := by
  unfold enterTripped
  split
  · exact absurd ‹_› hrole
  · exact standsStill_of_motion (enterApproach_motion _ _ t) (enterApproach_trip _ _ t)
      (frame_of_fixed (enterApproach_fixed _ _ t)) fun ha => ha.enterApproach _ _
  · have ha := enterChannel_aside .tripped t
    exact standsStill_of_motion (motion_of_aside ha) (enterChannel_trip _ t)
      (frame_of_fixed (enterChannel_fixed _ t)) fun hs => hs.congr (by rw [closure_of_aside ha])
  · have ha : (deskIndicators (enterDesk .tripped .halt t)).aside = _ := (deskIndicators_aside _).trans (enterDesk_aside _ _ t)
    have htrip := (trip_of_aside (deskIndicators_aside (enterDesk .tripped .halt t))).trans (enterDesk_trip _ _ t)
    refine standsStill_of_motion (motion_of_aside ha) htrip (frame_of_fixed ?_) fun hs => hs.congr (by rw [closure_of_aside ha])
    rw [deskIndicators_fixed, enterDesk_fixed]

/-- A submitted cause changes nothing that drives, or sets the flag and enters TRIPPED (R184). -/
theorem submitCause_standsStill_or_trips (c : Cause) (s : State) :
    ((s.running = false ∨ s.trip.flag = true) ∧ StandsStill s (submitCause c s)) ∨
      (s.running = true ∧ s.trip.flag = false ∧ ∃ t, submitCause c s = enterTripped t ∧ t.drive = s.drive ∧
        t.trip.flag = true ∧ (ArmsExclusive s → ArmsExclusive t)) := by
  have hfixed := submitCause_fixed c s
  rcases submitCause_cases c s with ⟨hquiet, h⟩ | ⟨-, hflag, trip, htrip, ha, -⟩ | ⟨hrun, hflag, t, ht, ha, -, hf⟩
  · rw [h]
    exact .inl ⟨hquiet, rfl, rfl, id⟩
  · refine .inl ⟨.inr hflag, ?_, ?_, fun h => h.congr (by rw [closure_of_aside ha])⟩
    · simp only [State.drive, motion_of_aside ha, running_of_fixed hfixed, role_of_fixed hfixed]
    · rw [hflag, ← htrip, show (submitCause c s).trip = trip from congrArg (·.1) ha]
  · refine .inr ⟨hrun, hflag, t, ht, ?_, ?_, fun h => h.congr (by rw [closure_of_aside ha])⟩
    · simp only [State.drive, motion_of_aside ha, running_of_fixed hf, role_of_fixed hf]
    · rw [show t.trip = _ from congrArg (·.1) ha]

/-- A predicate that outlasts what stands still, and the entry into TRIPPED, outlasts every submitted cause. -/
theorem submitCause_keeps {P : State → Prop} (still : ∀ s t, StandsStill s t → P s → P t)
    (trip : ∀ s t, s.running = true → s.trip.flag = false → t.drive = s.drive → t.trip.flag = true →
      (ArmsExclusive s → ArmsExclusive t) → P s → if s.role = .corner then P (enterCorner .tripped .none t) else P t)
    (s : State) (c : Cause) (h : P s) : P (submitCause c s) := by
  rcases submitCause_standsStill_or_trips c s with ⟨-, hs⟩ | ⟨hrun, hflag, t, ht, hdrive, htrip, ha⟩
  · exact still s _ hs h
  · have hp := trip s t hrun hflag hdrive htrip ha h
    have hrole : t.role = s.role := congrArg (·.2.1) hdrive
    rw [ht]
    split at hp
    · rename_i hc
      simpa only [Machine.enterTripped, hrole, hc] using hp
    · exact still t _ (enterTripped_standsStill (by rwa [hrole])) hp

/-! ### Exclusive outputs -/

namespace Bolt.Exclusive

variable {s : State}

theorem rest (b : BoltState) : (restBolt b s).motion.bolt.Exclusive := by simp [restBolt_safe, Bolt.Exclusive]

theorem driving : (startDriving s).motion.bolt.Exclusive := by
  obtain ⟨-, hw⟩ := startDriving_safe s
  simp [Bolt.Exclusive, hw]

theorem withdrawing : (startWithdrawing s).motion.bolt.Exclusive := by
  obtain ⟨hs, hd⟩ := startWithdrawing_safe s
  simp [Bolt.Exclusive, hs, hd]

/-- Every command of an entry leaves a bolt with at most one output on. -/
theorem onEntry (h : s.motion.bolt.Exclusive) (p : CornerPhase) : (boltOnEntry p s).motion.bolt.Exclusive := by
  have drive : (driveBolt s).motion.bolt.Exclusive := by
    unfold driveBolt
    (repeat' split)
    · exact driving
    · exact h
    · exact h
    · exact driving
    · exact rest _
    · exact h
    · exact driving
    · exact driving
  have withdraw : (withdrawBolt s).motion.bolt.Exclusive := by
    unfold withdrawBolt
    (repeat' split)
    · exact h
    · exact withdrawing
    · exact withdrawing
    · exact h
    · exact rest _
    · exact h
    · exact withdrawing
    · exact withdrawing
  unfold boltOnEntry
  (repeat' split)
  · exact drive
  · exact withdraw
  · exact withdraw
  · exact h

theorem driveTest (h : s.motion.bolt.Exclusive) : (testDriveCondition s).motion.bolt.Exclusive := by
  unfold testDriveCondition
  split
  · simp [Bolt.Exclusive, State.onBolt, h.2 ‹_›]
  · exact h

end Bolt.Exclusive

/-- The direction outputs and the bolt of a drive exclude each other. -/
def State.DriveExclusive (s : State) : Prop :=
  ¬(s.motion.output.up = true ∧ s.motion.output.down = true) ∧ s.motion.bolt.Exclusive

theorem outputsExclusive_iff (s : State) : OutputsExclusive s ↔ s.DriveExclusive ∧ ArmsExclusive s := by
  simp only [OutputsExclusive, State.DriveExclusive, Bolt.Exclusive, ArmsExclusive, and_assoc]

theorem State.DriveExclusive.congr {s t : State} (h : s.DriveExclusive) (hd : t.drive = s.drive) : t.DriveExclusive := by
  simp only [State.drive, Prod.mk.injEq] at hd
  obtain ⟨-, -, -, ⟨-, hup, hdown⟩, ⟨hstate, hdrive, hwithdraw⟩, -⟩ := hd
  simpa only [State.DriveExclusive, Bolt.Exclusive, hup, hdown, hstate, hdrive, hwithdraw] using h

theorem State.DriveExclusive.enterCorner {s : State} (h : s.DriveExclusive) (p : CornerPhase) (rel : Intent) :
    (enterCorner p rel s).DriveExclusive := by
  refine ⟨?_, ?_⟩
  · rw [enterCorner_output]
    split
    · exact (applyOutput_safe 0 s).2.2.2
    · exact h.1
  · rw [enterCorner_bolt]
    exact h.2.onEntry p

theorem closure_of_besideMotion {s t : State} (h : t.besideMotion = s.besideMotion) : t.closure = s.closure := by
  simp only [State.besideMotion, Prod.mk.injEq] at h
  exact h.2.1

theorem ArmsExclusive.enterCorner {s : State} (h : ArmsExclusive s) (p : CornerPhase) (rel : Intent) :
    ArmsExclusive (enterCorner p rel s) :=
  h.congr (by rw [closure_of_besideMotion (enterCorner_besideMotion p rel s)])

theorem outputsExclusive_keptByDrive : KeptByDrive fun s => s.DriveExclusive ∧ ArmsExclusive s := by
  have still : ∀ s t, StandsStill s t → s.DriveExclusive ∧ ArmsExclusive s → t.DriveExclusive ∧ ArmsExclusive t :=
    fun _ _ hs h => ⟨h.1.congr hs.drive, hs.arms h.2⟩
  have cause := submitCause_keeps still fun s t _ _ hd _ ha h => by
    split
    · exact ⟨(h.1.congr hd).enterCorner _ _, (ha h.2).enterCorner _ _⟩
    · exact ⟨h.1.congr hd, ha h.2⟩
  exact
    { still
      cause
      enter := fun _ p rel _ h => ⟨h.1.enterCorner p rel, h.2.enterCorner p rel⟩
      output := fun s v _ h => ⟨⟨(applyOutput_safe v s).2.2.2, h.1.2⟩, h.2⟩
      setBrake := fun s h => by
        refine ⟨?_, h.2.congr (by unfold setRequest; split <;> rfl)⟩
        simpa only [State.DriveExclusive, setRequest_output, setRequest_bolt] using h.1
      testBolt := fun s h => by
        have ho : (testDriveCondition s).motion.output = s.motion.output := by unfold testDriveCondition; split <;> rfl
        exact ⟨⟨by rw [ho]; exact h.1.1, h.1.2.driveTest⟩, h.2.congr (by unfold testDriveCondition; split <;> rfl)⟩
      restBolt := fun s b _ h => ⟨⟨h.1.1, .rest b⟩, h.2⟩
      faultBolt := fun s h => cause _ .bolt ⟨⟨h.1.1, .rest .fault⟩, h.2⟩
      clear := fun s t _ hd _ ha h => by
        split
        · exact fun p _ _ => ⟨(h.1.congr hd).enterCorner p _, (ha h.2).enterCorner p _⟩
        · exact ⟨h.1.congr hd, ha h.2⟩
      start := fun s t _ _ _ ha h => by
        split
        · intro ho hb p _ _
          have ht : t.DriveExclusive := ⟨by rw [ho]; exact h.1.1, hb⟩
          exact ⟨ht.enterCorner p _, (ha h.2).enterCorner p _⟩
        · intro hm
          exact ⟨by simpa only [State.DriveExclusive, hm] using h.1, ha h.2⟩ }

/-- Settles O5: output stage, bolt and arms are written by operations that set at most one output of a pair. -/
theorem outputsStayExclusive : Obligations.OutputsStayExclusive := by
  have hs : OutputsExclusive = fun s => s.DriveExclusive ∧ ArmsExclusive s := funext fun s => propext (outputsExclusive_iff s)
  rw [Obligations.OutputsStayExclusive, hs]
  have rest : ∀ {s : State}, s.AtRest → s.DriveExclusive ∧ ArmsExclusive s := fun h =>
    ⟨⟨by simp [h.motion.up], by simp [Bolt.Exclusive, h.motion.withdrawOut]⟩, fun i hu => by
      obtain ⟨-, hup, -⟩ := h.closure.arms i
      exact absurd hu.1 (by rw [State.arm, hup]; decide)⟩
  exact outputsExclusive_keptByDrive.kept (fun _ _ => rest (afterReset_atRest _ _ _ _ _ _ _))
    fun straps s => rest (orderReset_atRest straps s)

/-! ### A corner at rest -/

/-- Every entry stands safe: it forces the outputs off where they must be (R62, R80, R91, R95). -/
theorem enterCorner_standsSafe (p : CornerPhase) (rel : Intent) (s : State) : CornerStandsSafe (enterCorner p rel s) := by
  intro hf
  have hp : forcesOff p = true := by simpa only [State.cornerIn, enterCorner_phase, Option.any_some] using hf
  rw [enterCorner_output, enterCorner_brakeOut, if_pos hp, if_pos hp]
  obtain ⟨hv, hup, hdown, -⟩ := applyOutput_safe 0 s
  exact ⟨hv, Bool.eq_false_iff.mpr fun h => absurd (hup h) (by decide),
    Bool.eq_false_iff.mpr fun h => absurd (hdown h) (by decide), rfl⟩

theorem CornerStandsSafe.congr {s t : State} (h : CornerStandsSafe s) (hm : t.motion.phase = s.motion.phase)
    (ho : (t.motion.output.vOut, t.motion.output.up, t.motion.output.down) =
      (s.motion.output.vOut, s.motion.output.up, s.motion.output.down))
    (hb : t.motion.brake.out = s.motion.brake.out) : CornerStandsSafe t := by
  simp only [Prod.mk.injEq] at ho
  obtain ⟨hv, hup, hdown⟩ := ho
  simpa only [CornerStandsSafe, State.cornerIn, hm, hv, hup, hdown, hb] using h

theorem CornerStandsSafe.of_drive {s t : State} (h : CornerStandsSafe s) (hd : t.drive = s.drive) : CornerStandsSafe t := by
  simp only [State.drive, Prod.mk.injEq] at hd
  obtain ⟨-, -, hp, ho, -, hb⟩ := hd
  exact h.congr hp (by simpa only [Prod.mk.injEq] using ho) hb

theorem cornerStandsSafe_keptByDrive : KeptByDrive CornerStandsSafe := by
  have still : ∀ s t, StandsStill s t → CornerStandsSafe s → CornerStandsSafe t := fun _ _ hs h => h.of_drive hs.drive
  have cause := submitCause_keeps still fun s t _ _ hd _ _ h => by
    split
    · exact enterCorner_standsSafe _ _ _
    · exact h.of_drive hd
  exact
    { still
      cause
      enter := fun s p rel _ _ => enterCorner_standsSafe p rel s
      output := fun s v hv h hf => by
        obtain rfl := hv hf
        obtain ⟨hzero, hup, hdown, -⟩ := applyOutput_safe 0 s
        exact ⟨hzero, Bool.eq_false_iff.mpr fun h => absurd (hup h) (by decide),
          Bool.eq_false_iff.mpr fun h => absurd (hdown h) (by decide), (h hf).2.2.2⟩
      setBrake := fun s h hf => by
        obtain ⟨hv, hup, hdown, -⟩ := h (by simpa only [State.cornerIn, setRequest_phase] using hf)
        rw [setRequest_output]
        exact ⟨hv, hup, hdown, setRequest_brakeOut s⟩
      testBolt := fun s h => h.congr (by unfold testDriveCondition; split <;> rfl)
        (by unfold testDriveCondition; split <;> rfl) (by unfold testDriveCondition; split <;> rfl)
      restBolt := fun s b _ h => h.congr rfl rfl rfl
      faultBolt := fun s h => cause _ .bolt (h.congr (t := restBolt .fault s) rfl rfl rfl)
      clear := fun s t _ hd _ _ h => by
        split
        · exact fun p _ _ => enterCorner_standsSafe _ _ _
        · exact h.of_drive hd
      start := fun s t _ _ _ _ h => by
        split
        · exact fun _ _ p _ _ => enterCorner_standsSafe _ _ _
        · exact fun hm => h.congr (by rw [hm]) (by rw [hm]) (by rw [hm]) }

/-! ### A bolt clear of the motion -/

/-- The trip flag stands with the mode and with a corner's phase, a phase stands at a CORNER in RUN alone, and the bolt is
WITHDRAWN in the phases that ask for it. -/
structure State.Unbolted (s : State) : Prop where
  config : s.running = false → s.trip.flag = false
  corner : s.running = true → s.role = .corner → s.motion.Stands s.trip.flag
  acts : s.motion.phase ≠ none → s.running = true ∧ s.role = .corner
  bolt : s.cornerIn freesBolt = true → s.motion.bolt.state = .withdrawn

theorem cornerIn_freesBolt (s : State) : s.cornerIn freesBolt = true ↔ s.motion.phase ∈
    [some .unlocked, some .releasing, some .raising, some .raised, some .lowering, some .halting] := by
  unfold State.cornerIn
  cases s.motion.phase with
  | none => simp
  | some p => cases p <;> simp [freesBolt]

theorem boltClearOfMotion_iff (s : State) : TripFlagIsPhase s ∧ BoltClearOfMotion s ↔ TripFlagIsPhase s ∧ s.Unbolted := by
  refine and_congr_right fun ht => ?_
  have hs := (tripFlagIsPhase_iff s).mp ht
  constructor
  · rintro ⟨ha, hb⟩
    exact ⟨hs.config, hs.corner, ha, fun h => hb ((cornerIn_freesBolt s).mp h)⟩
  · intro h
    exact ⟨h.acts, fun hp => h.bolt ((cornerIn_freesBolt s).mpr hp)⟩

namespace State.Unbolted

variable {s t : State}

theorem congr (h : s.Unbolted) (hrun : t.running = s.running) (hrole : t.role = s.role) (hflag : t.trip.flag = s.trip.flag)
    (hp : t.motion.phase = s.motion.phase)
    (hb : s.motion.bolt.state = .withdrawn → t.motion.bolt.state = .withdrawn) : t.Unbolted where
  config := by simpa only [hrun, hflag] using h.config
  corner := by simpa only [hrun, hrole, hflag, MotionUnit.Stands, hp] using h.corner
  acts := by simpa only [hrun, hrole, hp] using h.acts
  bolt hf := hb (h.bolt (by simpa only [State.cornerIn, hp] using hf))

/-- The phase is none beside a corner in RUN. -/
theorem phase_none (h : s.Unbolted) (hn : ¬(s.running = true ∧ s.role = .corner)) : s.motion.phase = none := by
  by_contra hp
  exact hn (h.acts hp)

/-- A station that has no corner phase, with the flag clear in CONFIG. -/
theorem of_idle (hp : s.motion.phase = none) (hc : ¬(s.running = true ∧ s.role = .corner))
    (hf : s.running = false → s.trip.flag = false) : s.Unbolted where
  config := hf
  corner hrun hrole := absurd ⟨hrun, hrole⟩ hc
  acts h := absurd hp h
  bolt h := by simp [State.cornerIn, hp] at h

/-- An entered phase stands with the flag, and with the bolt where it asks for it. -/
theorem entered {p : CornerPhase} {rel : Intent} (hrun : s.running = true) (hrole : s.role = .corner)
    (hflag : s.trip.flag = true ↔ p = .tripped) (hb : freesBolt p = true → s.motion.bolt.state = .withdrawn) :
    (enterCorner p rel s).Unbolted where
  config h := absurd (hrun.symm.trans ((running_of_fixed (enterCorner_fixed p rel s)).symm.trans h)) (by decide)
  corner _ _ := by
    rw [enterCorner_trip, MotionUnit.Stands, enterCorner_phase]
    exact ⟨rfl, by simp [hflag]⟩
  acts _ := by
    rw [running_of_fixed (enterCorner_fixed p rel s), role_of_fixed (enterCorner_fixed p rel s)]
    exact ⟨hrun, hrole⟩
  bolt h := by
    have hp : freesBolt p = true := by simpa only [State.cornerIn, enterCorner_phase, Option.any_some] using h
    have hw : (boltOnEntry p s).motion.bolt = s.motion.bolt := by
      cases p <;> first | rfl | simp [freesBolt] at hp
    rw [enterCorner_bolt, hw]
    exact hb hp

theorem of_drive (h : s.Unbolted) (hd : t.drive = s.drive) (hf : t.trip.flag = s.trip.flag) : t.Unbolted := by
  simp only [State.drive, Prod.mk.injEq] at hd
  obtain ⟨hrun, hrole, hp, -, ⟨hb, -, -⟩, -⟩ := hd
  exact h.congr hrun hrole hf hp (by rw [hb]; exact id)

/-- A cause trips an acting corner. -/
theorem tripped (hd : t.drive = s.drive) (hrun : s.running = true) (hflag : t.trip.flag = true)
    (hp : s.role ≠ .corner → s.motion.phase = none) :
    if s.role = .corner then (enterCorner .tripped .none t).Unbolted else t.Unbolted := by
  simp only [State.drive, Prod.mk.injEq] at hd
  obtain ⟨hr, hrole, hphase, -⟩ := hd
  split
  · rename_i hc
    exact entered (hr.trans hrun) (hrole.trans hc) (by simp [hflag]) (by simp [freesBolt])
  · rename_i hc
    exact of_idle (hphase.trans (hp hc)) (fun ha => hc (hrole.symm.trans ha.2))
      fun hcfg => absurd (hrun.symm.trans (hr.symm.trans hcfg)) (by decide)

end State.Unbolted

theorem unbolted_keptByDrive : KeptByDrive State.Unbolted := by
  have still : ∀ s t, StandsStill s t → s.Unbolted → t.Unbolted := fun _ _ hs h => h.of_drive hs.drive hs.flag
  have cause := submitCause_keeps still fun s t hrun _ hd hflag _ h =>
    State.Unbolted.tripped hd hrun hflag fun hc => h.phase_none fun ha => hc ha.2
  exact
    { still
      cause
      enter := fun s p rel hm h => by
        obtain ⟨hrun, hrole⟩ := h.acts hm.acts
        have hflag : ¬s.trip.flag = true := fun hf => hm.untripped ((h.corner hrun hrole).2.mp hf)
        exact .entered hrun hrole (by simp [hflag, hm.notTripped]) fun hf => (hm.bolt hf).elim h.bolt id
      output := fun s v _ h => h.congr rfl rfl rfl rfl id
      setBrake := fun s h => by
        have hf := setRequest_fixed s
        exact h.congr (running_of_fixed hf) (role_of_fixed hf) (by unfold setRequest; split <;> rfl) (setRequest_phase s)
          (by rw [setRequest_bolt]; exact id)
      testBolt := fun s h => by
        unfold testDriveCondition
        split
        · exact h.congr rfl rfl rfl rfl id
        · exact h
      restBolt := fun s b hb h => h.congr rfl rfl rfl rfl fun hw => hb.resolve_right (· hw)
      faultBolt := fun s h => by
        by_cases hf : s.cornerIn freesBolt = true
        · have hp : s.motion.phase ≠ none := fun hn => by simp [State.cornerIn, hn] at hf
          obtain ⟨hrun, hrole⟩ := h.acts hp
          have hflag : s.trip.flag = false := Bool.eq_false_iff.mpr fun ht => by
            simp [State.cornerIn, (h.corner hrun hrole).2.mp ht, freesBolt] at hf
          obtain ⟨hq, -⟩ | ⟨-, -, t, ht, hd, htrip, -⟩ := submitCause_standsStill_or_trips .bolt (restBolt .fault s)
          · exact absurd hq (by simp [restBolt, State.onBolt, hrun, hflag])
          · have hu := State.Unbolted.tripped hd hrun htrip fun hc => absurd hrole hc
            have hrt : t.role = .corner := (congrArg (·.2.1) hd).trans hrole
            rw [if_pos (show (restBolt .fault s).role = .corner from hrole)] at hu
            simpa only [faultBolt, ht, enterTripped, hrt] using hu
        · exact cause _ .bolt ⟨h.config, h.corner, h.acts, fun hb => absurd hb hf⟩
      clear := fun s t hflag hd hclear _ h => by
        have hrun : s.running = true := by
          by_contra hn
          exact absurd ((h.config (by simpa using hn)).symm.trans hflag) (by decide)
        simp only [State.drive, Prod.mk.injEq] at hd
        obtain ⟨hr, hrole, hphase, -⟩ := hd
        split
        · rename_i hc
          exact fun p hp hb => .entered (hr.trans hrun) (hrole.trans hc) (by simp [hclear, hp]) (by simp [hb])
        · rename_i hc
          exact .of_idle (hphase.trans (h.phase_none fun ha => hc ha.2)) (fun ha => hc (hrole.symm.trans ha.2)) fun _ => hclear
      start := fun s t hcfg hrun hflag _ h => by
        have hclear : t.trip.flag = false := hflag.trans (h.config hcfg)
        split
        · rename_i hc
          exact fun _ _ p hp hb => .entered hrun hc (by simp [hclear, hp]) (by simp [hb])
        · rename_i hc
          exact fun hm => .of_idle (by rw [hm]; exact h.phase_none (by simp [hcfg])) (fun ha => hc ha.2) fun _ => hclear }

/-- Settles O7: every entry into a phase at rest forces the outputs off and sets the brake; a phase that asks for the bolt is
entered with the bolt WITHDRAWN, and a bolt that faults there trips. -/
theorem cornerStaysSafeAtRest : Obligations.CornerStaysSafeAtRest := by
  refine ⟨cornerStandsSafe_keptByDrive.kept (fun _ _ => (nomatch ·)) (fun _ _ => (nomatch ·)), ?_⟩
  have idle : ∀ {s : State}, s.AtRest → s.running = false → s.Unbolted := fun h hcfg =>
    .of_idle h.motion.phase (by simp [hcfg]) fun _ => h.untripped
  have kept : Kept State.Unbolted := unbolted_keptByDrive.kept (fun _ _ => idle (afterReset_atRest _ _ _ _ _ _ _) rfl)
    fun straps s => idle (orderReset_atRest straps s) rfl
  intro s t h hstep
  obtain ⟨ht, hb⟩ := (boltClearOfMotion_iff s).mp h
  exact (boltClearOfMotion_iff t).mpr ⟨tripFlagStaysWithPhase s t ht hstep, kept s t hb hstep⟩

end Sys2Proof.Machine
end

section
/-! PROOFS. What an event of a corner leaves, and how a cause trips it; the encoder (O47) and the timers of drive and bolt (O50). -/

namespace Sys2Proof.Machine

/-! ### What an event of a corner leaves -/

/-- The units that a corner's operations leave: the role blocks of the other roles and the signals. -/
def State.besideCorner (s : State) : ClosureUnit × ChannelUnit × DeskUnit × SignalUnit :=
  (s.closure, s.channel, s.desk, s.signal)

theorem besideCorner_of_besideMotion {s t : State} (h : t.besideMotion = s.besideMotion) : t.besideCorner = s.besideCorner :=
  congrArg Prod.snd h

/-- At a corner a cause leaves the other units. -/
theorem submitCause_besideCorner {s : State} (c : Cause) (hrole : s.role = .corner) :
    (submitCause c s).besideCorner = s.besideCorner := by
  have ofAside : ∀ {t : State} {trip : TripUnit}, t.aside = (trip, s.motion, s.closure, s.channel, s.desk) →
      t.signal = s.signal → t.besideCorner = s.besideCorner := by
    intro t trip ha hs
    simp only [State.aside, Prod.mk.injEq] at ha
    obtain ⟨-, -, hc, hch, hd⟩ := ha
    simp only [State.besideCorner, hc, hch, hd, hs]
  rcases submitCause_cases c s with ⟨-, h⟩ | ⟨-, -, trip, -, ha, hs⟩ | ⟨-, -, t, ht, ha, hs, hf⟩
  · rw [h]
  · exact ofAside ha hs
  · have hcorner : t.role = .corner := (role_of_fixed hf).trans hrole
    have he : enterTripped t = enterCorner .tripped .none t := by simp only [enterTripped, hcorner]
    rw [ht, he]
    exact (besideCorner_of_besideMotion (enterCorner_besideMotion _ _ t)).trans (ofAside ha hs)

/-- The operations of a corner leave the fixed part and the other units. -/
theorem besideCorner_keptByCorner (s : State) (hrole : s.role = .corner) :
    KeptByCorner fun t => t.fixed = s.fixed ∧ t.besideCorner = s.besideCorner where
  motion _ _ _ h := h
  latch _ _ h := h
  enter t p rel _ _ h :=
    ⟨(enterCorner_fixed p rel t).trans h.1, (besideCorner_of_besideMotion (enterCorner_besideMotion p rel t)).trans h.2⟩
  cause t c h :=
    ⟨(submitCause_fixed c t).trans h.1, (submitCause_besideCorner c ((role_of_fixed h.1).trans hrole)).trans h.2⟩

theorem unchangedBut_of_besideCorner {s t : State} (hf : t.fixed = s.fixed) (hb : t.besideCorner = s.besideCorner) :
    UnchangedBut [.feed, .reports, .trip, .motion] s t := by
  simp only [State.besideCorner, Prod.mk.injEq] at hb
  obtain ⟨hc, hch, hd, hs⟩ := hb
  exact (unchangedBut_of_fixed hf).narrow fun b hb hn => by cases b <;> simp_all [same, roleBlocks]

theorem CornerRun.unchangedBut {s t : State} (h : CornerRun s t) (hrole : s.role = .corner) :
    UnchangedBut [.feed, .reports, .trip, .motion] s t := by
  obtain ⟨hf, hb⟩ := (besideCorner_keptByCorner s hrole).run h ⟨rfl, rfl⟩
  exact unchangedBut_of_besideCorner hf hb

/-- An event of a corner leaves all but the link, the reports, the Trip Unit and the Motion Unit. -/
theorem CornerRun.event_unchangedBut {s u : State} (h : CornerRun (s.setFed false) u) (hrole : s.role = .corner) :
    UnchangedBut [.link, .reports, .trip, .motion] s (publish s u) :=
  Machine.event_unchangedBut (h.unchangedBut (s := s.setFed false) hrole)

@[simp] theorem publish_motion (before after : State) : (publish before after).motion = after.motion :=
  motion_of_aside (publish_aside before after)

/-! ### A cause trips a corner -/

/-- The corner has tripped with this cause alone, its outputs off and its brake set, from a Motion Unit. -/
structure TrippedFrom (c : Cause) (m : MotionUnit) (t : State) : Prop where
  phase : t.motion.phase = some .tripped
  flag : t.trip.flag = true
  causes : t.trip.causes = [c]
  vOut : t.motion.output.vOut = 0
  brakeOut : t.motion.brake.out = false
  stall : t.motion.stall = { timer := none, start := none }
  encoder : t.motion.encoder = m.encoder
  bolt : t.motion.bolt = m.bolt

/-- A first cause in RUN enters TRIPPED with its record (R182). -/
theorem submitCause_first {s : State} (c : Cause) (hrun : s.running = true) (hflag : s.trip.flag = false) :
    ∃ t, submitCause c s = enterTripped t ∧
      t.aside = ({ s.trip with flag := true, causes := [c] }, s.motion, s.closure, s.channel, s.desk) ∧ t.fixed = s.fixed := by
  obtain ⟨h, -⟩ | ⟨-, h, -⟩ | ⟨-, -, t, ht, ha, -, hf⟩ := submitCause_cases c s
  · simp [hrun, hflag] at h
  · simp [hflag] at h
  · exact ⟨t, ht, ha, hf⟩

theorem submitCause_trips {s : State} (c : Cause) (hrun : s.running = true) (hrole : s.role = .corner)
    (hflag : s.trip.flag = false) : TrippedFrom c s.motion (submitCause c s) := by
  have hcauses := submitCause_causes c hrun hflag
  have htrip : (submitCause c s).trip.flag = true := submitCause_tripped c hrun
  obtain ⟨t, ht, ha, hf⟩ := submitCause_first c hrun hflag
  have hm : t.motion = s.motion := motion_of_aside ha
  have hcorner : t.role = .corner := (role_of_fixed hf).trans hrole
  have he : submitCause c s = enterCorner .tripped .none t := by simp only [ht, enterTripped, hcorner]
  refine ⟨?_, htrip, hcauses, ?_, ?_, ?_, ?_, ?_⟩
  · rw [he, enterCorner_phase]
  · rw [he, enterCorner_output]
    exact (applyOutput_safe 0 t).1
  · rw [he, enterCorner_brakeOut]
    rfl
  · rw [he, enterCorner_stall]
    rfl
  · simp [he, hm]
  · rw [he, enterCorner_bolt, ← hm]
    rfl

theorem TrippedFrom.published {c : Cause} {m : MotionUnit} {t : State} (h : TrippedFrom c m t) (s : State) :
    TrippedFrom c m (publish s t) where
  phase := by simpa using h.phase
  flag := by simpa only [publish_trip] using h.flag
  causes := by simpa only [publish_trip] using h.causes
  vOut := by simpa using h.vOut
  brakeOut := by simpa using h.brakeOut
  stall := by simpa using h.stall
  encoder := by simpa using h.encoder
  bolt := by simpa using h.bolt

/-- A cause that finds the trip flag set joins the record, or raises its mark of more, and leaves the Motion Unit (R182). -/
theorem submitCause_joins {s : State} (c : Cause) (hrun : s.running = true) (hflag : s.trip.flag = true) :
    (submitCause c s).motion = s.motion ∧ (submitCause c s).trip =
      if c ∈ s.trip.causes then s.trip
      else if s.trip.causes.length < 4 then { s.trip with causes := s.trip.causes ++ [c] }
      else { s.trip with more := true } := by
  unfold submitCause
  rw [if_neg (by simp [hrun]), if_neg (by simp [hflag])]
  dsimp only
  by_cases hmem : c ∈ s.trip.causes
  · rw [if_pos hmem, if_pos hmem]
    exact ⟨rfl, rfl⟩
  · rw [if_neg hmem, if_neg hmem]
    by_cases hlen : s.trip.causes.length < 4
    · rw [if_pos hlen, if_pos hlen]
      exact ⟨report_motion .., trip_of_aside (report_aside ..)⟩
    · rw [if_neg hlen, if_neg hlen]
      by_cases hmore : s.trip.more = true
      · rw [if_pos hmore, ← hmore]
        exact ⟨rfl, rfl⟩
      · rw [if_neg hmore]
        exact ⟨report_motion .., trip_of_aside (report_aside ..)⟩

/-! ### The encoder -/

section
variable (s : State) (a b : Bool)

/-- The sample stored, and the count moved by an edge. -/
def encoderAfter (d : BitVec 32) : State :=
  { s with motion := { s.motion with
    encoder := { s.motion.encoder with a := a, b := b, count := s.motion.encoder.count + d } } }

/-- A legal edge stores the sample and moves the count, at every role. -/
theorem exec_encoder_legal {d : Int} (h : quadrature s.motion.encoder.a s.motion.encoder.b a b = some d) :
    exec (.encoderTransition a b) s = .next (encoderAfter s a b (BitVec.ofInt 32 d)) := by
  have hw : encoderSample a b (s.setFed false) = encoderAfter (s.setFed false) a b (BitVec.ofInt 32 d) := by
    unfold encoderSample
    rw [State.setFed_motion]
    dsimp only
    rw [h]
    rfl
  rw [exec_of_eventWork s rfl, hw]
  exact congrArg _ (event_same rfl rfl)

/-- The sample stored. -/
def sampleStored : State := s.onMotion fun m => { m with encoder := { m.encoder with a := a, b := b } }

theorem encoderSample_illegal (h : quadrature s.motion.encoder.a s.motion.encoder.b a b = none) :
    encoderSample a b s =
      if s.role = .corner then
        if s.running then submitCause .encoder (sampleStored s a b)
        else setPosition (setReferenced false (sampleStored s a b))
      else sampleStored s a b := by
  unfold encoderSample
  dsimp only
  rw [h]
  rfl

end

theorem quadrature_illegal : ∀ {a b a' b' : Bool}, a' ≠ a → b' ≠ b → quadrature a b a' b' = none := by decide

theorem quadrature_same (a b : Bool) : quadrature a b a b = some 0 := by cases a <;> cases b <;> rfl

/-- Settles O47: the quadrature table by its rows, and an illegal transition by role and mode. -/
theorem encoderCountsItsEdges : Obligations.EncoderCountsItsEdges := by
  intro s e edge illegal
  have legal : ∀ {a b a' b' : Bool} {d : Int} (d' : BitVec 32), quadrature a b a' b' = some d → BitVec.ofInt 32 d = d' →
      edge a b a' b' d' := by
    intro a b a' b' d d' hq hd ha hb
    rw [← hd]
    exact exec_encoder_legal s a' b' (by rw [ha, hb]; exact hq)
  have up : BitVec.ofInt 32 1 = 1#32 := by decide
  have down : BitVec.ofInt 32 (-1) = -1 := by decide
  refine ⟨⟨legal _ rfl up, legal _ rfl up, legal _ rfl up, legal _ rfl up⟩,
    ⟨legal _ rfl down, legal _ rfl down, legal _ rfl down, legal _ rfl down⟩, ?_, ?_⟩
  · rw [exec_encoder_legal s _ _ (quadrature_same _ _)]
    simp [encoderAfter]
  · intro a' b' ⟨ha, hb⟩
    have hwork := encoderSample_illegal (s.setFed false) a' b' (quadrature_illegal ha hb)
    have hexec : exec (.encoderTransition a' b') s = .next (publish s (encoderSample a' b' (s.setFed false))) :=
      exec_of_eventWork s rfl
    have hframe : s.role = .corner → UnchangedBut [.link, .reports, .trip, .motion] s
        (publish s (encoderSample a' b' (s.setFed false))) := fun hrole => CornerRun.refl.encoderSample.event_unchangedBut hrole
    refine ⟨fun hrole => ?_, fun hrole hcfg => ?_, fun hrole hrun hflag => ?_, fun hrole hrun hflag => ?_⟩
    · rw [hexec, hwork.trans (if_neg hrole)]
      exact congrArg _ (event_same rfl rfl)
    · rw [hexec, hwork.trans ((if_pos hrole).trans (if_neg (by simp [hcfg])))]
      exact congrArg _ (publish_same s _ (.inl hcfg))
    · refine ⟨_, hexec, ?_⟩
      have hw := hwork.trans ((if_pos hrole).trans (if_pos hrun))
      have ht := (submitCause_trips (s := sampleStored (s.setFed false) a' b') .encoder hrun hrole hflag).published s
      rw [← hw] at ht
      exact ⟨ht.flag, ht.causes, ht.phase, ht.encoder, hframe hrole⟩
    · refine ⟨_, hexec, ?_⟩
      have hw := hwork.trans ((if_pos hrole).trans (if_pos hrun))
      obtain ⟨hm, ht⟩ := submitCause_joins (s := sampleStored (s.setFed false) a' b') .encoder hrun hflag
      rw [← hw, ← publish_trip s] at ht
      rw [← hw, ← publish_motion s] at hm
      refine ⟨hm, fun hmem => ht.trans (if_pos hmem), fun hmem hlen => ht.trans ((if_neg hmem).trans (if_pos hlen)),
        fun hmem hlen => ht.trans ((if_neg hmem).trans (if_neg (Nat.not_lt.mpr hlen))), hframe hrole⟩

/-! ### The timers of drive and bolt -/

/-- Settles O50: the dead time writes the output stage alone, and the other two timers submit their cause. -/
theorem driveTimersExpire : Obligations.DriveTimersExpire := by
  intro s
  refine ⟨fun hdead => ?_, fun hrun hrole hflag hstall => ?_, fun hrun hrole htimer hbolt => ?_⟩
  · have hw : deadExpiry (s.setFed false) = _ := if_pos hdead
    rw [exec_of_eventWork s rfl, hw]
    exact congrArg _ (event_same rfl rfl)
  · refine ⟨_, exec_of_eventWork s rfl, ?_⟩
    have hw : stallExpiry (s.setFed false) = _ := if_pos hstall
    have ht := (submitCause_trips
      (s := (s.setFed false).onMotion fun m => { m with stall := { m.stall with timer := none } }) .stall hrun hrole hflag).published s
    rw [← hw] at ht
    exact ⟨ht.causes, ht.phase, ht.vOut, ht.brakeOut, by rw [ht.stall], CornerRun.refl.stallExpiry.event_unchangedBut hrole⟩
  · refine ⟨_, exec_of_eventWork s rfl, ?_⟩
    have hw : boltTimeout (s.setFed false) = submitCause .bolt (restBolt .fault (s.setFed false)) := if_pos ⟨htimer, hbolt⟩
    have hframe := CornerRun.event_unchangedBut (CornerRun.boltTimeout (s := s.setFed false) .refl) hrole
    cases hflag : s.trip.flag with
    | false =>
      have ht := (submitCause_trips (s := restBolt .fault (s.setFed false)) .bolt hrun hrole hflag).published s
      rw [← hw] at ht
      exact ⟨ht.bolt, ht.flag, fun _ => ht.causes, hframe⟩
    | true =>
      obtain ⟨hm, -⟩ := submitCause_joins (s := restBolt .fault (s.setFed false)) .bolt hrun hflag
      have ht : (submitCause .bolt (restBolt .fault (s.setFed false))).trip.flag = true := submitCause_tripped .bolt hrun
      rw [← hw, ← publish_motion s] at hm
      rw [← hw, ← publish_trip s] at ht
      exact ⟨by rw [hm]; rfl, ht, nofun, hframe⟩

end Sys2Proof.Machine
end

section
/-! PROOFS. The condition causes of a corner in the phases that an entry passes through, and HOME (O29). -/

namespace Sys2Proof.Machine

/-! ### Changes of the Motion Unit alone -/

/-- From `s` to `t` nothing but the Motion Unit, the reports and the mark of fed changes has changed. -/
structure MotionOnly (s t : State) : Prop where
  fixed : t.fixed = s.fixed
  beside : t.besideMotion = s.besideMotion

namespace MotionOnly

variable {s t u : State}

theorem refl (s : State) : MotionOnly s s := ⟨rfl, rfl⟩

theorem trans (h : MotionOnly s t) (k : MotionOnly t u) : MotionOnly s u :=
  ⟨k.fixed.trans h.fixed, k.beside.trans h.beside⟩

theorem onMotion (f : MotionUnit → MotionUnit) (s : State) : MotionOnly s (s.onMotion f) := ⟨rfl, rfl⟩

theorem enterCorner (p : CornerPhase) (rel : Intent) (s : State) : MotionOnly s (enterCorner p rel s) :=
  ⟨enterCorner_fixed p rel s, enterCorner_besideMotion p rel s⟩

theorem clearLeftBehind (s : State) : MotionOnly s (clearLeftBehind s) := by
  unfold Machine.clearLeftBehind
  split
  · exact onMotion _ s
  · exact refl s

theorem trip (h : MotionOnly s t) : t.trip = s.trip := congrArg (·.1) h.beside
theorem role (h : MotionOnly s t) : t.role = s.role := role_of_fixed h.fixed
theorem running (h : MotionOnly s t) : t.running = s.running := running_of_fixed h.fixed

theorem filtered (h : MotionOnly s t) (i : Fin 25) : t.filtered i = s.filtered i := by
  simp only [State.filtered, State.inputLine, inputs_of_fixed h.fixed]

theorem demandView (h : MotionOnly s t) (hrole : s.role = .corner) : t.demandView = s.demandView :=
  demandView_of_fixed (by simp [hrole]) h.fixed

theorem unchangedBut (h : MotionOnly s t) : UnchangedBut [.feed, .reports, .motion] s t := by
  have hb := h.beside
  simp only [State.besideMotion, Prod.mk.injEq] at hb
  obtain ⟨ht, hc, hch, hd, hs⟩ := hb
  exact (unchangedBut_of_fixed h.fixed).narrow fun b hb hn => by cases b <;> simp_all [same, roleBlocks]

end MotionOnly

/-! ### The condition causes of the phases passed through -/

theorem enterCorner_seat (p : CornerPhase) (rel : Intent) (s : State) : (enterCorner p rel s).seat = s.seat :=
  (MotionOnly.enterCorner p rel s).filtered 0

theorem toCorner_homing (rel : Intent) (s : State) : toCorner .homing rel s =
    if s.seat then completeHoming (enterCorner .homing rel s) else enterCorner .homing rel s := by
  have hm : movingPhase .homing = false := rfl
  simp [toCorner, hm, enterCorner_seat]

/-- Where no condition cause holds the corner stays. -/
theorem cornerReact_stays {s : State} (h : cornerCondition (clearLeftBehind s) = none) : cornerReact s = clearLeftBehind s := by
  simp only [cornerReact, cornerSettle, h]

/-- One condition cause holds, and behind it none. -/
theorem cornerReact_moves {s t : State} (h : cornerCondition (clearLeftBehind s) = some t) (ht : cornerCondition t = none) :
    cornerReact s = t := by
  simp only [cornerReact, cornerSettle, h, ht]

theorem clearLeftBehind_of_raise {s : State} (h : s.demandView = .raise) : clearLeftBehind s = s := if_neg (by simp [h])

/-- The Motion Unit behind the clearing of the left-behind flag: nothing else of it changes. -/
theorem clearLeftBehind_motion (s : State) : ∃ b, (clearLeftBehind s).motion = { s.motion with leftBehind := b } := by
  unfold clearLeftBehind
  split
  · exact ⟨false, rfl⟩
  · exact ⟨s.motion.leftBehind, rfl⟩

theorem cornerCondition_tripped {s : State} (h : s.motion.phase = some .tripped) : cornerCondition s = none := by
  unfold cornerCondition
  rw [h]

theorem cornerCondition_halting {s : State} (h : s.motion.phase = some .halting) : cornerCondition s = none := by
  unfold cornerCondition
  rw [h]

theorem cornerCondition_unreferenced {s : State} (h : s.motion.phase = some .unreferenced) : cornerCondition s = none := by
  unfold cornerCondition
  rw [h]

theorem cornerCondition_homing {s : State} (h : s.motion.phase = some .homing) (hm : s.maint = true)
    (hr : s.demandView ≠ .raise) (hl : s.demandView ≠ .lower) : cornerCondition s = none := by
  unfold cornerCondition
  simp [h, hm, hr, hl]

theorem cornerCondition_seated {s : State} (h : s.motion.phase = some .seated) (hr : s.demandView ≠ .raise) :
    cornerCondition s = some (enterCorner .locking .none s) := by
  unfold cornerCondition
  rw [h]
  simp only [hr, ne_eq, not_false_eq_true, if_true]
  rw [toCorner_at_rest .none s]

theorem cornerCondition_locking {s : State} (h : s.motion.phase = some .locking) :
    cornerCondition s = if s.motion.bolt.state = .driven then some (enterCorner .seatedLocked .none s) else none := by
  unfold cornerCondition
  rw [h]
  simp only [toCorner_at_rest .none s (p := .seatedLocked)]

/-- SEATED_LOCKED is left under the unlock permission, which asks for a demand of RAISE, alone (R73). -/
theorem cornerCondition_seatedLocked {s : State} (h : s.motion.phase = some .seatedLocked) (hu : s.unlockPermission = false) :
    cornerCondition s = none := by
  unfold cornerCondition
  simp [h, hu]

theorem unlockPermission_of_ne {s : State} (h : s.demandView ≠ .raise) : s.unlockPermission = false := by
  simp [State.unlockPermission, h]

theorem cornerCondition_held {s : State} (h : s.motion.phase = some .held) (hr : s.demandView ≠ .raise)
    (hl : s.demandView ≠ .lower) : cornerCondition s = none := by
  unfold cornerCondition
  simp [h, State.loweringPermission, State.raisingPermission, hr, hl]

/-- The bolt that LOCKING commands is not yet driven, unless it was or stands faulted. -/
theorem locking_bolt {s : State} (h : s.motion.bolt.state = .withdrawn ∨ s.motion.bolt.state = .withdrawing) (rel : Intent) :
    (enterCorner .locking rel s).motion.bolt =
      { state := .driving, driveOut := s.driveCondition, withdrawOut := false, travelTimer := some s.boltTravelTime } := by
  rw [enterCorner_bolt]
  rcases h with h | h <;> simp [boltOnEntry, driveBolt, h, startDriving, State.onBolt]

/-- From SEATED, without a demand of RAISE, a corner goes on to LOCKING, and stays there while its bolt travels (R76, R77). -/
theorem cornerReact_seated {s : State} (hrole : s.role = .corner) (hp : s.motion.phase = some .seated)
    (hr : s.demandView ≠ .raise) (hb : s.motion.bolt.state = .withdrawn ∨ s.motion.bolt.state = .withdrawing) :
    cornerReact s = enterCorner .locking .none (clearLeftBehind s) := by
  have hd : (clearLeftBehind s).demandView ≠ .raise := by rwa [(MotionOnly.clearLeftBehind s).demandView hrole]
  obtain ⟨b, hm⟩ := clearLeftBehind_motion s
  refine cornerReact_moves (cornerCondition_seated (by rw [hm]; exact hp) hd) ?_
  rw [cornerCondition_locking (enterCorner_phase _ _ _), locking_bolt (by rwa [hm])]
  rfl

/-- From `s`, in SEATED, a corner has gone on to LOCKING and drives its bolt (R76, R77). -/
structure Locks (s t : State) : Prop where
  rest : MotionOnly s t
  phase : t.motion.phase = some .locking
  encoder : t.motion.encoder = s.motion.encoder
  pos : t.motion.pos = s.motion.pos
  position : t.motion.position = s.motion.position
  bolt : t.motion.bolt.state = .driving
  driveOut : t.motion.bolt.driveOut = s.driveCondition
  brakeOut : t.motion.brake.out = false

theorem cornerReact_locks {s : State} (hrole : s.role = .corner) (hp : s.motion.phase = some .seated)
    (hr : s.demandView ≠ .raise) (hb : s.motion.bolt.state = .withdrawn) : Locks s (cornerReact s) := by
  obtain ⟨b, hm⟩ := clearLeftBehind_motion s
  have hrest := MotionOnly.clearLeftBehind s
  have hbolt := locking_bolt (s := clearLeftBehind s) (.inl (by rw [hm]; exact hb)) .none
  have hdrive : (clearLeftBehind s).driveCondition = s.driveCondition := by
    have hc : (clearLeftBehind s).config = s.config := config_of_fixed hrest.fixed
    simp only [State.driveCondition, State.seat, State.seatTolerance, hrest.filtered, hc, hm]
    rfl
  rw [cornerReact_seated hrole hp hr (.inl hb)]
  refine ⟨hrest.trans (.enterCorner _ _ _), enterCorner_phase _ _ _, ?_, ?_, ?_, by rw [hbolt], by rw [hbolt, ← hdrive], ?_⟩
  · rw [enterCorner_encoder, hm]
    rfl
  · rw [enterCorner_pos, hm]
  · rw [enterCorner_position, hm]
    rfl
  · rw [enterCorner_brakeOut]
    rfl

/-! ### Orders that are accepted -/

/-- An accepted order that writes the reports and the blocks of the station's role is answered; what it has written stands. -/
theorem takeOrder_taken {o : Order} {d : State → State × Answer} {a : Answer} {u s : State}
    (ho : s.port.orders.head? = some o) (hd : d ((removeOrder o s).setFed false) = (u, a))
    (hf : u.fixed = ((removeOrder o s).setFed false).fixed) :
    Answered s (takeOrder o d s) o a.outcome a.reason a.extra ∧ (takeOrder o d s).aside = u.aside ∧
      ∀ l, UnchangedBut (.feed :: l) ((removeOrder o s).setFed false) u →
        UnchangedBut (.orderQueue :: .link :: .reports :: l) s (takeOrder o d s) := by
  rw [takeOrder_head o d s ho, hd]
  set v := publish (removeOrder o s) u with hv
  have hun : v.fixed.unlinked = (removeOrder o s).fixed.unlinked :=
    (publish_unlinked _ _).trans (congrArg Fixed.unlinked hf)
  have hfix := answerOrder_fixed o s.port.orderNumber a v
  have htime : v.time = s.time := congrArg Fixed.time hun
  refine ⟨⟨(congrArg Fixed.orders hfix).trans (congrArg Fixed.orders hun),
    (congrArg Fixed.orderNumber hfix).trans (congrArg Fixed.orderNumber hun), ?_, answerOrder_refused o _ a _⟩, ?_, fun l hl => ?_⟩
  · have hlast := answerOrder_last o s.port.orderNumber a v
    rw [htime] at hlast
    exact hlast
  · exact (aside_of_unchangedBut (answerOrder_unchangedBut _ _ _ _) (by decide)).trans (publish_aside _ _)
  · have hp : UnchangedBut (.link :: l) (removeOrder o s) v := event_unchangedBut hl
    have hl' : .link :: l ⊆ .orderQueue :: .link :: .reports :: l :=
      fun b hb => by
        rcases List.mem_cons.mp hb with rfl | hb
        · simp
        · simp [hb]
    exact unchangedBut_comp (unchangedBut_comp (removeOrder_unchangedBut o s) hp (by simp) hl')
      (answerOrder_unchangedBut _ _ _ _) (List.Subset.refl _) (by simp)

/-! ### HOME -/

/-- A corner that HOME finds off its seat is in HOMING, and stays there (R90, R91). -/
theorem home_off_seat {s : State} (hrole : s.role = .corner) (hseat : s.seat = false) (hm : s.maint = true)
    (hr : s.demandView ≠ .raise) (hl : s.demandView ≠ .lower) :
    cornerReact (toCorner .homing .none s) = clearLeftBehind (enterCorner .homing .none s) := by
  rw [toCorner_homing, if_neg (by simp [hseat])]
  have h : MotionOnly s (clearLeftBehind (enterCorner .homing .none s)) :=
    (MotionOnly.enterCorner .homing .none s).trans (.clearLeftBehind _)
  obtain ⟨b, hb⟩ := clearLeftBehind_motion (enterCorner .homing .none s)
  refine cornerReact_stays (cornerCondition_homing ?_ ?_ ?_ ?_)
  · rw [hb]
    exact enterCorner_phase _ _ _
  · exact (h.filtered 24).trans hm
  · rwa [h.demandView hrole]
  · rwa [h.demandView hrole]

/-- The Motion Unit behind a complete homing, as it enters SEATED (R46). -/
def atHome (s : State) : State := setPosition (setReferenced true (zeroCount s))

theorem completeHoming_eq (s : State) : completeHoming s = enterCorner .seated .none (atHome s) := rfl

theorem MotionOnly.completeHoming (s : State) : MotionOnly s (completeHoming s) := by
  rw [completeHoming_eq]
  exact (MotionOnly.onMotion _ s).trans ((MotionOnly.onMotion _ _).trans ((MotionOnly.onMotion _ _).trans (.enterCorner _ _ _)))

/-- A complete homing zeroes count and P, sets the referenced flag, and leaves the bolt (R46). -/
theorem completeHoming_motion (s : State) : (completeHoming s).motion.encoder.count = 0 ∧
    (completeHoming s).motion.encoder.referenced = true ∧ (completeHoming s).motion.position = 0 ∧
    (completeHoming s).motion.bolt = s.motion.bolt := by
  rw [completeHoming_eq, enterCorner_encoder, enterCorner_position, enterCorner_bolt]
  exact ⟨rfl, rfl, rfl, rfl⟩

/-- Behind a complete homing a corner locks (R46, R76, R91). -/
theorem cornerReact_completeHoming {s : State} (hrole : s.role = .corner) (hr : s.demandView ≠ .raise)
    (hb : s.motion.bolt.state = .withdrawn) : Locks (completeHoming s) (cornerReact (completeHoming s)) := by
  have h := MotionOnly.completeHoming s
  exact cornerReact_locks (h.role.trans hrole) (enterCorner_phase _ _ _) (by rwa [h.demandView hrole])
    (by rw [(completeHoming_motion s).2.2.2]; exact hb)

/-- The reasons that refuse HOME at a corner, in their order (R90). -/
theorem orderHome_at_corner {s : State} (hrole : s.role = .corner) : orderHome s =
    if ¬(s.motion.phase = some .unreferenced ∨ s.motion.phase = some .held) then (s, refused .wrongState)
    else if s.maint = false then (s, refused .notEnabled)
    else if s.demandView = .raise ∨ s.demandView = .lower ∨ s.motion.bolt.state ≠ .withdrawn then (s, refused .notNow)
    else (cornerReact (toCorner .homing .none s), accepted) := by
  have hs : (!(s.cornerIs .unreferenced || s.cornerIs .held)) = true ↔
      ¬(s.motion.phase = some .unreferenced ∨ s.motion.phase = some .held) := by
    simp [State.cornerIs]
  unfold orderHome
  rw [if_neg (by simp [hrole])]
  simp only [hs]

/-- Settles O29: the reasons in their order, and the two outcomes. -/
theorem homeStartsHoming : Obligations.HomeStartsHoming := by
  intro s ho hrole refuses standing
  have hexec : exec .home s = .next (takeOrder .home orderHome s) := exec_of_orderDecision s rfl rfl
  let v := (removeOrder .home s).setFed false
  have hv := orderHome_at_corner (s := v) hrole
  have refuse : ∀ r : Reason, orderHome v = (v, refused r) → refuses r := fun r hd =>
    ⟨_, hexec, takeOrder_refused s ho hd⟩
  refine ⟨fun hn => refuse _ (hv.trans (if_pos hn)),
    fun hs hm => refuse _ (hv.trans ((if_neg (not_not_intro hs)).trans (if_pos hm))),
    fun hs hm hd => refuse _ (hv.trans ((if_neg (not_not_intro hs)).trans
      ((if_neg (show ¬v.maint = false by rw [show v.maint = true from hm]; decide)).trans (if_pos hd)))),
    fun hs hm hr hl hb => ?_⟩
  have hd : orderHome v = (cornerReact (toCorner .homing .none v), accepted) :=
    hv.trans ((if_neg (not_not_intro hs)).trans
      ((if_neg (show ¬v.maint = false by rw [show v.maint = true from hm]; decide)).trans
        (if_neg fun h => h.elim hr fun h => h.elim hl fun h => h hb)))
  cases hseat : s.seat with
  | false =>
    have hw := home_off_seat (s := v) hrole hseat hm hr hl
    have hmo : MotionOnly v (cornerReact (toCorner .homing .none v)) := by
      rw [hw]
      exact (MotionOnly.enterCorner .homing .none v).trans (.clearLeftBehind _)
    obtain ⟨hans, ha, hun⟩ := takeOrder_taken ho hd hmo.fixed
    refine ⟨_, hexec, hans, ?_, (hun _ hmo.unchangedBut).mono (by simp)⟩
    obtain ⟨b, hb⟩ := clearLeftBehind_motion (enterCorner .homing .none v)
    have hm : (takeOrder .home orderHome s).motion = { (enterCorner .homing .none v).motion with leftBehind := b } := by
      rw [motion_of_aside ha, ← hb, ← hw]
      rfl
    have he := enterCorner_encoder .homing .none v
    rw [if_pos rfl] at he
    rw [if_neg (by decide), hm]
    refine ⟨enterCorner_phase _ _ _, ?_, ?_, enterCorner_position _ _ _, enterCorner_intent _ _ _, enterCorner_goal _ _ _,
      enterCorner_brakeOut _ _ _, enterCorner_holdTimer _ _ _⟩
    · exact (congrArg Encoder.count he : (enterCorner .homing .none v).motion.encoder.count = _)
    · exact (congrArg Encoder.referenced he : (enterCorner .homing .none v).motion.encoder.referenced = _)
  | true =>
    have he := MotionOnly.enterCorner .homing .none v
    let w := enterCorner .homing .none v
    have hlocks : Locks (completeHoming w) (cornerReact (completeHoming w)) :=
      cornerReact_completeHoming (he.role.trans hrole) (by rwa [he.demandView hrole]) (by rw [enterCorner_bolt]; exact hb)
    obtain ⟨hcount, href, hposition, -⟩ := completeHoming_motion w
    have hw : toCorner .homing .none v = completeHoming w := by
      rw [toCorner_homing, if_pos (show v.seat = true from hseat)]
    have hrest := he.trans ((MotionOnly.completeHoming w).trans hlocks.rest)
    rw [hw] at hd
    obtain ⟨hans, ha, hun⟩ := takeOrder_taken ho hd hrest.fixed
    refine ⟨_, hexec, hans, ?_, (hun _ hrest.unchangedBut).mono (by simp)⟩
    have hm : (takeOrder .home orderHome s).motion = (cornerReact (completeHoming w)).motion := motion_of_aside ha
    rw [if_pos rfl, hm, hlocks.encoder, hlocks.position]
    exact ⟨hlocks.phase, hcount, href, hposition, hlocks.brakeOut⟩

end Sys2Proof.Machine
end

section
/-! PROOFS. The first phase of each role at an accepted RUN (O26). -/

namespace Sys2Proof.Machine

/-! ### Arms that stand -/

/-- No arm moves or waits. -/
def ArmsStand (s : State) : Prop := ∀ i, (s.arm i).state ∉ [some .lowering, some .raising, some .waiting]

/-- Every arm keeps its state and its retry count. -/
def ArmsKept (s t : State) : Prop := ∀ i, (t.arm i).retry = (s.arm i).retry ∧ (t.arm i).state = (s.arm i).state

namespace ArmsKept

variable {s t u : State}

theorem refl (s : State) : ArmsKept s s := fun _ => ⟨rfl, rfl⟩

theorem trans (h : ArmsKept s t) (k : ArmsKept t u) : ArmsKept s u := fun i =>
  ⟨(k i).1.trans (h i).1, (k i).2.trans (h i).2⟩

theorem stand (h : ArmsKept s t) (hs : ArmsStand s) : ArmsStand t := fun i => by
  rw [(h i).2]
  exact hs i

theorem of_arms (h : t.closure.arms = s.closure.arms) : ArmsKept s t := fun i => by
  have hi : t.arm i = s.arm i := by rw [State.arm, h]; rfl
  rw [hi]
  exact ⟨rfl, rfl⟩

/-- An operation of one arm. -/
theorem of_arm {i : Fin 4} (hb : t.besideArm i = s.besideArm i)
    (hi : (t.arm i).retry = (s.arm i).retry ∧ (t.arm i).state = (s.arm i).state) : ArmsKept s t := by
  intro j
  by_cases hj : j = i
  · exact hj ▸ hi
  · rw [arm_of_besideArm hb hj]
    exact ⟨rfl, rfl⟩

/-- What each arm's operation keeps, the operations of all arms keep. -/
theorem foldl {g : State → Fin 4 → State} (hg : ∀ t i, ArmsStand t → ArmsKept t (g t i)) (l : List (Fin 4))
    (hs : ArmsStand s) : ArmsKept s (l.foldl g s) :=
  List.foldlRecOn (motive := ArmsKept s) l g (refl s) fun t ht i _ => ht.trans (hg t i (ht.stand hs))

/-- The withdrawal of a command leaves an arm that stands (R120). -/
theorem commandNone (i : Fin 4) (hs : ArmsStand s) : ArmsKept s (commandArm i .none s) := by
  refine of_arm (commandArm_besideArm i s .none) ?_
  have hi := hs i
  unfold commandArm
  dsimp only
  split
  · exact ⟨rfl, rfl⟩
  · split
    case h_1 | h_2 | h_3 | h_4 | h_5 | h_6 => contradiction
    case h_7 => simp
    case h_8 hst => simp [hst] at hi
    case h_9 hst => simp [hst] at hi
    case h_10 => simp

theorem drive (i : Fin 4) : ArmsKept s (driveArm i s) :=
  of_arm (driveArm_besideArm i s) ⟨by simp [driveArm], (driveArm_safe i s).1⟩

/-- A trip leaves an arm that stands (R114). -/
theorem trip (i : Fin 4) (hs : ArmsStand s) : ArmsKept s (tripArm i s) := by
  have hi := hs i
  have hl : s.armIs i .lowering = false := by
    simp only [State.armIs, beq_eq_false_iff_ne]
    exact fun h => hi (by simp [h])
  have hr : s.armIs i .raising = false := by
    simp only [State.armIs, beq_eq_false_iff_ne]
    exact fun h => hi (by simp [h])
  unfold tripArm
  rw [hl, hr]
  exact (commandNone i hs).trans (drive i)

/-- Entering HOLDING or TRIPPED withdraws the commands of arms that stand (R112, R114). -/
theorem enterApproach {p : ApproachPhase} (held : Option ApproachPhase) (hp : p = .holding ∨ p = .tripped) (hs : ArmsStand s) :
    ArmsKept s (enterApproach p held s) := by
  obtain ⟨t, ht, ha, -⟩ := enterApproach_eq p held s
  have h0 : ArmsKept s t := of_arms (by rw [closure_of_aside ha]; rfl)
  rw [ht]
  refine h0.trans ?_
  rcases hp with rfl | rfl
  · have hall : approachActions .holding t = arms.foldl (fun u i => if true then commandArm i .none u else u) t := rfl
    rw [hall]
    refine foldl (fun u i hu => ?_) arms (h0.stand hs)
    rw [if_pos rfl]
    exact commandNone i hu
  · have hall : approachActions .tripped t = arms.foldl (fun u i => tripArm i u) t := rfl
    rw [hall]
    exact foldl (fun u i hu => trip i hu) arms (h0.stand hs)

end ArmsKept

/-! ### The arms that RUN derives -/

/-- The state of an arm at RUN (R119). -/
def State.armAtRun (s : State) (i : Fin 4) : ArmState :=
  if s.isFitted i then derivedState (s.armPattern i) else .notFitted

theorem arm_of_closure {s t : State} (h : t.closure = s.closure) (i : Fin 4) : t.arm i = s.arm i := by
  rw [State.arm, h]
  rfl

/-- An arm that takes a state has it, and keeps its retry count. -/
theorem enterArm_self (i : Fin 4) (x : ArmState) (event : Nat) (s : State) :
    ((enterArm i x event s).arm i).retry = (s.arm i).retry ∧ ((enterArm i x event s).arm i).state = some x := by
  unfold enterArm
  dsimp only
  split
  · exact ⟨rfl, ‹_›⟩
  · split
    · simp [latch, State.onPort, State.arm, feed, State.onArm]
    · simp [State.arm, feed, State.onArm]

theorem deriveArm_self (i : Fin 4) (s : State) :
    ((deriveArm i s).arm i).retry = 0 ∧ ((deriveArm i s).arm i).state = some (s.armAtRun i) := by
  unfold deriveArm State.armAtRun
  dsimp only
  split
  · obtain ⟨hr, hs⟩ := enterArm_self i (derivedState (s.armPattern i)) 1 (s.onArm i fun a => { a with retry := 0 })
    rw [hr, hs]
    simp
  · simp

theorem armAtRun_of_fixed {s t : State} (h : t.fixed = s.fixed) (i : Fin 4) : t.armAtRun i = s.armAtRun i := by
  have hc : t.config = s.config := config_of_fixed h
  have hf : ∀ i, t.filtered i = s.filtered i := fun i => by simp only [State.filtered, State.inputLine, inputs_of_fixed h]
  simp only [State.armAtRun, State.isFitted, State.isEntryArm, State.isExitArm, State.armPattern, hc, hf]
  rfl

/-- Every arm of a list without repetitions is derived from the state before the first. -/
theorem deriveArms_arm (s : State) (i : Fin 4) :
    ((deriveArms s).arm i).retry = 0 ∧ ((deriveArms s).arm i).state = some (s.armAtRun i) := by
  have self : ∀ {t : State}, t.fixed = s.fixed →
      ((deriveArm i t).arm i).retry = 0 ∧ ((deriveArm i t).arm i).state = some (s.armAtRun i) := by
    intro t ht
    rw [← armAtRun_of_fixed ht]
    exact deriveArm_self i t
  have other : ∀ {j : Fin 4} {t : State}, i ≠ j → (deriveArm j t).arm i = t.arm i := fun hj =>
    arm_of_besideArm (deriveArm_besideArm _ _) hj
  have hall : deriveArms s = deriveArm 3 (deriveArm 2 (deriveArm 1 (deriveArm 0 s))) := by
    simp only [deriveArms, arms, List.foldl_cons, List.foldl_nil]
  have hi : i = 0 ∨ i = 1 ∨ i = 2 ∨ i = 3 := by omega
  rw [hall]
  rcases hi with rfl | rfl | rfl | rfl
  · rw [other (by decide), other (by decide), other (by decide)]
    exact self rfl
  · rw [other (by decide), other (by decide)]
    exact self (by simp)
  · rw [other (by decide)]
    exact self (by simp)
  · exact self (by simp)

theorem armAtRun_stands {s t : State} (h : ∀ i, (t.arm i).state = some (s.armAtRun i)) : ArmsStand t := by
  intro i
  rw [h i, State.armAtRun]
  split
  · cases s.armPattern i <;> simp [derivedState]
  · simp

/-! ### What RUN hands to the role block -/

/-- The state that the accepted RUN order of `s` hands to the role block. -/
def handedAtRun (s : State) : State := atRun ((removeOrder .run s).setFed false)

section
variable (s : State)

theorem handedAtRun_aside : (handedAtRun s).aside = s.aside := atRun_aside _

theorem handedAtRun_unlinked :
    (handedAtRun s).fixed.unlinked = ((removeOrder .run s).setFed false).started.fixed.unlinked := atRun_unlinked _

theorem handedAtRun_running : (handedAtRun s).running = true := congrArg Fixed.running (handedAtRun_unlinked s)
theorem handedAtRun_straps : (handedAtRun s).straps = s.straps := congrArg Fixed.straps (handedAtRun_unlinked s)
theorem handedAtRun_config : (handedAtRun s).config = s.config := congrArg Fixed.config (handedAtRun_unlinked s)
theorem handedAtRun_inputs : (handedAtRun s).inputs = s.inputs := congrArg Fixed.inputs (handedAtRun_unlinked s)
theorem handedAtRun_startInhibit : (handedAtRun s).port.startInhibit = true :=
  congrArg Fixed.startInhibit (handedAtRun_unlinked s)
theorem handedAtRun_trip : (handedAtRun s).trip = s.trip := trip_of_aside (handedAtRun_aside s)

theorem handedAtRun_filtered (i : Fin 25) : (handedAtRun s).filtered i = s.filtered i := by
  simp only [State.filtered, State.inputLine, handedAtRun_inputs]

/-- No entry that RUN creates qualifies, so at a station that is no desk no demand is shown (R7, R16, R17). -/
theorem handedAtRun_demandView (hrole : s.role ≠ .desk) : (handedAtRun s).demandView = .none := by
  have hdesk : (handedAtRun s).straps.role ≠ .desk := by rw [handedAtRun_straps]; exact hrole
  have hpeers : (handedAtRun s).peers = runPeers ((removeOrder .run s).setFed false) :=
    congrArg Fixed.peers (handedAtRun_unlinked s)
  have none : ∀ d, (handedAtRun s).showsDemand d = false := by
    intro d
    rw [Bool.eq_false_iff]
    intro h
    obtain ⟨goal, hg⟩ := (showsDemand_iff _ d).mp h
    obtain ⟨j, c, count, ceiling, cause, hc, hp⟩ := (mem_countedDesks _ d goal).mp hg
    rw [counted_eq_some] at hc
    split at hc
    · rw [hc] at hp
      exact hdesk ((ownPayload_eq_desk _ _ _ _ _ _ _).mp hp).1
    · obtain ⟨e, x, he, hf, -⟩ := hc
      rw [runPeers_peer _ _ hpeers, runSlot] at he
      split at he
      · cases he
        cases hf
      · cases he
  simp [demandView_eq, none]

end

/-- The state that RUN derives for an arm, by its configuration and its pattern (R116, R119). -/
theorem handedAtRun_armAtRun (s : State) (i : Fin 4) : (handedAtRun s).armAtRun i =
    if s.config.item (35 + i.val) = 0 ∨ s.config.item (35 + i.val) = 1 then
      match s.armPattern i with
      | .atFirst => .raised
      | .atSecond => .lowered
      | .travelling => .fault .disturbed
      | .invalid => .fault .limitPattern
    else .notFitted := by
  have hp : (handedAtRun s).armPattern i = s.armPattern i := by simp only [State.armPattern, handedAtRun_filtered]
  have hf : (handedAtRun s).isFitted i = true ↔ s.config.item (35 + i.val) = 0 ∨ s.config.item (35 + i.val) = 1 := by
    simp [State.isFitted, State.isEntryArm, State.isExitArm, handedAtRun_config]
  simp only [State.armAtRun, hf, hp]
  cases s.armPattern i <;> rfl

theorem runRole_by_role (s : State) :
    (s.role = .corner → runRole s = runCorner s) ∧ (s.role = .approach → runRole s = runApproach s) ∧
      (s.role = .channel → runRole s = runChannel s) ∧ (s.role = .desk → runRole s = runDesk s) := by
  refine ⟨fun h => ?_, fun h => ?_, fun h => ?_, fun h => ?_⟩ <;> simp only [runRole, h]

/-- The units of the role behind the accepted RUN order are those that its part of the order leaves. -/
theorem exec_run_aside {s t : State} (h : exec .run s = .next t) (ho : s.port.orders.head? = some .run)
    (hrun : s.running = false) (hc : s.failedCheck = none) : t.aside = (runRole (handedAtRun s)).aside := by
  rw [exec_run ho hrun hc] at h
  injection h with h
  rw [← h, aside_of_unchangedBut (answerOrder_unchangedBut _ _ _ _) (by decide)]
  show (startRun _).aside = _
  rw [startRun, fillBoth_aside, onLine_aside, onLine_aside]
  rfl

/-! ### The role's part of the order -/

theorem runApproach_eq (s : State) : runApproach s = approachReact
    (submitIf s.trip.estopFiltered .estop (enterApproach .holding (some .redClearance) (deriveArms s))) := by
  unfold runApproach
  dsimp only
  rw [enterApproach_trip, trip_of_besideArms (deriveArms_besideArms s)]

theorem runChannel_eq (s : State) :
    runChannel s = channelReact (submitIf s.trip.estopFiltered .estop (enterChannel .closing s)) := by
  unfold runChannel
  dsimp only
  rw [enterChannel_trip]

theorem runDesk_eq (s : State) : runDesk s = deskIndicators (submitIf s.trip.estopFiltered .estop
    (enterDesk (if s.enableKey then .active else .inactive) s.desk.heldDemand s)) := by
  unfold runDesk
  dsimp only
  rw [enterDesk_trip]

section
variable {s : State} (hrun : s.running = true) (hflag : s.trip.flag = false)
include hrun hflag

/-- The first phase of an approach (R113, R119, R181). -/
theorem runApproach_first (hrole : s.role = .approach) (hin : s.port.startInhibit = true) :
    (runApproach s).closure.phase = some (if s.trip.estopFiltered then .tripped else .holding) ∧
      (runApproach s).closure.heldStage = (if s.trip.estopFiltered then none else some .redClearance) ∧
      ∀ i, ((runApproach s).arm i).retry = 0 ∧ ((runApproach s).arm i).state = some (s.armAtRun i) := by
  have stays : ∀ {t : State}, approachCondition t = none → approachReact t = t := fun h => by
    simp only [approachReact, approachSettle, h]
  obtain ⟨s1, hs1⟩ : ∃ u, u = Machine.enterApproach .holding (some .redClearance) (deriveArms s) := ⟨_, rfl⟩
  have hf1 : s1.fixed = s.fixed := by simp [hs1]
  have htrip1 : s1.trip = s.trip := by rw [hs1, enterApproach_trip, trip_of_besideArms (deriveArms_besideArms s)]
  have hstand := armAtRun_stands fun i => (deriveArms_arm s i).2
  have hkept1 : ArmsKept (deriveArms s) s1 := hs1 ▸ ArmsKept.enterApproach _ (.inl rfl) hstand
  have arms : ∀ {t : State}, ArmsKept (deriveArms s) t → ∀ i, (t.arm i).retry = 0 ∧ (t.arm i).state = some (s.armAtRun i) :=
    fun h i => ⟨(h i).1.trans (deriveArms_arm s i).1, (h i).2.trans (deriveArms_arm s i).2⟩
  have hp1 : s1.closure.phase = some .holding := by rw [hs1, enterApproach_phase]
  have hheld1 : s1.closure.heldStage = some .redClearance := by rw [hs1, enterApproach_heldStage, if_pos rfl]
  rw [runApproach_eq, ← hs1]
  cases he : s.trip.estopFiltered with
  | false =>
    have hin1 : s1.port.startInhibit = true := (congrArg Fixed.startInhibit hf1).trans hin
    have hs : approachCondition s1 = none := by
      simp [approachCondition, State.inClosingStage, closingStage, hp1, hin1]
    rw [submitIf, if_neg (by decide), stays hs]
    exact ⟨hp1, hheld1, arms hkept1⟩
  | true =>
    obtain ⟨t, ht, ha, hf⟩ := submitCause_first (s := s1) .estop ((running_of_fixed hf1).trans hrun) (by rw [htrip1, hflag])
    have hrolet : t.role = .approach := (role_of_fixed (hf.trans hf1)).trans hrole
    have hte : enterTripped t = Machine.enterApproach .tripped none t := by simp only [enterTripped, hrolet]
    have hp : (Machine.enterApproach .tripped none t).closure.phase = some .tripped := enterApproach_phase _ _ _
    have hs : approachCondition (Machine.enterApproach .tripped none t) = none := by
      simp [approachCondition, State.inClosingStage, closingStage, hp]
    have hkept : ArmsKept s1 t := .of_arms (by rw [closure_of_aside ha])
    rw [submitIf, if_pos rfl, ht, hte, stays hs]
    exact ⟨hp, enterApproach_heldStage _ _ _,
      arms (hkept1.trans (hkept.trans (.enterApproach _ (.inr rfl) (hkept.stand (hkept1.stand hstand)))))⟩

/-- The first phase of a channel (R158, R181). -/
theorem runChannel_first (hrole : s.role = .channel) :
    (runChannel s).channel.phase = some (if s.trip.estopFiltered then .tripped else .closing) := by
  have stays : ∀ {t : State}, channelCondition t = none → channelReact t = t := fun h => by
    simp only [channelReact, channelSettle, h]
  obtain ⟨s1, hs1⟩ : ∃ u, u = Machine.enterChannel .closing s := ⟨_, rfl⟩
  have hf1 : s1.fixed = s.fixed := by rw [hs1, enterChannel_fixed]
  have htrip1 : s1.trip = s.trip := by rw [hs1, enterChannel_trip]
  have hp1 : s1.channel.phase = some .closing := by rw [hs1, enterChannel_phase]
  rw [runChannel_eq, ← hs1]
  cases he : s.trip.estopFiltered with
  | false =>
    rw [submitIf, if_neg (by decide), stays (by simp [channelCondition, hp1])]
    exact hp1
  | true =>
    obtain ⟨t, ht, -, hf⟩ := submitCause_first (s := s1) .estop ((running_of_fixed hf1).trans hrun) (by rw [htrip1, hflag])
    have hrolet : t.role = .channel := (role_of_fixed (hf.trans hf1)).trans hrole
    have hte : enterTripped t = Machine.enterChannel .tripped t := by simp only [enterTripped, hrolet]
    have hp : (Machine.enterChannel .tripped t).channel.phase = some .tripped := enterChannel_phase _ _
    rw [submitIf, if_pos rfl, ht, hte, stays (by simp [channelCondition, hp])]
    exact hp

/-- The first phase of a desk (R168, R181). -/
theorem runDesk_first (hrole : s.role = .desk) : (runDesk s).desk.phase =
    some (if s.trip.estopFiltered then .tripped else if s.filtered 4 then .active else .inactive) := by
  have desk : ∀ t : State, (deskIndicators t).desk = t.desk := fun t => by
    have ha := deskIndicators_aside t
    simp only [State.aside, Prod.mk.injEq] at ha
    exact ha.2.2.2.2
  obtain ⟨s1, hs1⟩ : ∃ u, u = Machine.enterDesk (if s.enableKey then .active else .inactive) s.desk.heldDemand s := ⟨_, rfl⟩
  have hf1 : s1.fixed = s.fixed := by rw [hs1, enterDesk_fixed]
  have htrip1 : s1.trip = s.trip := by rw [hs1, enterDesk_trip]
  have hp1 : s1.desk.phase = some (if s.enableKey then .active else .inactive) := by rw [hs1, enterDesk_desk]
  rw [runDesk_eq, ← hs1, desk]
  cases he : s.trip.estopFiltered with
  | false =>
    rw [submitIf, if_neg (by decide)]
    exact hp1
  | true =>
    obtain ⟨t, ht, -, hf⟩ := submitCause_first (s := s1) .estop ((running_of_fixed hf1).trans hrun) (by rw [htrip1, hflag])
    have hrolet : t.role = .desk := (role_of_fixed (hf.trans hf1)).trans hrole
    have hte : enterTripped t = deskIndicators (Machine.enterDesk .tripped .halt t) := by simp only [enterTripped, hrolet]
    rw [submitIf, if_pos rfl, ht, hte, desk]
    exact congrArg DeskUnit.phase (enterDesk_desk _ _ t)

end

/-! ### A corner at RUN -/

/-- Behind causes that may have been submitted to a corner: where one was, it is tripped, and else nothing has changed. -/
def CausedFrom (s t : State) (caused : Prop) : Prop :=
  t.fixed = s.fixed ∧ ((caused ∧ t.motion.phase = some .tripped ∧ t.trip.flag = true) ∨ (¬caused ∧ t = s))

theorem CausedFrom.submitIf {s t : State} {caused : Prop} (h : CausedFrom s t caused) (hrun : s.running = true)
    (hrole : s.role = .corner) (hflag : s.trip.flag = false) (x : Bool) (c : Cause) :
    CausedFrom s (submitIf x c t) (caused ∨ x = true) := by
  obtain ⟨hf, h⟩ := h
  cases x with
  | false => exact ⟨hf, by simpa [Machine.submitIf] using h⟩
  | true =>
    refine ⟨(submitCause_fixed c t).trans hf, .inl ⟨.inr rfl, ?_⟩⟩
    have hrunt : t.running = true := (running_of_fixed hf).trans hrun
    refine ⟨?_, submitCause_tripped c hrunt⟩
    rcases h with ⟨-, hp, ht⟩ | ⟨-, rfl⟩
    · exact (congrArg MotionUnit.phase (submitCause_joins c hrunt ht).1).trans hp
    · exact (submitCause_trips c hrun hrole hflag).phase

theorem referenceAtRun_referenced (s : State) :
    (referenceAtRun s).motion.encoder.referenced = (s.seat || s.motion.encoder.referenced) := by
  unfold referenceAtRun
  dsimp only
  cases hs : s.seat <;> simp [setReferenced, zeroCount, setPosition, formPosition, State.onMotion]

/-- The bolt that RUN derives (R70). -/
def boltAtRun : LimitPattern → BoltState
  | .atFirst => .withdrawn
  | .atSecond => .driven
  | .travelling => .withdrawing
  | .invalid => .fault

theorem cornerAtRun_bolt (s : State) : (CornerRun.cornerAtRun s).motion.bolt.state = boltAtRun s.boltPattern := by
  have hp : (referenceAtRun s).boltPattern = s.boltPattern := by
    simp only [State.boltPattern, State.filtered, State.inputLine, inputs_of_fixed (referenceAtRun_fixed s)]
  unfold CornerRun.cornerAtRun deriveBolt
  rw [hp]
  cases s.boltPattern <;> rfl

/-- The first phase of a corner by its seat, its bolt's pattern and its referenced flag (R46, R69, R70). -/
theorem firstCornerPhase_atRun (s : State) : firstCornerPhase (CornerRun.cornerAtRun s) =
    if s.seat then (if s.boltPattern = .atSecond then .seatedLocked else .seated)
    else if s.motion.encoder.referenced then .held else .unreferenced := by
  have hr : (CornerRun.cornerAtRun s).motion.encoder.referenced = (s.seat || s.motion.encoder.referenced) := by
    rw [← referenceAtRun_referenced]
    unfold CornerRun.cornerAtRun deriveBolt
    split <;> rfl
  have hs : (CornerRun.cornerAtRun s).seat = s.seat := by
    simp only [State.seat, State.filtered, State.inputLine, inputs_of_fixed (cornerAtRun_fixed s)]
  have hb : boltAtRun s.boltPattern = .driven ↔ s.boltPattern = .atSecond := by cases s.boltPattern <;> simp [boltAtRun]
  unfold firstCornerPhase
  rw [hr, hs, cornerAtRun_bolt]
  cases s.seat <;> simp [hb]

/-- A corner in its first phase at RUN, before the causes of the order. -/
def cornerFirst (s : State) : State :=
  enterCorner (firstCornerPhase (CornerRun.cornerAtRun s)) .none (CornerRun.cornerAtRun s)

theorem cornerFirst_fixed (s : State) : (cornerFirst s).fixed = s.fixed :=
  (enterCorner_fixed _ _ _).trans (cornerAtRun_fixed s)

theorem cornerFirst_trip (s : State) : (cornerFirst s).trip = s.trip :=
  (enterCorner_trip _ _ _).trans (cornerAtRun_beside s).1

theorem filtered_of_fixed {s t : State} (h : t.fixed = s.fixed) (i : Fin 25) : t.filtered i = s.filtered i := by
  simp only [State.filtered, State.inputLine, inputs_of_fixed h]

theorem boltPattern_of_fixed {s t : State} (h : t.fixed = s.fixed) : t.boltPattern = s.boltPattern := by
  simp only [State.boltPattern, filtered_of_fixed h]

/-- RUN at a corner: its first phase, the causes that stand, and the condition causes behind them (R66, R70, R80, R181). -/
theorem runCorner_eq (s : State) : runCorner s = cornerReact (submitIf (s.boltPattern == .invalid) .bolt
    (submitIf (s.filtered 3) .brake (submitIf (s.filtered 4) .driveFault
      (submitIf s.trip.estopFiltered .estop (cornerFirst s))))) := by
  obtain ⟨s3, hs3⟩ : ∃ u, u = cornerFirst s := ⟨_, rfl⟩
  have hf3 : s3.fixed = s.fixed := by rw [hs3, cornerFirst_fixed]
  have htrip3 : s3.trip = s.trip := by rw [hs3, cornerFirst_trip]
  have hrun : runCorner s =
      let s4 := submitIf s3.trip.estopFiltered .estop s3
      let s5 := submitIf s4.driveFaultInput .driveFault s4
      let s6 := submitIf s5.brakeFeedback .brake s5
      cornerReact (submitIf (s6.boltPattern == .invalid) .bolt s6) := by
    rw [hs3]
    rfl
  have hfault : ∀ t : State, t.fixed = s.fixed → t.driveFaultInput = s.filtered 4 := fun t h => filtered_of_fixed h 4
  have hbrake : ∀ t : State, t.fixed = s.fixed → t.brakeFeedback = s.filtered 3 := fun t h => filtered_of_fixed h 3
  rw [hrun, ← hs3, htrip3]
  dsimp only
  rw [hfault _ (by simp [hf3]), hbrake _ (by simp [hf3]), boltPattern_of_fixed (s := s) (by simp [hf3])]

/-- Behind the causes of RUN a corner is tripped, or in its first phase (R181). -/
theorem runCorner_caused {s : State} (hrun : s.running = true) (hrole : s.role = .corner) (hflag : s.trip.flag = false) :
    ∃ t, runCorner s = cornerReact t ∧ CausedFrom (cornerFirst s) t
      (s.trip.estopFiltered = true ∨ s.filtered 4 = true ∨ s.filtered 3 = true ∨ s.boltPattern = .invalid) := by
  have hf := cornerFirst_fixed s
  have htrip := cornerFirst_trip s
  have step := fun {t : State} {caused : Prop} (h : CausedFrom (cornerFirst s) t caused) =>
    h.submitIf ((running_of_fixed hf).trans hrun) ((role_of_fixed hf).trans hrole) (by rw [htrip, hflag])
  have first : CausedFrom (cornerFirst s) (cornerFirst s) False := ⟨rfl, .inr ⟨id, rfl⟩⟩
  refine ⟨_, runCorner_eq s, ?_⟩
  have h := step (step (step (step first s.trip.estopFiltered .estop) (s.filtered 4) .driveFault) (s.filtered 3) .brake)
    (s.boltPattern == .invalid) .bolt
  simpa only [false_or, or_assoc, beq_iff_eq] using h

/-- Where no cause stands, a corner takes from its first phase what its seat and its bolt let it without a demand (R69, R76). -/
theorem cornerReact_first {s : State} (hrole : s.role = .corner) (hd : s.demandView = .none) (hb : s.boltPattern ≠ .invalid) :
    (cornerReact (cornerFirst s)).motion.phase = some (
        if s.seat then (if s.boltPattern = .atSecond then .seatedLocked else .locking)
        else if s.motion.encoder.referenced then .held else .unreferenced) ∧
      (cornerReact (cornerFirst s)).trip = s.trip := by
  have hf := cornerFirst_fixed s
  have htrip := cornerFirst_trip s
  have hp : (cornerFirst s).motion.phase = some (firstCornerPhase (CornerRun.cornerAtRun s)) := enterCorner_phase _ _ _
  have hdemand : ∀ {t : State}, t.fixed = s.fixed → t.demandView = .none := fun h => by
    rw [demandView_of_fixed (by simp [hrole]) h, hd]
  have hm := MotionOnly.clearLeftBehind (cornerFirst s)
  have hdc : (clearLeftBehind (cornerFirst s)).demandView = .none := hdemand (hm.fixed.trans hf)
  obtain ⟨b, hmotion⟩ := clearLeftBehind_motion (cornerFirst s)
  have stays : ∀ {p : CornerPhase}, firstCornerPhase (CornerRun.cornerAtRun s) = p →
      cornerCondition (clearLeftBehind (cornerFirst s)) = none →
      (cornerReact (cornerFirst s)).motion.phase = some p ∧ (cornerReact (cornerFirst s)).trip = s.trip := by
    intro p hfirst hc
    rw [cornerReact_stays hc]
    exact ⟨by rw [hmotion, ← hfirst]; exact hp, hm.trip.trans htrip⟩
  have phase : ∀ {p : CornerPhase}, firstCornerPhase (CornerRun.cornerAtRun s) = p →
      (clearLeftBehind (cornerFirst s)).motion.phase = some p := fun hfirst => by
    rw [hmotion, ← hfirst]
    exact hp
  have hfirst := firstCornerPhase_atRun s
  cases hseat : s.seat with
  | true =>
    rw [hseat, if_pos rfl] at hfirst
    by_cases hat : s.boltPattern = .atSecond
    · rw [if_pos hat] at hfirst
      rw [if_pos rfl, if_pos hat]
      exact stays hfirst (cornerCondition_seatedLocked (phase hfirst) (unlockPermission_of_ne (by simp [hdc])))
    · rw [if_neg hat] at hfirst
      rw [if_pos rfl, if_neg hat]
      have hbolt : (cornerFirst s).motion.bolt.state = boltAtRun s.boltPattern := by
        rw [← cornerAtRun_bolt, cornerFirst, hfirst, enterCorner_bolt]
        rfl
      have hmoves : (cornerFirst s).motion.bolt.state = .withdrawn ∨ (cornerFirst s).motion.bolt.state = .withdrawing := by
        rw [hbolt]
        cases hpat : s.boltPattern with
        | atFirst => exact .inl rfl
        | atSecond => exact absurd hpat hat
        | travelling => exact .inr rfl
        | invalid => exact absurd hpat hb
      rw [cornerReact_seated ((role_of_fixed hf).trans hrole) (by rw [hp, hfirst]) (by simp [hdemand hf]) hmoves]
      exact ⟨enterCorner_phase _ _ _, (enterCorner_trip _ _ _).trans (hm.trip.trans htrip)⟩
  | false =>
    rw [hseat, if_neg (by decide)] at hfirst
    rw [if_neg (by decide)]
    cases href : s.motion.encoder.referenced with
    | true =>
      rw [href, if_pos rfl] at hfirst
      exact stays hfirst (cornerCondition_held (phase hfirst) (by simp [hdc]) (by simp [hdc]))
    | false =>
      rw [href, if_neg (by decide)] at hfirst
      exact stays hfirst (cornerCondition_unreferenced (phase hfirst))

/-- A tripped corner stays tripped when it tests its condition causes. -/
theorem cornerReact_tripped {s : State} (h : s.motion.phase = some .tripped) :
    cornerReact s = clearLeftBehind s := by
  obtain ⟨b, hm⟩ := clearLeftBehind_motion s
  exact cornerReact_stays (cornerCondition_tripped (by rw [hm]; exact h))

/-- The first phase of a corner, and TRIPPED where a cause stands (R69, R181). -/
theorem runCorner_first {s : State} (hrun : s.running = true) (hrole : s.role = .corner) (hflag : s.trip.flag = false)
    (hd : s.demandView = .none) :
    if s.trip.estopFiltered = true ∨ s.filtered 4 = true ∨ s.filtered 3 = true ∨ s.boltPattern = .invalid then
      (runCorner s).motion.phase = some .tripped ∧ (runCorner s).trip.flag = true
    else
      (runCorner s).motion.phase = some (
        if s.seat then (if s.boltPattern = .atSecond then .seatedLocked else .locking)
        else if s.motion.encoder.referenced then .held else .unreferenced) ∧ (runCorner s).trip.flag = false := by
  obtain ⟨t, ht, -, ⟨hcaused, hp, hset⟩ | ⟨hn, rfl⟩⟩ := runCorner_caused hrun hrole hflag
  · rw [if_pos hcaused, ht, cornerReact_tripped hp]
    obtain ⟨b, hm⟩ := clearLeftBehind_motion t
    exact ⟨by rw [hm]; exact hp, by rw [(MotionOnly.clearLeftBehind t).trip, hset]⟩
  · obtain ⟨hp, htrip⟩ := cornerReact_first hrole hd fun hinv => hn (.inr (.inr (.inr hinv)))
    rw [if_neg hn, ht, hp, htrip]
    exact ⟨rfl, hflag⟩

/-- Settles O26: the role's part of the order by role; at a corner by the causes that stand. -/
theorem runTakesTheFirstPhase : Obligations.RunTakesTheFirstPhase := by
  intro s ho hrun hc hflag _
  obtain ⟨t, ht⟩ : ∃ t, exec .run s = .next t := ⟨_, exec_run ho hrun hc⟩
  have ha := exec_run_aside ht ho hrun hc
  simp only [State.aside, Prod.mk.injEq] at ha
  obtain ⟨htrip, hmotion, hclosure, hchannel, hdesk⟩ := ha
  have hrunv := handedAtRun_running s
  have hrolev : (handedAtRun s).role = s.straps.role := by rw [State.role, handedAtRun_straps]
  have hrun' := runRole_by_role (handedAtRun s)
  have htripv := handedAtRun_trip s
  have hflagv : (handedAtRun s).trip.flag = false := by rw [htripv, hflag]
  have hin := handedAtRun_filtered s
  obtain ⟨hcorner, happroach, hch, hdk⟩ := hrun'
  refine ⟨t, ht, fun hrole => ?_, fun hrole => ?_, fun hrole => ?_, fun hrole => ?_⟩
  · obtain ⟨hp, hheld, harms⟩ := runApproach_first hrunv hflagv (hrolev.trans hrole) (handedAtRun_startInhibit s)
    rw [happroach (hrolev.trans hrole)] at hclosure
    rw [hclosure, ← htripv]
    refine ⟨hp, hheld, fun i => ?_⟩
    obtain ⟨hretry, hstate⟩ := harms i
    rw [arm_of_closure hclosure, hretry, hstate, handedAtRun_armAtRun]
    exact ⟨rfl, rfl⟩
  · have hp := runChannel_first hrunv hflagv (hrolev.trans hrole)
    rwa [hchannel, hch (hrolev.trans hrole), ← htripv]
  · have hp := runDesk_first hrunv hflagv (hrolev.trans hrole)
    rw [hin, htripv] at hp
    rwa [hdesk, hdk (hrolev.trans hrole)]
  · have hcornerv : (handedAtRun s).role = .corner := hrolev.trans hrole
    have hpattern : (handedAtRun s).boltPattern = s.boltPattern := by simp only [State.boltPattern, hin]
    have hseat : (handedAtRun s).seat = s.filtered 0 := hin 0
    have hm : (handedAtRun s).motion = s.motion := motion_of_aside (handedAtRun_aside s)
    have hfirst := runCorner_first hrunv hcornerv hflagv (handedAtRun_demandView s (by simp [State.role, hrole]))
    rw [htripv, hin, hin, hpattern, hseat, hm] at hfirst
    rw [hmotion, htrip, hcorner hcornerv]
    exact hfirst

end Sys2Proof.Machine
end

section
/-! PROOFS. What a corner makes of its inputs FI0 to FI4 (O52). -/

namespace Sys2Proof.Machine

/-! ### What the views of a corner read -/

/-- States that agree in what the views of a corner count: the station and its roster, the peer table, and of the own content what
the views on corners read (R16, R19). -/
structure SameViews (s t : State) : Prop where
  straps : t.straps = s.straps
  roster : t.roster = s.roster
  peers : t.peers = s.peers
  flag : t.trip.flag = s.trip.flag
  startInhibit : t.port.startInhibit = s.port.startInhibit
  position : t.motion.position = s.motion.position

namespace SameViews

variable {s t u : State}

theorem trans (h : SameViews s t) (k : SameViews t u) : SameViews s u :=
  ⟨k.straps.trans h.straps, k.roster.trans h.roster, k.peers.trans h.peers, k.flag.trans h.flag,
    k.startInhibit.trans h.startInhibit, k.position.trans h.position⟩

theorem of_motionOnly (h : MotionOnly s t) (hp : t.motion.position = s.motion.position) : SameViews s t :=
  ⟨congrArg Fixed.straps h.fixed, congrArg Fixed.roster h.fixed, congrArg Fixed.peers h.fixed, by rw [h.trip],
    congrArg Fixed.startInhibit h.fixed, hp⟩

theorem role (h : SameViews s t) : t.role = s.role := by rw [State.role, h.straps]; rfl

theorem rosterRole (h : SameViews s t) (j : Fin 12) : t.rosterRole j = s.rosterRole j := by
  simp only [State.rosterRole, h.roster]

/-- What is counted of a station other than a desk shows a demand by the peer table alone. -/
theorem showsDemand (h : SameViews s t) (hrole : s.role ≠ .desk) (d : Byte) (hs : s.showsDemand d = true) :
    t.showsDemand d = true := by
  obtain ⟨goal, hg⟩ := (showsDemand_iff s d).mp hs
  obtain ⟨j, c, count, ceiling, cause, hc, hp⟩ := (mem_countedDesks s d goal).mp hg
  rw [counted_eq_some] at hc
  split at hc
  · rw [hc] at hp
    exact absurd ((ownPayload_eq_desk _ _ _ _ _ _ _).mp hp).1 hrole
  · rename_i hj
    have ht : t.counted j = some c := by
      rw [counted_eq_some, h.straps, if_neg hj, State.peer, h.peers]
      exact hc
    exact (showsDemand_iff t d).mpr ⟨goal, (mem_countedDesks t d goal).mpr ⟨j, c, count, ceiling, cause, ht, hp⟩⟩

theorem symm (h : SameViews s t) : SameViews t s :=
  ⟨h.straps.symm, h.roster.symm, h.peers.symm, h.flag.symm, h.startInhibit.symm, h.position.symm⟩

theorem demandView (h : SameViews s t) (hrole : s.role ≠ .desk) : t.demandView = s.demandView := by
  have shows : ∀ d, t.showsDemand d = s.showsDemand d := fun d =>
    Bool.eq_iff_iff.mpr ⟨h.symm.showsDemand (by rwa [h.role]) d, h.showsDemand hrole d⟩
  simp only [demandView_eq, shows]

/-- A view that asks the own content for no more than this does not change. -/
theorem everyStation (h : SameViews s t) (r : Role) {test : Content → Bool} (ho : test t.ownContent = test s.ownContent) :
    t.everyStation r test = s.everyStation r test := by
  have hnumber : t.number = s.number := by rw [State.number, h.straps]; rfl
  have hcounted : ∀ j, (match t.counted j with | some c => test c | none => false) =
      (match s.counted j with | some c => test c | none => false) := by
    intro j
    simp only [State.counted, hnumber, qualifying_of_peers h.peers j]
    by_cases hj : j.val = s.number
    · simp only [if_pos hj, ho]
    · simp only [if_neg hj]
  simp only [State.everyStation, h.rosterRole]
  congr 1
  funext j
  exact congrArg _ (hcounted j)

theorem unlockPermission (h : SameViews s t) (hrole : s.role = .corner) : t.unlockPermission = s.unlockPermission := by
  have hrolet : t.role = .corner := h.role.trans hrole
  have hclosed : t.approachesClosed = s.approachesClosed :=
    h.everyStation .approach (by simp [State.ownContent, State.ownPayload, hrole, hrolet])
  have hready : t.cornersReady = s.cornersReady :=
    h.everyStation .corner (by
      simp [State.ownContent, State.ownPayload, hrole, hrolet, h.position, h.flag, h.startInhibit])
  simp only [State.unlockPermission, State.ownReferenced, h.demandView (by simp [hrole]), hclosed, hready, h.position,
    h.startInhibit]

end SameViews

/-! ### The delivery of a filtered input -/

/-- A filtered change is delivered to the role block in the event of its filter timer (R135, R136). -/
theorem exec_filtered_delivers {i : Fin 25} {level : Bool} {s : State} (h : FilteredChange i level s) :
    ∃ u, HandedOn i level s u ∧
      exec (.filterTimerExpiry i) s = .next (publish s (deliverInput i level (s.setFed false) u)) := by
  obtain ⟨hrun, hraw, hfiltered, htimer⟩ := h
  let v := s.setFed false
  let s1 := v.setInput i (levelTaken level)
  let u := if v.inputReported i then
    report .input i.val (flagNat !level) (flagNat level) (s.inputLine i).bounce v.phaseCode s1 else s1
  have hu : HandedOn i level s u := by
    dsimp only [u]
    split
    · exact ⟨report_fixed _ _ _ _ _ _ _, report_aside _ _ _ _ _ _ _, report_signal _ _ _ _ _ _ _⟩
    · exact ⟨rfl, rfl, rfl⟩
  have hline : v.inputLine i = s.inputLine i := rfl
  have hrunv : v.running = true := hrun
  have hwork : filterExpiry i v = deliverInput i level v u := by
    simp only [filterExpiry, hline, htimer, hraw, hfiltered, hrunv, if_true]
    cases level <;> rfl
  exact ⟨u, hu, by rw [exec_of_eventWork s rfl, hwork]⟩

namespace HandedOn

variable {i : Fin 25} {level : Bool} {s u : State} (h : HandedOn i level s u)
include h

theorem motion : u.motion = s.motion := motion_of_aside h.aside

theorem running : u.running = s.running := congrArg Fixed.running h.fixed

theorem config : u.config = s.config := congrArg Fixed.config h.fixed

theorem own : u.filtered i = level := by
  have hin : u.inputs = (s.setInput i (levelTaken level)).inputs := congrArg Fixed.inputs h.fixed
  rw [State.filtered, State.inputLine, hin]
  exact filtered_setInput i (levelTaken level) s

theorem sameViews : SameViews s u :=
  ⟨congrArg Fixed.straps h.fixed, congrArg Fixed.roster h.fixed, congrArg Fixed.peers h.fixed, by rw [h.trip],
    congrArg Fixed.startInhibit h.fixed, by rw [h.motion]⟩

theorem takesLevel_of_fixed {v : State} (hv : v.fixed = u.fixed) : TakesLevel i level s (publish s v) := by
  have hun : (publish s v).fixed.unlinked = (s.setInput i (levelTaken level)).fixed.unlinked := by
    rw [publish_unlinked, hv, h.fixed]
  exact (congrArg Fixed.inputs hun : (publish s v).fixed.unlinked.inputs = _)

/-- At a corner the delivery leaves all but the input, the link, the reports, the Trip Unit and the Motion Unit. -/
theorem corner_unchangedBut (hrole : s.role = .corner) {v : State} (hv : CornerRun u v) :
    UnchangedBut [.inputs, .link, .reports, .trip, .motion] s (publish s v) := by
  have hroleu : u.role = .corner := h.role.trans hrole
  obtain ⟨hfix, hbeside⟩ := (besideCorner_keptByCorner u hroleu).run hv ⟨rfl, rfl⟩
  have hin : UnchangedBut [.inputs] (s.setFed false) ((s.setFed false).setInput i (levelTaken level)) := by
    intro b hb
    cases b <;> simp_all [same]
  have ha := h.aside
  simp only [State.aside, Prod.mk.injEq] at ha
  obtain ⟨-, -, hc, hch, hd⟩ := ha
  have hu : u.besideCorner = ((s.setFed false).setInput i (levelTaken level)).besideCorner := by
    simp only [State.besideCorner, hc, hch, hd, h.signal]
    rfl
  have hrun : UnchangedBut [.feed, .reports, .trip, .motion] ((s.setFed false).setInput i (levelTaken level)) v :=
    unchangedBut_of_besideCorner (hfix.trans h.fixed) (hbeside.trans hu)
  have hall : UnchangedBut [.feed, .inputs, .reports, .trip, .motion] (s.setFed false) v :=
    unchangedBut_comp hin hrun (by simp) (by simp)
  exact (event_unchangedBut hall).mono (by simp)

end HandedOn

theorem publish_filtered (before after : State) (i : Fin 25) : (publish before after).filtered i = after.filtered i := by
  have h : (publish before after).inputs = after.inputs := congrArg Fixed.inputs (publish_unlinked before after)
  simp only [State.filtered, State.inputLine, h]

/-! ### Tests of the condition causes behind an event -/

theorem reactIfMoved_of_moved {s t : State}
    (h : s.motion.phase ≠ t.motion.phase ∨ s.motion.bolt.state ≠ t.motion.bolt.state) : reactIfMoved s t = cornerReact t :=
  if_pos h

theorem reactIfMoved_of_same {s t : State} (hp : t.motion.phase = s.motion.phase)
    (hb : t.motion.bolt.state = s.motion.bolt.state) : reactIfMoved s t = t :=
  if_neg (by simp [hp, hb])

/-- A tripped corner stays as it tripped. -/
theorem TrippedFrom.reacts {c : Cause} {m : MotionUnit} {t : State} (h : TrippedFrom c m t) (s : State) :
    TrippedFrom c m (reactIfMoved s t) := by
  unfold reactIfMoved
  split
  · obtain ⟨b, hm⟩ := clearLeftBehind_motion t
    have htrip := (MotionOnly.clearLeftBehind t).trip
    rw [cornerReact_tripped h.phase]
    exact ⟨by rw [hm]; exact h.phase, by rw [htrip]; exact h.flag, by rw [htrip]; exact h.causes, by rw [hm]; exact h.vOut,
      by rw [hm]; exact h.brakeOut, by rw [hm]; exact h.stall, by rw [hm]; exact h.encoder, by rw [hm]; exact h.bolt⟩
  · exact h

theorem testDriveCondition_of_ne {s : State} (h : s.motion.bolt.state ≠ .driving) : testDriveCondition s = s := if_neg h

/-- Beside the drive output of its bolt the drive condition leaves a tripped corner as it tripped. -/
theorem TrippedFrom.driveTested {c : Cause} {m : MotionUnit} {t : State} (h : TrippedFrom c m t) :
    ∃ m', TrippedFrom c m' (testDriveCondition t) := by
  refine ⟨{ m with bolt := (testDriveCondition t).motion.bolt }, ?_⟩
  unfold testDriveCondition
  split
  · exact ⟨h.phase, h.flag, h.causes, h.vOut, h.brakeOut, h.stall, h.encoder, rfl⟩
  · exact { h with bolt := rfl }

/-! ### The seat -/

section
variable {s : State} (hrun : s.running = true) (hrole : s.role = .corner) (hflag : s.trip.flag = false)

/-- P as the count gives it (R44). -/
def State.countedPosition (s : State) : Int := positionOfCount s s.motion.encoder.count.toInt

theorem formPosition_motion (s : State) : (formPosition s).motion = { s.motion with pos := s.countedPosition } := rfl

theorem seatEvent_lowering (hp : s.motion.phase = some .lowering) :
    seatEvent true s = reactIfMoved s (testDriveCondition (seatCapture (formPosition s))) := by
  have hs : (formPosition s).cornerIs .lowering = true := by simpa [State.cornerIs, formPosition_motion] using hp
  simp [seatEvent, hs]

theorem seatEvent_homing (hp : s.motion.phase = some .homing) :
    seatEvent true s = reactIfMoved s (testDriveCondition (completeHoming (formPosition s))) := by
  have hl : (formPosition s).cornerIs .lowering = false := by simp [State.cornerIs, formPosition_motion, hp]
  have hs : (formPosition s).cornerIs .homing = true := by simpa [State.cornerIs, formPosition_motion] using hp
  simp [seatEvent, hl, hs]

/-- Beside LOWERING and HOMING the seat forms P and tests the drive condition, and no condition cause follows (R47, R72). -/
theorem seatEvent_elsewhere {level : Bool} (hl : s.motion.phase ≠ some .lowering) (hh : s.motion.phase ≠ some .homing) :
    seatEvent level s = testDriveCondition (formPosition s) := by
  have hnl : (formPosition s).cornerIs .lowering = false := by simpa [State.cornerIs, formPosition_motion] using hl
  have hnh : (formPosition s).cornerIs .homing = false := by simpa [State.cornerIs, formPosition_motion] using hh
  have he : seatEvent level s = reactIfMoved s (testDriveCondition (formPosition s)) := by
    simp [seatEvent, hnl, hnh]
  rw [he]
  refine reactIfMoved_of_same ?_ ?_ <;> unfold testDriveCondition <;> split <;> rfl

/-- The seat capture within the tolerance: count and P are 0, POSITION follows, and the bolt stays (R47). -/
theorem arriveAtSeat_motion (s : State) : (arriveAtSeat s).motion.phase = some .seated ∧
    (arriveAtSeat s).motion.encoder.count = 0 ∧ (arriveAtSeat s).motion.pos = 0 ∧
    (arriveAtSeat s).motion.position = (if s.motion.encoder.referenced then 0 else -32768) ∧
    (arriveAtSeat s).motion.bolt = s.motion.bolt := by
  unfold arriveAtSeat
  rw [enterCorner_phase, enterCorner_encoder, enterCorner_pos, enterCorner_position, enterCorner_bolt]
  refine ⟨rfl, rfl, rfl, ?_, rfl⟩
  cases h : s.motion.encoder.referenced <;> simp [setPosition, zeroCount, publishedPosition, clampInt, State.onMotion, h]

theorem MotionOnly.arriveAtSeat (s : State) : MotionOnly s (arriveAtSeat s) :=
  (MotionOnly.onMotion _ s).trans ((MotionOnly.onMotion _ _).trans (.enterCorner _ _ _))

theorem seatCapture_eq (s : State) : seatCapture (formPosition s) =
    if (s.countedPosition.natAbs : Int) ≤ s.seatTolerance then arriveAtSeat (formPosition s)
    else submitCause .seatMismatch (formPosition s) := rfl

include hrole in
/-- A lowering corner that finds its seat within the tolerance arrives and locks (R47, R76, R87). -/
theorem seatEvent_arrives (hp : s.motion.phase = some .lowering) (hr : s.demandView ≠ .raise)
    (hb : s.motion.bolt.state = .withdrawn) (hn : (s.countedPosition.natAbs : Int) ≤ s.seatTolerance) :
    Locks (arriveAtSeat (formPosition s)) (seatEvent true s) := by
  obtain ⟨hphase, -, -, -, hbolt⟩ := arriveAtSeat_motion (formPosition s)
  have hrest : MotionOnly s (arriveAtSeat (formPosition s)) := (MotionOnly.onMotion _ s).trans (.arriveAtSeat _)
  have hw : (arriveAtSeat (formPosition s)).motion.bolt.state = .withdrawn := by
    rw [hbolt]
    exact hb
  rw [seatEvent_lowering hp, seatCapture_eq, if_pos hn, testDriveCondition_of_ne (by simp [hw]),
    reactIfMoved_of_moved (.inl (by simp [hp, hphase]))]
  exact cornerReact_locks (hrest.role.trans hrole) hphase (by rwa [hrest.demandView hrole]) hw

include hrun hrole hflag in
/-- A lowering corner that finds its seat beyond the tolerance trips (R47). -/
theorem seatEvent_mismatch (hp : s.motion.phase = some .lowering) (hn : ¬(s.countedPosition.natAbs : Int) ≤ s.seatTolerance) :
    ∃ m, TrippedFrom .seatMismatch m (seatEvent true s) := by
  have ht := submitCause_trips (s := formPosition s) .seatMismatch hrun hrole hflag
  obtain ⟨m, hm⟩ := ht.driveTested
  rw [seatEvent_lowering hp, seatCapture_eq, if_neg hn]
  exact ⟨m, hm.reacts s⟩

include hrole in
/-- A homing corner that finds its seat is home, and locks (R46, R76, R91). -/
theorem seatEvent_homes (hp : s.motion.phase = some .homing) (hr : s.demandView ≠ .raise) (hb : s.motion.bolt.state = .withdrawn) :
    Locks (completeHoming (formPosition s)) (seatEvent true s) := by
  obtain ⟨-, -, -, hbolt⟩ := completeHoming_motion (formPosition s)
  have hw : (completeHoming (formPosition s)).motion.bolt.state = .withdrawn := by
    rw [hbolt]
    exact hb
  have hphase : (completeHoming (formPosition s)).motion.phase = some .seated := enterCorner_phase _ _ _
  rw [seatEvent_homing hp, testDriveCondition_of_ne (by simp [hw]), reactIfMoved_of_moved (.inl (by simp [hp, hphase]))]
  exact cornerReact_completeHoming (s := formPosition s) hrole hr hb

/-! ### The bolt's limits -/

include hrun hrole hflag in
/-- A bolt that shows both limits, or leaves its own, faults (R71). -/
theorem boltEvent_faults (h : s.boltPattern = .invalid ∨
      (s.motion.bolt.state = .withdrawn ∧ (s.boltPattern = .travelling ∨ s.boltPattern = .atSecond)) ∨
      (s.motion.bolt.state = .driven ∧ (s.boltPattern = .travelling ∨ s.boltPattern = .atFirst))) :
    TrippedFrom .bolt (restBolt .fault s).motion (boltEvent s) := by
  have he : boltEvent s = reactIfMoved s (faultBolt s) := by
    unfold boltEvent
    rcases h with h | ⟨hb, h | h⟩ | ⟨hb, h | h⟩
    · rw [h]
    · rw [hb, h]
    · rw [hb, h]
    · rw [hb, h]
    · rw [hb, h]
  rw [he]
  exact (submitCause_trips (s := restBolt .fault s) .bolt hrun hrole hflag).reacts s

include hrole in
/-- A bolt that is driven home in LOCKING takes the corner to SEATED_LOCKED (R71, R76). -/
theorem boltEvent_locked (hp : s.motion.phase = some .locking) (hb : s.motion.bolt.state = .driving)
    (hat : s.boltPattern = .atSecond) (hu : s.unlockPermission = false) :
    (boltEvent s).motion.phase = some .seatedLocked ∧ (boltEvent s).motion.bolt = (restBolt .driven s).motion.bolt := by
  have he : boltEvent s = reactIfMoved s (restBolt .driven s) := by
    unfold boltEvent
    rw [hb, hat]
  let v := clearLeftBehind (restBolt .driven s)
  have hv : MotionOnly s v := (MotionOnly.onMotion _ s).trans (.clearLeftBehind _)
  obtain ⟨b, hm⟩ := clearLeftBehind_motion (restBolt .driven s)
  have hpv : v.motion.phase = some .locking := by
    rw [hm]
    exact hp
  have hbv : v.motion.bolt = (restBolt .driven s).motion.bolt := by rw [hm]
  have hc : cornerCondition v = some (enterCorner .seatedLocked .none v) := by
    rw [cornerCondition_locking hpv, hbv]
    rfl
  have hviews : SameViews s (enterCorner .seatedLocked .none v) := by
    refine .of_motionOnly (hv.trans (.enterCorner _ _ _)) ?_
    rw [enterCorner_position, hm]
    rfl
  rw [he, reactIfMoved_of_moved (.inr (by rw [hb, restBolt_safe]; decide)), cornerReact_moves hc
    (cornerCondition_seatedLocked (enterCorner_phase _ _ _) (by rw [hviews.unlockPermission hrole, hu]))]
  refine ⟨enterCorner_phase _ _ _, ?_⟩
  rw [enterCorner_bolt, ← hbv]
  rfl

include hrole in
/-- A bolt that is withdrawn in HELD or UNREFERENCED rests there, without a demand that moves the corner (R71). -/
theorem boltEvent_withdrawn (hp : s.motion.phase = some .held ∨ s.motion.phase = some .unreferenced)
    (hb : s.motion.bolt.state = .withdrawing) (hat : s.boltPattern = .atFirst) (hr : s.demandView ≠ .raise)
    (hl : s.demandView ≠ .lower) :
    (boltEvent s).motion.bolt = (restBolt .withdrawn s).motion.bolt ∧ (boltEvent s).motion.phase = s.motion.phase := by
  have he : boltEvent s = reactIfMoved s (restBolt .withdrawn s) := by
    unfold boltEvent
    rw [hb, hat]
  have hv : MotionOnly s (clearLeftBehind (restBolt .withdrawn s)) := (MotionOnly.onMotion _ s).trans (.clearLeftBehind _)
  obtain ⟨b, hm⟩ := clearLeftBehind_motion (restBolt .withdrawn s)
  have hpv : (clearLeftBehind (restBolt .withdrawn s)).motion.phase = s.motion.phase := by rw [hm]; rfl
  have hd := hv.demandView hrole
  have hc : cornerCondition (clearLeftBehind (restBolt .withdrawn s)) = none := by
    rcases hp with hp | hp
    · exact cornerCondition_held (hpv.trans hp) (by rwa [hd]) (by rwa [hd])
    · exact cornerCondition_unreferenced (hpv.trans hp)
  rw [he, reactIfMoved_of_moved (.inr (by rw [hb, restBolt_safe]; decide)), cornerReact_stays hc]
  exact ⟨by rw [hm], hpv⟩

end

/-! ### Every input of a corner -/

/-- The pattern of two limit inputs, by each input. -/
theorem limitPattern_of {first second : Bool} :
    (first = true → second = true → limitPattern first second = .invalid) ∧
    (first = false → limitPattern first second = .travelling ∨ limitPattern first second = .atSecond) ∧
    (second = false → limitPattern first second = .travelling ∨ limitPattern first second = .atFirst) ∧
    (first = false → second = true → limitPattern first second = .atSecond) ∧
    (first = true → second = false → limitPattern first second = .atFirst) := by
  cases first <;> cases second <;> simp [limitPattern]

/-- Settles O52: each input is delivered as one of the corner's few operations, from the state with the level taken. -/
theorem cornerInputsAct : Obligations.CornerInputsAct := by
  intro i level s hchange hrole hflag p near bolt aside trips
  have hrun : s.running = true := hchange.1
  obtain ⟨u, hu, hexec⟩ := exec_filtered_delivers hchange
  have hroleu : u.role = .corner := hu.role.trans hrole
  have hrunu : u.running = true := hu.running.trans hrun
  have hflagu : u.trip.flag = false := by rw [hu.trip, hflag]
  have hm := hu.motion
  have hviews := hu.sameViews
  have hd := hviews.demandView (by simp [show s.role = .corner from hrole])
  have hdeliver : deliverInput i level (s.setFed false) u = deliverCorner i level u := by simp only [deliverInput, hroleu]
  rw [hdeliver] at hexec
  have hcorner : CornerRun u (deliverCorner i level u) := CornerRun.refl.deliverCorner
  obtain ⟨hfix, -⟩ := (besideCorner_keptByCorner u hroleu).run hcorner ⟨rfl, rfl⟩
  have htol : u.seatTolerance = s.config.item 7 := by rw [State.seatTolerance, hu.config]
  have hpos : u.countedPosition = p := by
    rw [State.countedPosition, positionOfCount, State.countsPerMetre, hu.config, hm]
  have ofTripped : ∀ {c : Cause} {m : MotionUnit}, TrippedFrom c m (deliverCorner i level u) →
      trips (publish s (deliverCorner i level u)) c := fun h =>
    have h := h.published s
    ⟨h.causes, h.phase, h.vOut, h.brakeOut⟩
  refine ⟨_, hexec, hu.takesLevel_of_fixed hfix, hu.corner_unchangedBut hrole hcorner, fun hi hlevel hp => ?_,
    fun hi hlevel hp hr hb => ?_, fun hi hl hh => ?_, fun hi => ?_, fun hi => ?_, fun hi => ?_⟩
  · have he : deliverCorner i level u = seatEvent true u := by rw [hi, hlevel]; rfl
    refine ⟨fun hn hr hb => ?_, fun hn => ?_⟩
    · obtain ⟨-, hcount, hzero, hposition, -⟩ := arriveAtSeat_motion (formPosition u)
      have h := seatEvent_arrives hroleu (by rwa [hm]) (by rwa [hd]) (by rwa [hm]) (by rwa [hpos, htol])
      have hseat : (arriveAtSeat (formPosition u)).filtered 0 = true := by
        have hw : MotionOnly u (arriveAtSeat (formPosition u)) := (MotionOnly.onMotion _ u).trans (.arriveAtSeat _)
        rw [hw.filtered, ← hi, hu.own, hlevel]
      rw [publish_motion, he, h.encoder, h.pos, h.position, h.driveOut]
      refine ⟨h.phase, hcount, hzero, ?_, h.bolt, ?_, h.brakeOut⟩
      · rw [hposition, formPosition_motion, hm]
      · have hnn : (0 : Int) ≤ (arriveAtSeat (formPosition u)).seatTolerance := Int.natCast_nonneg _
        simp [State.driveCondition, State.seat, hseat, hzero, hnn]
    · obtain ⟨m, h⟩ := seatEvent_mismatch hrunu hroleu hflagu (by rwa [hm]) (by rwa [hpos, htol])
      rw [← he] at h
      exact ofTripped h
  · have he : deliverCorner i level u = seatEvent true u := by rw [hi, hlevel]; rfl
    obtain ⟨hcount, href, hposition, -⟩ := completeHoming_motion (formPosition u)
    have h := seatEvent_homes hroleu (by rwa [hm]) (by rwa [hd]) (by rwa [hm])
    rw [publish_motion, he, h.encoder, h.position]
    exact ⟨h.phase, hcount, href, hposition, h.bolt, h.brakeOut⟩
  · have he : deliverCorner i level u = testDriveCondition (formPosition u) := by
      have hs : deliverCorner i level u = seatEvent level u := by rw [hi]; rfl
      rw [hs, seatEvent_elsewhere (by rwa [hm]) (by rwa [hm])]
    have hform : (formPosition u).motion = { s.motion with pos := p } := by rw [formPosition_motion, hpos, hm]
    have hdrive : (formPosition u).driveCondition = (level && decide near) := by
      have hseat : (formPosition u).seat = level := by rw [← hu.own, hi]; rfl
      have htolf : (formPosition u).seatTolerance = s.config.item 7 := htol
      rw [State.driveCondition, hseat, htolf, hform]
    rw [publish_motion, he, testDriveCondition]
    by_cases hb : bolt = .driving
    · rw [if_pos (show (formPosition u).motion.bolt.state = .driving by rw [hform]; exact hb), if_pos hb]
      simp only [State.onBolt, State.onMotion_motion, hform, hdrive]
    · rw [if_neg (show ¬(formPosition u).motion.bolt.state = .driving by rw [hform]; exact hb), if_neg hb, hform]
  · have hin : ∀ k, (publish s (deliverCorner i level u)).filtered k = u.filtered k := fun k => by
      rw [publish_filtered]
      exact filtered_of_fixed hfix k
    have he : deliverCorner i level u = boltEvent u := by rcases hi with rfl | rfl <;> rfl
    obtain ⟨hinvalid, hnotFirst, hnotSecond, hsecond, hfirst⟩ := @limitPattern_of (u.filtered 1) (u.filtered 2)
    have faults := fun h => boltEvent_faults hrunu hroleu hflagu h
    rw [← he] at faults
    have hfaults : ∀ {m : MotionUnit}, TrippedFrom .bolt m (deliverCorner i level u) →
        m.bolt = { state := .fault, driveOut := false, withdrawOut := false, travelTimer := none } →
        trips (publish s (deliverCorner i level u)) .bolt ∧ (deliverCorner i level u).motion.bolt =
          { state := .fault, driveOut := false, withdrawOut := false, travelTimer := none } := fun h hb =>
      ⟨ofTripped h, by rw [h.bolt, hb]⟩
    rw [hin, hin, publish_motion]
    refine ⟨fun h1 h2 => hfaults (faults (.inl (hinvalid h1 h2))) rfl,
      fun h1 hb => hfaults (faults (.inr (.inl ⟨by rwa [hm], hnotFirst h1⟩))) rfl,
      fun h2 hb => hfaults (faults (.inr (.inr ⟨by rwa [hm], hnotSecond h2⟩))) rfl, fun h1 h2 hb hp hunlock => ?_,
      fun h1 h2 hb hp hr hl => ?_⟩
    · rw [he]
      exact boltEvent_locked hroleu (by rwa [hm]) (by rwa [hm]) (hsecond h1 h2)
        (by rwa [hviews.unlockPermission hrole])
    · rw [he, ← hm]
      exact boltEvent_withdrawn hroleu (by rwa [hm]) (by rwa [hm]) (hfirst h1 h2) (by rwa [hd]) (by rwa [hd])
  · have he : deliverCorner i level u = feedbackEvent level u := by rw [hi]; rfl
    have fires : (if level then !u.motion.brake.out && u.motion.brake.setCheckTimer.isNone
        else u.motion.brake.out && u.motion.brake.settled) = true → trips (publish s (deliverCorner i level u)) .brake := fun h => by
      have ht := submitCause_trips .brake hrunu hroleu hflagu
      have hs : feedbackEvent level u = submitCause .brake u := if_pos h
      rw [← hs, ← he] at ht
      exact ofTripped ht
    have stays : (if level then !u.motion.brake.out && u.motion.brake.setCheckTimer.isNone
        else u.motion.brake.out && u.motion.brake.settled) = false →
        (publish s (deliverCorner i level u)).motion = s.motion := fun h => by
      have hs : feedbackEvent level u = u := if_neg (by rw [h]; decide)
      rw [publish_motion, he, hs, hm]
    rw [hm] at fires stays
    refine ⟨fun hl ho ht => fires (by simp [hl, ho, ht]), fun hl ho ht => fires (by simp [hl, ho, ht]),
      fun hl h => stays ?_, fun hl h => stays ?_⟩
    · rcases h with h | h
      · simp [hl, h]
      · simp [hl, Option.isNone_eq_false_iff.mpr h]
    · rcases h with h | h <;> simp [hl, h]
  · have he : deliverCorner i level u = submitIf level .driveFault u := by rw [hi]; rfl
    refine ⟨fun hl => ?_, fun hl => ?_⟩
    · have ht := submitCause_trips .driveFault hrunu hroleu hflagu
      have hs : submitIf level .driveFault u = submitCause .driveFault u := if_pos hl
      rw [← hs, ← he] at ht
      exact ofTripped ht
    · have hs : submitIf level .driveFault u = u := if_neg (by simp [hl])
      rw [publish_motion, he, hs, hm]

end Sys2Proof.Machine
end

section
/-! PROOFS. What a run of a corner's tests leaves of its place and of its stall window, and the stages of a control period: the
supervision, the tests behind it, the profile and the outputs. -/

namespace Sys2Proof.Machine

/-! ### The place of a corner -/

/-- The Motion Unit's place: P, POSITION and the encoder. -/
def MotionUnit.place (m : MotionUnit) : Int × Int × Encoder := (m.pos, m.position, m.encoder)

/-- From `b` to `t` a corner keeps its place, and under a demand of LOWER it stays locked or tripped where it was. -/
structure KeepsPlace (b t : State) : Prop where
  place : t.motion.place = b.motion.place
  locked : b.demandView = .lower → b.cornerIn restsLocked = true → t.cornerIn restsLocked = true

/-- From `b` to `t` a corner has arrived at the seat within the tolerance: it was not locked, and it is under a demand of LOWER. -/
structure Captured (b t : State) : Prop where
  demand : b.demandView = .lower
  seat : b.seat = true
  near : (b.motion.pos.natAbs : Int) ≤ b.seatTolerance
  unlocked : b.cornerIn restsLocked = false
  locked : t.cornerIn restsLocked = true
  pos : t.motion.pos = 0
  encoder : t.motion.encoder =
    { b.motion.encoder with count := 0, sampled := b.motion.encoder.sampled - b.motion.encoder.count.toInt }

/-- In a phase with a stall window a corner has the window of `b`, or a fresh one, from its P on (R64). -/
def Windowed (b t : State) : Prop :=
  t.cornerIn stallPhase = true →
    t.motion.stall = b.motion.stall ∨ t.motion.stall = { timer := some b.stallTime, start := some t.motion.pos }

/-- From `b` to `t` a corner keeps its place or is captured by the seat, and its stall window stands or is fresh. -/
structure Tracks (b t : State) : Prop where
  fixed : t.fixed = b.fixed
  place : KeepsPlace b t ∨ Captured b t
  window : Windowed b t

/-- P is as the count gives it. -/
def Formed (s : State) : Prop := s.motion.pos = s.countedPosition

theorem formPosition_of_formed {s : State} (h : Formed s) : formPosition s = s := by
  have hm : (formPosition s).motion = s.motion := by rw [formPosition_motion, ← h]
  exact congrArg (fun m => ({ s with motion := m } : State)) hm

/-- What a cause leaves of a corner: nothing of its Motion Unit is written, or the corner enters TRIPPED. -/
theorem submitCause_motion_cases (c : Cause) {s : State} (hrole : s.role = .corner) :
    (submitCause c s).motion = s.motion ∨
      ∃ t, (submitCause c s) = enterCorner .tripped .none t ∧ t.motion = s.motion ∧ t.fixed = s.fixed := by
  rcases submitCause_cases c s with ⟨-, h⟩ | ⟨-, -, trip, -, ha, -⟩ | ⟨-, -, t, ht, ha, -, hf⟩
  · exact .inl (by rw [h])
  · exact .inl (motion_of_aside ha)
  · have hcorner : t.role = .corner := (role_of_fixed hf).trans hrole
    exact .inr ⟨t, by simp only [ht, enterTripped, hcorner], motion_of_aside ha, hf⟩

theorem place_of_notes {s t : State} (h : Notes s t) : t.motion.place = s.motion.place := h.field (·.place)

theorem cornerIn_of_phase {s t : State} (test : CornerPhase → Bool) (h : t.motion.phase = s.motion.phase) :
    t.cornerIn test = s.cornerIn test := by rw [State.cornerIn, h]; rfl

/-- An entry into another phase than HOMING keeps the place. -/
theorem enterCorner_place {p : CornerPhase} (hp : p ≠ .homing) (rel : Intent) (s : State) :
    (enterCorner p rel s).motion.place = s.motion.place := by
  simp only [MotionUnit.place, enterCorner_pos, enterCorner_position, enterCorner_encoder, if_neg hp]

theorem enterCorner_cornerIn (test : CornerPhase → Bool) (p : CornerPhase) (rel : Intent) (s : State) :
    (enterCorner p rel s).cornerIn test = test p := by rw [State.cornerIn, enterCorner_phase]

theorem countedPosition_of_place {b t : State} (hf : t.fixed = b.fixed) (hp : t.motion.place = b.motion.place) :
    t.countedPosition = b.countedPosition := by
  simp only [MotionUnit.place, Prod.mk.injEq] at hp
  obtain ⟨-, -, he⟩ := hp
  rw [State.countedPosition, positionOfCount, State.countsPerMetre, he, config_of_fixed hf]
  rfl

theorem setRequest_place (s : State) :
    (setRequest s).motion.place = s.motion.place ∧ (setRequest s).motion.stall = s.motion.stall := by
  unfold setRequest
  split
  · exact ⟨rfl, rfl⟩
  · exact ⟨rfl, rfl⟩

namespace Tracks

variable {b t u : State}

theorem refl (b : State) : Tracks b b := ⟨rfl, .inl ⟨rfl, fun _ h => h⟩, fun _ => .inl rfl⟩

/-- An operation that keeps place, phase and stall window. -/
theorem keeps (h : Tracks b t) (hf : u.fixed = t.fixed) (hp : u.motion.place = t.motion.place)
    (hphase : u.motion.phase = t.motion.phase) (hstall : u.motion.stall = t.motion.stall) : Tracks b u := by
  have hin := fun test => cornerIn_of_phase test hphase
  have hplace := hp
  simp only [MotionUnit.place, Prod.mk.injEq] at hp
  obtain ⟨hpos, -, he⟩ := hp
  refine ⟨hf.trans h.fixed, h.place.imp (fun k => ⟨hplace.trans k.place, fun hd hb => ?_⟩) fun c => ?_, fun hs => ?_⟩
  · rw [hin]
    exact k.locked hd hb
  · exact { c with locked := by rw [hin]; exact c.locked, pos := hpos.trans c.pos, encoder := he.trans c.encoder }
  · rw [hin] at hs
    rw [hstall, hpos]
    exact h.window hs

/-- An entry into another phase than HOMING, which leaves the locked phases under a demand of RAISE alone. -/
theorem enter (h : Tracks b t) {p : CornerPhase} (rel : Intent) (hp : p ≠ .homing)
    (hl : t.cornerIn restsLocked = true → restsLocked p = true ∨ b.demandView = .raise) : Tracks b (enterCorner p rel t) := by
  have locked : b.demandView = .lower → t.cornerIn restsLocked = true → (enterCorner p rel t).cornerIn restsLocked = true := by
    intro hd ht
    rw [enterCorner_cornerIn]
    rcases hl ht with h | h
    · exact h
    · rw [hd] at h
      cases h
  have hplace := enterCorner_place hp rel t
  refine ⟨(enterCorner_fixed p rel t).trans h.fixed, h.place.imp (fun k => ⟨hplace.trans k.place, fun hd hb => ?_⟩) fun c => ?_,
    fun hs => ?_⟩
  · exact locked hd (k.locked hd hb)
  · simp only [MotionUnit.place, Prod.mk.injEq] at hplace
    obtain ⟨hpos, -, he⟩ := hplace
    exact { c with locked := locked c.demand c.locked, pos := hpos.trans c.pos, encoder := he.trans c.encoder }
  · rw [enterCorner_cornerIn] at hs
    rw [enterCorner_stall, enterCorner_pos, stallOn, if_pos hs]
    split
    · exact h.window ‹_›
    · exact .inr (by rw [State.stallTime, config_of_fixed h.fixed]; rfl)

theorem cause (h : Tracks b t) (hrole : b.role = .corner) (c : Cause) : Tracks b (submitCause c t) := by
  rcases submitCause_motion_cases c ((role_of_fixed h.fixed).trans hrole) with hm | ⟨x, hx, hm, hf⟩
  · exact h.keeps (submitCause_fixed c t) (by rw [hm]) (by rw [hm]) (by rw [hm])
  · rw [hx]
    exact (h.keeps hf (by rw [hm]) (by rw [hm]) (by rw [hm])).enter .none (by decide) fun _ => .inl rfl

theorem submitIf (h : Tracks b t) (hrole : b.role = .corner) (x : Bool) (c : Cause) : Tracks b (submitIf x c t) := by
  unfold Machine.submitIf
  split
  · exact h.cause hrole c
  · exact h

/-- P stays as the count gives it. -/
theorem formed (h : Tracks b t) (hb : Formed b) : Formed t := by
  rcases h.place with k | c
  · have hpos : t.motion.pos = b.motion.pos := congrArg (·.1) k.place
    rw [Formed, countedPosition_of_place h.fixed k.place, hpos]
    exact hb
  · rw [Formed, c.pos, State.countedPosition, c.encoder]
    simp [positionOfCount]

theorem demandView (h : Tracks b t) (hrole : b.role = .corner) : t.demandView = b.demandView :=
  demandView_of_fixed (by simp [hrole]) h.fixed

/-- The seat captures a corner that lowers: it was not locked before. -/
theorem arrive (h : Tracks b t) (hrole : b.role = .corner) (hd : t.demandView = .lower)
    (hp : t.motion.phase = some .lowering) (hs : t.seat = true) (hn : (t.motion.pos.natAbs : Int) ≤ t.seatTolerance) :
    Tracks b (arriveAtSeat t) := by
  have hdb : b.demandView = .lower := (h.demandView hrole).symm.trans hd
  have hfree : t.cornerIn restsLocked = false := by simp [State.cornerIn, hp, restsLocked]
  have hrest := MotionOnly.arriveAtSeat t
  obtain k | c := h.place
  · have hplace := k.place
    simp only [MotionUnit.place, Prod.mk.injEq] at hplace
    obtain ⟨hpos, -, he⟩ := hplace
    refine ⟨hrest.fixed.trans h.fixed, .inr ⟨hdb, ?_, ?_, ?_, ?_, (arriveAtSeat_motion t).2.2.1, ?_⟩, fun hs => ?_⟩
    · exact (filtered_of_fixed h.fixed 0).symm.trans hs
    · rw [hpos, State.seatTolerance, config_of_fixed h.fixed] at hn
      exact hn
    · rw [Bool.eq_false_iff]
      exact fun hl => absurd (hfree.symm.trans (k.locked hdb hl)) (by decide)
    · rw [State.cornerIn, (arriveAtSeat_motion t).1]
      rfl
    · unfold arriveAtSeat
      rw [enterCorner_encoder, if_neg (by decide), ← he]
      rfl
    · rw [State.cornerIn, (arriveAtSeat_motion t).1] at hs
      cases hs
  · exact absurd (hfree.symm.trans c.locked) (by decide)

/-- A run of the corner's tests keeps the place, or is captured by the seat (R47, R68). -/
theorem run (h : Tracks b t) (hrole : b.role = .corner) (hb : Formed b) (hr : EntryRun Enters t u) : Tracks b u := by
  induction hr with
  | refl => exact h
  | notes _ hn ih => exact ih.keeps hn.fixed (place_of_notes hn) (hn.field (·.phase)) (hn.field (·.stall))
  | setBrake _ ih =>
    obtain ⟨hplace, hstall⟩ := setRequest_place _
    exact ih.keeps (setRequest_fixed _) hplace (setRequest_phase _) hstall
  | enter _ p rel he hn ih =>
    refine (ih.keeps hn.fixed (place_of_notes hn) (hn.field (·.phase)) (hn.field (·.stall))).enter rel he.notHoming fun hl => ?_
    rw [cornerIn_of_phase _ (hn.field (·.phase))] at hl
    rw [← ih.demandView hrole]
    exact he.locked hl
  | cause _ c ih => exact ih.cause hrole c
  | mismatch _ ih =>
    rw [formPosition_of_formed (ih.formed hb)]
    exact ih.cause hrole _
  | arrive _ he hf hp hs hn ih =>
    rw [formPosition_of_formed (ih.formed hb)] at hn ⊢
    obtain ⟨hperm, -⟩ := he.lowering rfl
    have hd := demandView_of_fixed (s := _) (t := _) (by rw [← role_of_fixed hf, role_of_fixed ih.fixed, hrole]; decide) hf
    simp only [State.loweringPermission, Bool.and_eq_true, beq_iff_eq] at hperm
    exact ih.arrive hrole (hd.trans hperm.1.1.1.1) hp hs hn
  | home _ he _ _ => exact absurd rfl he.notHoming

/-- The profile keeps the place: it enters RAISED, HELD and UNREFERENCED from a movement or HOMING (R48, R53, R91). -/
theorem profileWork (h : Tracks b t) (hrole : b.role = .corner) (hb : Formed b) : Tracks b (profileWork t) := by
  have store : ∀ {w : State} (p : Profile), Tracks b w → Tracks b (storeProfile p w) := fun p hw => hw.keeps rfl rfl rfl rfl
  have stop : ∀ {w : State} {q : CornerPhase} (p : CornerPhase), w.motion.phase = some q → restsLocked q = false →
      p ≠ .homing → Tracks b w → Tracks b (enterCorner p .none w) := fun p hq hl hp hw =>
    hw.enter .none hp fun hr => by simp [State.cornerIn, hq, hl] at hr
  unfold Machine.profileWork
  split
  case h_1 hp =>
    extract_lets g r s1
    have h1 : Tracks b s1 := store _ (h.keeps rfl rfl rfl rfl)
    have hp1 : s1.motion.phase = some .raising := hp
    clear_value s1
    split
    · rw [toCorner_at_rest .none s1]
      exact (stop .raised hp1 rfl (by decide) h1).run hrole hb (.cornerReact _)
    · exact h1
  case h_2 => exact store _ h
  case h_3 hp =>
    extract_lets v s1
    have h1 : Tracks b s1 := store _ h
    have hp1 : s1.motion.phase = some .halting := hp
    clear_value s1
    split
    · rw [toCorner_at_rest .none s1]
      exact (stop .held hp1 rfl (by decide) h1).run hrole hb (.cornerReact _)
    · exact h1
  case h_4 hp =>
    split
    · exact h.run hrole hb (.failHoming hp)
    · exact store _ h
  case h_5 => exact h

end Tracks

end Sys2Proof.Machine
end

section
/-! PROOFS. One expiry of the control period: its measurement and supervision, its outputs, and what it supervises (O48). -/

namespace Sys2Proof.Machine

/-! ### The stages of an expiry -/

/-- P is formed, and the count sampled (R44, R48). -/
def measured (s : State) : State :=
  (formPosition s).onMotion fun m => { m with encoder := { m.encoder with sampled := m.encoder.count.toInt } }

theorem measured_formed (s : State) : Formed (measured s) := rfl

/-- The expiry behind the supervision, the condition causes and the profile, before its outputs. -/
def profiled (s : State) : State := profileWork (cornerReact (testDriveCondition (supervise s)))

/-- The speed that the output stage is given (R57, R58). -/
def outputSpeed (s : State) : Int :=
  if s.cornerIs .raising || s.cornerIs .lowering || s.cornerIs .halting then
    levelled s s.motion.profile.vPrev (levellingCorrection s)
  else if s.cornerIs .homing then s.motion.profile.vPrev
  else 0

/-- The levelling correction in use (R57). -/
def outputCorrection (s : State) : Int :=
  if s.cornerIs .raising || s.cornerIs .lowering || s.cornerIs .halting then levellingCorrection s else 0

theorem outputWork_eq (s : State) :
    outputWork s = applyOutput (outputSpeed s) (s.onMotion fun m => { m with correction := outputCorrection s }) := by
  unfold outputWork outputSpeed outputCorrection
  dsimp only
  split
  · rfl
  · split
    · rfl
    · rfl

/-- The stall window of an expiry with this output speed (R64). -/
def windowAfter (s : State) (v : Int) : Stall :=
  if s.cornerIn stallPhase = true ∧ ((v.natAbs : Int) < s.vcreep ∨
      stallDistance ≤ ((s.motion.pos - s.motion.stall.start.getD s.motion.pos).natAbs : Int)) then
    { timer := some s.stallTime, start := some s.motion.pos }
  else s.motion.stall

theorem stallWork_eq (s : State) :
    stallWork s = s.onMotion fun m => { m with stall := windowAfter s s.motion.output.vOut } := by
  unfold stallWork windowAfter
  dsimp only
  split
  · split
    · rw [if_pos ⟨‹_›, ‹_›⟩]
      rfl
    · rw [if_neg fun h => absurd h.2 ‹_›]
      rfl
  · rw [if_neg fun h => absurd h.1 ‹_›]
    rfl

theorem applyOutput_vOut (v : Int) (s : State) : (applyOutput v s).motion.output.vOut = v := rfl

/-- The output stage reads no correction, and writes itself alone. -/
theorem applyOutput_corrected (s : State) (v c : Int) :
    applyOutput v (s.onMotion fun m => { m with correction := c }) =
      s.onMotion fun m => { m with correction := c, output := (applyOutput v s).motion.output } := by
  have h : (applyOutput v (s.onMotion fun m => { m with correction := c })).motion.output = (applyOutput v s).motion.output := by
    unfold applyOutput dutyOf
    rfl
  rw [applyOutput_only, h]
  rfl

/-- The window reads nothing that the output stage writes. -/
theorem windowAfter_applyOutput (s : State) (v w c : Int) :
    windowAfter (applyOutput v (s.onMotion fun m => { m with correction := c })) w = windowAfter s w := rfl

/-- What an expiry writes behind the profile: the outputs, the correction, the stall window, POSITION and its timer. -/
def expired (s : State) : State := s.onMotion fun m =>
  { m with
    output := (applyOutput (outputSpeed s) s).motion.output
    correction := outputCorrection s
    stall := windowAfter s (outputSpeed s)
    position := publishedPosition m.encoder.referenced m.pos
    controlTimer := some controlTime }

theorem controlWork_eq (s : State) : controlWork s = expired (profiled s) := by
  have h : controlWork s =
    (setPosition (stallWork (outputWork (profiled s)))).onMotion fun m => { m with controlTimer := some controlTime } := rfl
  rw [h, stallWork_eq, outputWork_eq, applyOutput_vOut, windowAfter_applyOutput, applyOutput_corrected,
    expired]
  generalize profiled s = p
  generalize (applyOutput (outputSpeed p) p).motion.output = o
  generalize windowAfter p (outputSpeed p) = x
  generalize outputCorrection p = c
  cases p
  rfl

/-! ### The command -/

section
variable {s : State} (hrun : s.running = true) (hrole : s.straps.role = .corner) (ht : s.motion.controlTimer.isSome = true)
include hrun hrole ht

theorem controlPeriod_aside : (controlPeriod s).aside = (expired (profiled (s.setFed false))).aside := by
  rw [controlPeriod_sends hrun hrole ht, ← controlWork_eq]
  split
  · rw [fillBoth_aside, publish_aside]
  · rw [publish_aside]

theorem controlPeriod_port : (controlPeriod s).port = (profiled (s.setFed false)).port := by
  have h : (controlWork (s.setFed false)).port = (profiled (s.setFed false)).port := by
    rw [controlWork_eq]
    generalize profiled (s.setFed false) = p
    rfl
  rw [controlPeriod_sends hrun hrole ht, ← h]
  split
  · rw [fillBoth_linkOnly (publish s _)]
    exact publish_port _ _
  · exact publish_port _ _

theorem controlPeriod_unchangedBut : UnchangedBut (.link :: roleBlocks) s (controlPeriod s) :=
  (controlPeriod_fillsSlots hrun hrole ht).2

end

/-! ### The supervision -/

/-- The travel of the period is too far (R63). -/
def tooFast (s : State) : Bool := decide (overspeedLimit s < ((travelNow s).natAbs : Int) * 10)

/-- A lowering corner stands below the tolerance without its seat (R47). -/
def State.unseated (s : State) : Bool := s.cornerIs .lowering && !s.seat && decide (s.motion.pos ≤ -s.seatTolerance)

/-- The seat test and the skew of an expiry (R47, R59). -/
def spanTested (s : State) : State :=
  let s1 := submitIf s.unseated .seatMismatch s
  if s1.isMoving then skewTest s1 else s1

/-- The travel of an expiry, tested (R63). -/
def travelTested (s : State) : State := submitIf (tooFast s) .overspeed (measured s)

/-- The margins of an expiry, tested (R65). -/
def marginTested (s : State) : State := submitIf (travelTested s).overtravelled .overtravel (travelTested s)

theorem supervise_eq (s : State) : supervise s = spanTested (marginTested s) := rfl

theorem submitIf_true {b : Bool} (h : b = true) (c : Cause) (s : State) : submitIf b c s = submitCause c s := if_pos h
theorem submitIf_false {b : Bool} (h : b = false) (c : Cause) (s : State) : submitIf b c s = s := if_neg (by simp [h])

/-- The supervision is a run of causes and of the skew computed. -/
theorem supervise_run (E : State → CornerPhase → Prop) (s : State) : EntryRun E (measured s) (supervise s) := by
  rw [supervise_eq]
  have h : EntryRun E (measured s) (marginTested s) := (EntryRun.refl.submitIf _ _).submitIf _ _
  unfold spanTested
  dsimp only
  split
  · exact ((h.submitIf _ _).notes (.skewTested _)).submitIf _ _
  · exact h.submitIf _ _

/-- From a tripped corner the seat test and the skew submit nothing. -/
theorem spanTested_tripped {s : State} (h : s.motion.phase = some .tripped) : spanTested s = s := by
  have hu : s.unseated = false := by simp [State.unseated, State.cornerIs, h]
  have hm : s.isMoving = false := by simp [State.isMoving, State.cornerIn, h, movingPhase]
  unfold spanTested
  dsimp only
  rw [submitIf_false hu, hm]
  rfl

/-- A cause that joins a record leaves its first cause. -/
theorem submitIf_joins {s : State} (b : Bool) (c d : Cause) (hrun : s.running = true) (hflag : s.trip.flag = true)
    (hfirst : s.trip.causes.head? = some d) :
    (submitIf b c s).motion = s.motion ∧ (submitIf b c s).trip.flag = true ∧ (submitIf b c s).trip.causes.head? = some d := by
  cases b with
  | false => exact ⟨rfl, hflag, hfirst⟩
  | true =>
    obtain ⟨hm, ht⟩ := submitCause_joins c hrun hflag
    rw [submitIf_true rfl, hm, ht]
    refine ⟨rfl, ?_⟩
    split
    · exact ⟨hflag, hfirst⟩
    · split
      · exact ⟨hflag, by simp [List.head?_append, hfirst]⟩
      · exact ⟨hflag, hfirst⟩

section
variable {s : State} (hrun : s.running = true) (hrole : s.straps.role = .corner) (hflag : s.trip.flag = false)
include hrun hrole hflag

/-- Too far a travel trips with OVERSPEED as its first cause (R63). -/
theorem supervise_fast (hf : tooFast s = true) : (supervise s).motion.phase = some .tripped ∧
    (supervise s).trip.flag = true ∧ (supervise s).trip.causes.head? = some .overspeed := by
  have ht := submitCause_trips (s := measured s) .overspeed hrun hrole hflag
  have hrun2 : (submitCause .overspeed (measured s)).running = true := (running_of_fixed (submitCause_fixed _ _)).trans hrun
  rw [supervise_eq, marginTested, travelTested, submitIf_true hf]
  obtain ⟨hm, h⟩ := submitIf_joins (submitCause .overspeed (measured s)).overtravelled .overtravel .overspeed hrun2 ht.flag
    (by rw [ht.causes]; rfl)
  have hp := (congrArg MotionUnit.phase hm).trans ht.phase
  rw [spanTested_tripped hp]
  exact ⟨hp, h⟩

/-- Without that, a P beyond the margins trips with OVERTRAVEL alone (R65; log entry 28). -/
theorem supervise_beyond (hf : tooFast s = false) (hb : (measured s).overtravelled = true) :
    TrippedFrom .overtravel (measured s).motion (supervise s) := by
  have ht := submitCause_trips (s := measured s) .overtravel hrun hrole hflag
  rw [supervise_eq, marginTested, travelTested, submitIf_false hf, submitIf_true hb, spanTested_tripped ht.phase]
  exact ht

/-- Without those, LOWERING below the tolerance without the seat trips with SEAT_MISMATCH alone (R47). -/
theorem supervise_unseated (hf : tooFast s = false) (hb : (measured s).overtravelled = false)
    (hu : (measured s).unseated = true) : TrippedFrom .seatMismatch (measured s).motion (supervise s) := by
  have ht := submitCause_trips (s := measured s) .seatMismatch hrun hrole hflag
  have hm : (submitCause .seatMismatch (measured s)).isMoving = false := by
    simp [State.isMoving, State.cornerIn, ht.phase, movingPhase]
  rw [supervise_eq, marginTested, travelTested, submitIf_false hf, submitIf_false hb, spanTested, submitIf_true hu]
  simp only [hm]
  exact ht

/-- Without those, a moving corner beyond the skew limit in force trips with SKEW alone (R59). -/
theorem supervise_skewed (hf : tooFast s = false) (hb : (measured s).overtravelled = false)
    (hu : (measured s).unseated = false) (hm : (measured s).isMoving = true) (hs : s.skewLimitInForce < s.skewNow) :
    ∃ m, TrippedFrom .skew m (supervise s) := by
  let w := (measured s).onMotion fun m => { m with skew := some (measured s).skewNow }
  have ht := submitCause_trips (s := w) .skew hrun hrole hflag
  have hx : skewTest (measured s) = submitCause .skew w := submitIf_true (decide_eq_true hs) _ _
  rw [supervise_eq, marginTested, travelTested, submitIf_false hf, submitIf_false hb, spanTested, submitIf_false hu]
  simp only [hm, if_true]
  rw [hx]
  exact ⟨_, ht⟩

end

/-- A cause trips a corner, or leaves its Motion Unit. -/
theorem submitIf_motion {s : State} (hrole : s.role = .corner) (b : Bool) (c : Cause) :
    (submitIf b c s).motion.phase = some .tripped ∨ (submitIf b c s).motion = s.motion := by
  cases b with
  | false => exact .inr rfl
  | true =>
    rw [submitIf_true rfl]
    rcases submitCause_motion_cases c hrole with hm | ⟨x, hx, -, -⟩
    · exact .inr hm
    · exact .inl (by rw [hx, enterCorner_phase])

/-- The corner has tripped, or nothing of its Motion Unit but the skew has changed since this one. -/
def SkewAtMost (m : MotionUnit) (s : State) : Prop :=
  s.motion.phase = some .tripped ∨ ∃ k, s.motion = { m with skew := k }

theorem SkewAtMost.submitIf {m : MotionUnit} {s : State} (h : SkewAtMost m s) (hrole : s.role = .corner) (b : Bool) (c : Cause) :
    SkewAtMost m (submitIf b c s) := by
  rcases submitIf_motion hrole b c with hp | hm
  · exact .inl hp
  · rw [SkewAtMost, hm]
    exact h

theorem SkewAtMost.noted {m : MotionUnit} {s : State} (h : SkewAtMost m s) (k : Option Int) :
    SkewAtMost m (s.onMotion fun m => { m with skew := k }) := by
  rcases h with h | ⟨l, hl⟩
  · exact .inl h
  · exact .inr ⟨k, by rw [State.onMotion_motion, hl]⟩

theorem SkewAtMost.skewTest {m : MotionUnit} {s : State} (h : SkewAtMost m s) (hrole : s.role = .corner) :
    SkewAtMost m (skewTest s) :=
  (h.noted (some s.skewNow)).submitIf hrole _ _

theorem SkewAtMost.spanTested {m : MotionUnit} {s : State} (h : SkewAtMost m s) (hrole : s.role = .corner) :
    SkewAtMost m (spanTested s) := by
  have h1 := h.submitIf hrole s.unseated .seatMismatch
  have hrole1 : (Machine.submitIf s.unseated .seatMismatch s).role = .corner :=
    (role_of_fixed (submitIf_fixed _ _ _)).trans hrole
  unfold Machine.spanTested
  dsimp only
  split
  · exact h1.skewTest hrole1
  · exact h1

/-- The supervision trips a corner, or computes its skew at most. -/
theorem supervise_motion {s : State} (hrole : s.straps.role = .corner) : SkewAtMost (measured s).motion (supervise s) := by
  have hrole1 : (measured s).role = .corner := hrole
  have hrole2 : (travelTested s).role = .corner := (role_of_fixed (submitIf_fixed _ _ _)).trans hrole1
  have hrole3 : (marginTested s).role = .corner := (role_of_fixed (submitIf_fixed _ _ _)).trans hrole2
  have h1 : SkewAtMost (measured s).motion (measured s) := .inr ⟨(measured s).motion.skew, rfl⟩
  have h2 : SkewAtMost (measured s).motion (travelTested s) := h1.submitIf hrole1 _ _
  have h3 : SkewAtMost (measured s).motion (marginTested s) := h2.submitIf hrole2 _ _
  exact h3.spanTested hrole3

/-! ### Behind the supervision -/

theorem testDriveCondition_motion (s : State) : ∃ b, (testDriveCondition s).motion = { s.motion with bolt := b } := by
  unfold testDriveCondition
  split
  · exact ⟨_, rfl⟩
  · exact ⟨_, rfl⟩

theorem testDriveCondition_trip (s : State) : (testDriveCondition s).trip = s.trip := by
  unfold testDriveCondition
  split
  · rfl
  · rfl

theorem profileWork_tripped {s : State} (h : s.motion.phase = some .tripped) : profileWork s = s := by
  unfold profileWork
  rw [h]

/-- A corner that the supervision trips stays as it tripped. -/
theorem profiled_tripped {s : State} (h : (supervise s).motion.phase = some .tripped) :
    (profiled s).motion.phase = some .tripped ∧ (profiled s).trip = (supervise s).trip := by
  obtain ⟨b, hb⟩ := testDriveCondition_motion (supervise s)
  have hp : (testDriveCondition (supervise s)).motion.phase = some .tripped := by rw [hb, ← h]
  obtain ⟨l, hl⟩ := clearLeftBehind_motion (testDriveCondition (supervise s))
  have hc : (clearLeftBehind (testDriveCondition (supervise s))).motion.phase = some .tripped := by rw [hl, ← hp]
  rw [profiled, cornerReact_tripped hp, profileWork_tripped hc, (MotionOnly.clearLeftBehind _).trip, testDriveCondition_trip]
  exact ⟨hc, rfl⟩

/-- Through an expiry a corner keeps the place it has measured, or is captured by its seat. -/
theorem profiled_tracks {s : State} (hrole : s.straps.role = .corner) : Tracks (measured s) (profiled s) := by
  have hsup : Tracks (measured s) (supervise s) := (Tracks.refl _).run hrole (measured_formed s) (supervise_run _ s)
  obtain ⟨b, hb⟩ := testDriveCondition_motion (supervise s)
  have hdrive : Tracks (measured s) (testDriveCondition (supervise s)) :=
    hsup.keeps (testDriveCondition_fixed _) (by rw [hb]; rfl) (by rw [hb]) (by rw [hb])
  exact (hdrive.run hrole (measured_formed s) (.cornerReact _)).profileWork hrole (measured_formed s)

end Sys2Proof.Machine
end

section
/-! PROOFS. What a movement or HOMING makes of its condition causes, and which phases it cannot come back to in one expiry
(R84 to R91). -/

namespace Sys2Proof.Machine

namespace EntryRun

variable {E : State → CornerPhase → Prop} {s t : State}

/-- A phase that is neither TRIPPED nor SEATED and that no state of a run may enter is not entered. -/
theorem avoids {p : CornerPhase} (hr : EntryRun E s t) (ht : p ≠ .tripped) (hp : p ≠ .seated)
    (hE : ∀ u, EntryRun E s u → ¬E u p) (hs : s.motion.phase ≠ some p) : t.motion.phase ≠ some p := by
  have ofCause : ∀ {u : State} (c : Cause), u.motion.phase ≠ some p → (submitCause c u).motion.phase ≠ some p := by
    intro u c hu
    rcases submitCause_phase c u with h | h
    · rwa [h]
    · rw [h]
      exact fun he => ht (Option.some.inj he).symm
  have ofSeated : ∀ u, (enterCorner .seated .none u).motion.phase ≠ some p := by
    intro u
    rw [enterCorner_phase]
    exact fun he => hp (Option.some.inj he).symm
  induction hr with
  | refl => exact hs
  | notes _ hn ih => rwa [hn.field (·.phase)]
  | setBrake _ ih => rwa [setRequest_phase]
  | enter h q rel he _ _ =>
    rw [enterCorner_phase]
    exact fun hq => hE _ h (Option.some.inj hq ▸ he)
  | cause _ c ih => exact ofCause c ih
  | mismatch _ ih => exact ofCause _ ih
  | arrive => exact ofSeated _
  | home => exact ofSeated _

/-- A run keeps the fixed part. -/
theorem fixed (hr : EntryRun E s t) : t.fixed = s.fixed := by
  induction hr with
  | refl => rfl
  | notes _ hn ih => exact hn.fixed.trans ih
  | setBrake _ ih => exact (setRequest_fixed _).trans ih
  | enter _ p rel _ hn ih => exact (enterCorner_fixed _ _ _).trans (hn.fixed.trans ih)
  | cause _ c ih => exact (submitCause_fixed _ _).trans ih
  | mismatch _ ih => exact (submitCause_fixed _ _).trans ih
  | arrive _ _ _ _ _ _ ih => exact (MotionOnly.arriveAtSeat _).fixed.trans ih
  | home _ _ _ ih => exact (MotionOnly.completeHoming _).fixed.trans ih

/-- What holds of the Motion Unit beside its outputs, and that notes, entries and a new place keep, a run keeps. -/
theorem keeps {Q : MotionUnit → Prop} (hr : EntryRun E s t) (hrole : s.role = .corner) (h : Q s.motion)
    (hnotes : ∀ u v, u.fixed = s.fixed → Notes u v → Q u.motion → Q v.motion)
    (hbrake : ∀ u : State, Q u.motion → Q (setRequest u).motion)
    (henter : ∀ p rel u, Q u.motion → Q (enterCorner p rel u).motion)
    (hplace : ∀ m p q e, Q m → Q { m with pos := p, position := q, encoder := e }) : Q t.motion := by
  have cause : ∀ {u : State} (c : Cause), u.fixed = s.fixed → Q u.motion → Q (submitCause c u).motion := by
    intro u c hf hu
    rcases submitCause_motion_cases c ((role_of_fixed hf).trans hrole) with hm | ⟨x, hx, hm, -⟩
    · rwa [hm]
    · rw [hx]
      exact henter _ _ _ (by rwa [hm])
  induction hr with
  | refl => exact h
  | notes hr hn ih => exact hnotes _ _ hr.fixed hn ih
  | setBrake _ ih => exact hbrake _ ih
  | enter hr p rel _ hn ih => exact henter _ _ _ (hnotes _ _ hr.fixed hn ih)
  | cause hr c ih => exact cause c hr.fixed ih
  | mismatch hr ih => exact cause _ hr.fixed (hplace _ _ _ _ ih)
  | @arrive u _ _ _ _ _ _ _ ih => exact henter _ _ _ (hplace u.motion _ _ _ ih)
  | @home u _ _ _ _ ih => exact henter _ _ _ (hplace u.motion _ _ _ ih)

/-- Under a demand of RAISE a corner that was left behind stays so (R85). -/
theorem left (hr : EntryRun E s t) (hrole : s.role = .corner) (hd : s.demandView = .raise) (h : s.motion.leftBehind = true) :
    t.motion.leftBehind = true := by
  refine hr.keeps (Q := fun m => m.leftBehind = true) hrole h (fun u v hf hn hu => hn.left hu ?_) (fun u hu => ?_)
    (fun p rel u hu => ?_) (fun _ _ _ _ hm => hm)
  · rwa [demandView_of_fixed (by simp [hrole]) hf]
  · rw [← hu]
    exact congrArg (·.leftBehind) (setRequest_unactuated u)
  · rwa [enterCorner_leftBehind]

theorem profileOn_still (p : CornerPhase) (working : Nat) {old : Profile} (h : old.vPrev = 0) :
    (profileOn p working old).vPrev = 0 := by
  cases p with
  | halting => exact h
  | _ => rfl

/-- A corner that stands still does so through its transitions (R49). -/
theorem still (hr : EntryRun E s t) (hrole : s.role = .corner) (h : s.motion.profile.vPrev = 0) :
    t.motion.profile.vPrev = 0 := by
  refine hr.keeps (Q := fun m => m.profile.vPrev = 0) hrole h (fun u v _ hn hu => ?_) (fun u hu => ?_)
    (fun p rel u hu => ?_) (fun _ _ _ _ hm => hm)
  · rwa [hn.field (·.profile)]
  · rw [← hu]
    exact congrArg (·.profile.vPrev) (setRequest_unactuated u)
  · rw [enterCorner_profile]
    exact profileOn_still _ _ hu

end EntryRun

/-! ### A movement that stops -/

theorem cornerCondition_raising {s : State} (h : s.motion.phase = some .raising) : cornerCondition s =
    if s.demandView ≠ .raise then some (toCorner .halting .none s)
    else if s.leftBehindFound then some (haltLeftBehind s) else none := by
  unfold cornerCondition
  rw [h]

theorem cornerCondition_lowering {s : State} (h : s.motion.phase = some .lowering) : cornerCondition s =
    if s.demandView ≠ .lower ∨ s.vesselHigh = true then some (toCorner .halting .none s) else none := by
  unfold cornerCondition
  rw [h]

/-- From `s`, in a movement, a corner has stopped moving on: it has tripped, or halts from where it was. -/
structure Halts (s t : State) : Prop where
  fixed : t.fixed = s.fixed
  halts : t.motion.phase = some .tripped ∨ (t.motion.phase = some .halting ∧ t.motion.place = s.motion.place ∧
    t.motion.stall = s.motion.stall ∧ t.motion.leftBehind = s.motion.leftBehind)

theorem cornerIn_stallPhase {s : State} (hm : s.cornerIn movingPhase = true) : s.cornerIn stallPhase = true := by
  unfold State.cornerIn at hm ⊢
  split at hm
  · simp [stallPhase, hm]
  · cases hm

/-- What the tests of the entry into a movement leave: the corner has tripped, or its Motion Unit stands. -/
theorem entryTests_motion {s : State} (hrole : s.role = .corner) :
    (silentTest (sympathyTest s)).motion.phase = some .tripped ∨ (silentTest (sympathyTest s)).motion = s.motion := by
  have hrole1 : (sympathyTest s).role = .corner := (role_of_fixed (sympathyTest_fixed s)).trans hrole
  rcases submitIf_motion hrole1 ((sympathyTest s).isMoving && (sympathyTest s).someCornerSilent) .peerSilent with h | h
  · exact .inl h
  · rw [show (silentTest (sympathyTest s)).motion = (sympathyTest s).motion from h]
    exact submitIf_motion hrole _ _

/-- A moving corner that goes on to HALTING halts, unless the tests of the entry trip it. -/
theorem toCorner_halting {s : State} (hrole : s.role = .corner) (hm : s.cornerIn movingPhase = true) :
    Halts s (toCorner .halting .none s) := by
  have hf := enterCorner_fixed .halting .none s
  have hp := enterCorner_phase .halting .none s
  have htests := entryTests_motion (s := enterCorner .halting .none s) ((role_of_fixed hf).trans hrole)
  have he : toCorner .halting .none s = silentTest (sympathyTest (enterCorner .halting .none s)) := by
    have hl : (silentTest (sympathyTest (enterCorner .halting .none s))).cornerIs .lowering = false := by
      rcases htests with h | h
      · simp [State.cornerIs, h]
      · simp [State.cornerIs, h, hp]
    have hmoves : movingPhase .halting = true := rfl
    simp [toCorner, hmoves, hm, hl]
  have hstall : (enterCorner .halting .none s).motion.stall = s.motion.stall := by
    rw [enterCorner_stall]
    exact (if_pos rfl).trans (if_pos (cornerIn_stallPhase hm))
  rw [he]
  refine ⟨by rw [silentTest_fixed, sympathyTest_fixed, hf], htests.imp id fun h => ?_⟩
  rw [h, hp, hstall, enterCorner_place (by decide), enterCorner_leftBehind]
  exact ⟨rfl, rfl, rfl, rfl⟩

/-- HALTING and TRIPPED have no condition cause. -/
theorem Halts.settled {s t : State} (h : Halts s t) : cornerCondition t = none := by
  rcases h.halts with h | ⟨h, -⟩
  · exact cornerCondition_tripped h
  · exact cornerCondition_halting h

/-- LEFT_BEHIND is latched, and the flag set (R85). -/
def leftBehindSet (s : State) : State := (latch .leftBehind s).onMotion fun m => { m with leftBehind := true }

/-- What a raising corner makes of its condition causes: it stays under a demand of RAISE, or it halts, and then it was left
behind where RAISE still stands (R84, R85). -/
theorem cornerReact_raising {s : State} (hrole : s.role = .corner) (hp : s.motion.phase = some .raising) :
    (s.demandView = .raise ∧ cornerReact s = s) ∨
      ∃ u, Halts u (cornerReact s) ∧ u.fixed = s.fixed ∧ u.motion.stall = s.motion.stall ∧
        (s.demandView = .raise → u.motion.leftBehind = true) := by
  obtain ⟨l, hl⟩ := clearLeftBehind_motion s
  have hw := MotionOnly.clearLeftBehind s
  have hpw : (clearLeftBehind s).motion.phase = some .raising := by rw [hl, ← hp]
  have hd := hw.demandView hrole
  have hmoves : ∀ {u : State}, u.motion.phase = some .raising → u.cornerIn movingPhase = true := fun h => by
    simp [State.cornerIn, h, movingPhase]
  have hc := cornerCondition_raising hpw
  split at hc
  · have hh := toCorner_halting (hw.role.trans hrole) (hmoves hpw)
    rw [cornerReact_moves hc hh.settled]
    exact .inr ⟨_, hh, hw.fixed, by rw [hl], fun h => absurd (hd.trans h) ‹_›⟩
  · have hr : s.demandView = .raise := by
      rw [← hd]
      simpa using ‹¬(clearLeftBehind s).demandView ≠ .raise›
    have hs : clearLeftBehind s = s := clearLeftBehind_of_raise hr
    split at hc
    · have hh := toCorner_halting (s := leftBehindSet s) hrole (hmoves hp)
      have he : haltLeftBehind (clearLeftBehind s) = toCorner .halting .none (leftBehindSet s) := by
        rw [hs]
        rfl
      rw [he] at hc
      rw [cornerReact_moves hc hh.settled]
      exact .inr ⟨_, hh, rfl, rfl, fun _ => rfl⟩
    · rw [cornerReact_stays hc]
      exact .inl ⟨hr, hs⟩

/-- What a lowering corner makes of its condition causes: it stays, or it halts where its demand is gone or a vessel is high
(R88, R89). -/
theorem cornerReact_lowering {s : State} (hrole : s.role = .corner) (hp : s.motion.phase = some .lowering) :
    cornerReact s = clearLeftBehind s ∨
      (Halts (clearLeftBehind s) (cornerReact s) ∧ (s.demandView ≠ .lower ∨ (clearLeftBehind s).vesselHigh = true)) := by
  obtain ⟨l, hl⟩ := clearLeftBehind_motion s
  have hw := MotionOnly.clearLeftBehind s
  have hpw : (clearLeftBehind s).motion.phase = some .lowering := by rw [hl, ← hp]
  have hc := cornerCondition_lowering hpw
  split at hc
  · have hh := toCorner_halting (hw.role.trans hrole) (by simp [State.cornerIn, hpw, movingPhase])
    rw [cornerReact_moves hc hh.settled]
    rename_i hn
    rw [hw.demandView hrole] at hn
    exact .inr ⟨hh, hn⟩
  · exact .inl (cornerReact_stays hc)

end Sys2Proof.Machine
end

section
/-! PROOFS. The profile of an expiry, phase by phase, and the stall window behind it (R48, R53, R54, R64). -/

namespace Sys2Proof.Machine

/-! ### The profile in each phase -/

/-- A raising corner with its working goal renewed (R83). -/
def aimed (s : State) : State := s.onMotion fun m => { m with workingGoal := some (workingGoalNow s) }

/-- A raising corner behind one step of its profile. -/
def raisedBy (s : State) : State := storeProfile (profileStep s (workingGoalNow s)).1 (aimed s)

theorem profileWork_raising {s : State} (h : s.motion.phase = some .raising) : profileWork s =
    if (profileStep s (workingGoalNow s)).2 then cornerReact (enterCorner .raised .none (raisedBy s)) else raisedBy s := by
  unfold profileWork
  rw [h]
  dsimp only
  rw [toCorner_at_rest .none _]
  rfl

theorem profileWork_lowering {s : State} (h : s.motion.phase = some .lowering) :
    profileWork s = storeProfile (profileStep s 0).1 s := by
  unfold profileWork
  rw [h]

/-- The speed of a halting corner behind an expiry (R51, R56). -/
def haltingSpeed (s : State) : Int := deadHold s (towardZero s.motion.profile.vPrev s.accel)

/-- A halting corner behind one step of its profile. -/
def slowed (s : State) : State := s.onProfile fun p => { p with vPrev := haltingSpeed s }

theorem profileWork_halting {s : State} (h : s.motion.phase = some .halting) : profileWork s =
    if haltingSpeed s = 0 then cornerReact (enterCorner .held .none (slowed s)) else slowed s := by
  unfold profileWork
  rw [h]
  dsimp only
  rw [toCorner_at_rest .none _]
  rfl

theorem profileWork_homing {s : State} (h : s.motion.phase = some .homing) : profileWork s =
    if s.homingLimit < s.motion.homingStart.getD s.motion.pos - s.motion.pos then failHoming s
    else s.onProfile fun p => { p with vPrev := deadHold s (homingSpeed s) } := by
  unfold profileWork
  rw [h]
  rfl

theorem profileWork_elsewhere {s : State} {p : CornerPhase} (h : s.motion.phase = some p)
    (hp : p ∉ [.raising, .lowering, .halting, .homing]) : profileWork s = s := by
  unfold profileWork
  rw [h]
  cases p <;> simp_all

theorem failHoming_eq (s : State) : failHoming s = enterCorner .unreferenced .none (latch .homingFailed s) :=
  toCorner_at_rest .none _

/-- An expiry of the profile keeps phase and stall window, or the corner stands still behind it. -/
theorem profileWork_stall {s : State} (hrole : s.role = .corner) :
    ((profileWork s).motion.phase = s.motion.phase ∧ (profileWork s).motion.stall = s.motion.stall) ∨
      (profileWork s).motion.profile.vPrev = 0 := by
  have still : ∀ {u : State} (p : CornerPhase), p ≠ .halting → u.fixed = s.fixed →
      (cornerReact (enterCorner p .none u)).motion.profile.vPrev = 0 := fun {u} p hp hf => by
    have hroleu := (role_of_fixed ((enterCorner_fixed p .none u).trans hf)).trans hrole
    refine (EntryRun.cornerReact _).still hroleu ?_
    rw [enterCorner_profile]
    cases p with
    | halting => exact absurd rfl hp
    | _ => rfl
  cases hphase : s.motion.phase with
  | none =>
    have h : profileWork s = s := by unfold profileWork; rw [hphase]
    exact .inl (by rw [h]; exact ⟨hphase, rfl⟩)
  | some p =>
    by_cases hp : p ∈ [.raising, .lowering, .halting, .homing]
    · simp only [List.mem_cons, List.not_mem_nil, or_false] at hp
      rcases hp with rfl | rfl | rfl | rfl
      · rw [profileWork_raising hphase]
        split
        · exact .inr (still _ (by decide) rfl)
        · exact .inl ⟨hphase, rfl⟩
      · rw [profileWork_lowering hphase]
        exact .inl ⟨hphase, rfl⟩
      · rw [profileWork_halting hphase]
        split
        · exact .inr (still _ (by decide) rfl)
        · exact .inl ⟨hphase, rfl⟩
      · rw [profileWork_homing hphase]
        split
        · rw [failHoming_eq, enterCorner_profile]
          exact .inr rfl
        · exact .inl ⟨hphase, rfl⟩
    · rw [profileWork_elsewhere hphase hp]
      exact .inl ⟨hphase, rfl⟩

/-- What a homing corner makes of its condition causes: it stays, or its homing fails (R91). -/
theorem cornerReact_homing {s : State} (hp : s.motion.phase = some .homing) :
    cornerReact s = clearLeftBehind s ∨ cornerReact s = failHoming (clearLeftBehind s) := by
  obtain ⟨l, hl⟩ := clearLeftBehind_motion s
  have hpw : (clearLeftBehind s).motion.phase = some .homing := by rw [hl, ← hp]
  have hc : cornerCondition (clearLeftBehind s) = if (clearLeftBehind s).maint = false ∨ (clearLeftBehind s).demandView = .raise ∨
      (clearLeftBehind s).demandView = .lower then some (failHoming (clearLeftBehind s)) else none := by
    unfold cornerCondition
    rw [hpw]
  split at hc
  · refine .inr (cornerReact_moves hc (cornerCondition_unreferenced ?_))
    rw [failHoming_eq, enterCorner_phase]
  · exact .inl (cornerReact_stays hc)

/-! ### A corner that the supervision leaves in its phase -/

/-- Since `s` measured, nothing of the corner but skew, bolt and left-behind flag has changed. -/
structure Steady (s u : State) : Prop where
  fixed : u.fixed = s.fixed
  motion : ∃ k b l, u.motion = { (measured s).motion with skew := k, bolt := b, leftBehind := l }

namespace Steady

variable {s u : State}

theorem clearLeftBehind (h : Steady s u) : Steady s (clearLeftBehind u) := by
  obtain ⟨k, b, l, hm⟩ := h.motion
  obtain ⟨l', hl⟩ := clearLeftBehind_motion u
  exact ⟨(MotionOnly.clearLeftBehind u).fixed.trans h.fixed, k, b, l', by rw [hl, hm]⟩

/-- A field that no such change touches. -/
theorem field {α : Type} (h : Steady s u) (f : MotionUnit → α)
    (hf : ∀ m k b l, f { m with skew := k, bolt := b, leftBehind := l } = f m := by intros; rfl) :
    f u.motion = f (measured s).motion := by
  obtain ⟨k, b, l, hm⟩ := h.motion
  rw [hm, hf]

end Steady

/-- The supervision trips a corner, or leaves it steady. -/
theorem supervise_steady {s : State} (hrole : s.straps.role = .corner) :
    (supervise s).motion.phase = some .tripped ∨ Steady s (testDriveCondition (supervise s)) := by
  refine (supervise_motion hrole).imp id fun ⟨k, hk⟩ => ?_
  obtain ⟨b, hb⟩ := testDriveCondition_motion (supervise s)
  exact ⟨(testDriveCondition_fixed _).trans (supervise_fixed s), k, b, _, by rw [hb, hk]⟩

/-- Where an expiry does not leave a corner tripped its supervision left it steady. -/
theorem steady_of_profiled {s : State} (hrole : s.straps.role = .corner) (h : (profiled s).motion.phase ≠ some .tripped) :
    Steady s (testDriveCondition (supervise s)) :=
  (supervise_steady hrole).resolve_left fun ht => h (profiled_tripped ht).1

/-! ### The stall window -/

theorem Halts.stall {u t : State} (h : Halts u t) : t.motion.stall = u.motion.stall ∨ t.motion.phase = some .tripped := by
  rcases h.halts with hp | ⟨-, -, hs, -⟩
  · exact .inr hp
  · exact .inl hs

/-- The condition causes of a movement or HOMING keep the stall window, or trip the corner or fail its homing. -/
theorem cornerReact_stall {u : State} (hrole : u.role = .corner)
    (hp : u.motion.phase ∈ [some .raising, some .lowering, some .halting, some .homing]) :
    (cornerReact u).motion.stall = u.motion.stall ∨ (cornerReact u).motion.phase = some .tripped ∨
      (cornerReact u).motion.phase = some .unreferenced := by
  obtain ⟨l, hl⟩ := clearLeftBehind_motion u
  have hstays : (clearLeftBehind u).motion.stall = u.motion.stall := by rw [hl]
  simp only [List.mem_cons, List.not_mem_nil, or_false] at hp
  rcases hp with hp | hp | hp | hp
  · rcases cornerReact_raising hrole hp with ⟨-, h⟩ | ⟨w, h, -, hw, -⟩
    · exact .inl (by rw [h])
    · exact h.stall.imp (fun h => h.trans hw) .inl
  · rcases cornerReact_lowering hrole hp with h | ⟨h, -⟩
    · exact .inl (by rw [h, hstays])
    · exact h.stall.imp (fun h => h.trans hstays) .inl
  · rw [cornerReact_stays (cornerCondition_halting (by rw [hl]; exact hp))]
    exact .inl hstays
  · rcases cornerReact_homing hp with h | h
    · exact .inl (by rw [h, hstays])
    · exact .inr (.inr (by rw [h, failHoming_eq, enterCorner_phase]))

/-- A movement or HOMING that an expiry does not leave keeps its stall window, or stands still (R64). -/
theorem profiled_stall {s : State} (hrole : s.straps.role = .corner)
    (hp : s.motion.phase ∈ [some .raising, some .lowering, some .halting, some .homing])
    (hsame : (profiled s).motion.phase = s.motion.phase) :
    (profiled s).motion.stall = s.motion.stall ∨ (profiled s).motion.profile.vPrev = 0 := by
  have hrest : ∀ p, (profiled s).motion.phase = some p → p ∈ [.raising, .lowering, .halting, .homing] := fun p h => by
    rw [← hsame, h] at hp
    simpa using hp
  have hu := steady_of_profiled hrole fun h => absurd (hrest _ h) (by decide)
  have hphase := hu.field (·.phase)
  have hstall := hu.field (·.stall)
  have hroleu := (role_of_fixed hu.fixed).trans hrole
  unfold profiled at hrest ⊢
  generalize testDriveCondition (supervise s) = u at hrest hphase hstall hroleu ⊢
  have hrole2 := (role_of_fixed (cornerReact_fixed u)).trans hroleu
  have ends : ∀ {p : CornerPhase}, p ∉ [.raising, .lowering, .halting, .homing] → (cornerReact u).motion.phase ≠ some p :=
    fun hn h => hn (hrest _ (by rw [profileWork_elsewhere h hn, h]))
  rcases cornerReact_stall hroleu (by rw [hphase]; exact hp) with h | h | h
  · refine (profileWork_stall hrole2).imp (fun ⟨_, hs⟩ => ?_) id
    rw [hs, h, hstall]
    rfl
  · exact absurd h (ends (by decide))
  · exact absurd h (ends (by decide))

/-! ### Phases that an expiry does not come back to -/

/-- A corner that halts does not raise again in the expiry: RAISE is gone, or it was left behind (R84, R85). -/
theorem Halts.not_raising {u t : State} (h : Halts u t) (hrole : u.role = .corner)
    (hl : u.demandView = .raise → u.motion.leftBehind = true) {p : CornerPhase} (hp : p = .raising ∨ p = .raised) :
    (profileWork t).motion.phase ≠ some p := by
  have hne : p ≠ .tripped ∧ p ≠ .halting ∧ p ≠ .seated ∧ p ≠ .held := by rcases hp with rfl | rfl <;> decide
  obtain ⟨hnt, hnh, hns, hnheld⟩ := hne
  have differs : ∀ {q : CornerPhase}, p ≠ q → some q ≠ some p := fun hq he => hq (Option.some.inj he).symm
  rcases h.halts with ht | ⟨ht, -, -, hleft⟩
  · rw [profileWork_elsewhere ht (by decide), ht]
    exact differs hnt
  · rw [profileWork_halting ht]
    split
    · have hf : (enterCorner .held .none (slowed t)).fixed = u.fixed := (enterCorner_fixed _ _ _).trans h.fixed
      have hrole1 := (role_of_fixed hf).trans hrole
      have hd := demandView_of_fixed (by simp [hrole]) hf
      refine (EntryRun.cornerReact _).avoids hnt hns (fun w hw he => ?_) (by rw [enterCorner_phase]; exact differs hnheld)
      rcases hp with rfl | rfl
      · have hperm := he.raising rfl
        simp only [State.raisingPermission, Bool.and_eq_true, beq_iff_eq, Bool.not_eq_true'] at hperm
        obtain ⟨⟨⟨⟨hraise, -⟩, -⟩, -⟩, hnot⟩ := hperm
        have hd1 := (demandView_of_fixed (by simp [hrole1]) hw.fixed).symm.trans hraise
        have hleft1 : (enterCorner .held .none (slowed t)).motion.leftBehind = true := by
          rw [enterCorner_leftBehind]
          exact hleft.trans (hl (hd.symm.trans hd1))
        exact absurd ((hw.left hrole1 hd1 hleft1).symm.trans hnot) (by decide)
      · exact he.notRaised rfl
    · rw [show (slowed t).motion.phase = some .halting from ht]
      exact differs hnh

/-- What a corner reads of the vessel alerts is what the channels send (R16, R20). -/
theorem vesselAlertAny_of_fixed {s t : State} (hrole : s.role = .corner) (hf : t.fixed = s.fixed)
    (h : s.vesselAlertAny = true) : t.vesselAlertAny = true := by
  have hstraps : t.straps = s.straps := congrArg Fixed.straps hf
  have hpeers : t.peers = s.peers := congrArg Fixed.peers hf
  obtain ⟨j, c, aspect, present, closed, stop, lamps, cause, hc, hp⟩ := (vesselAlertAny_iff s).mp h
  refine (vesselAlertAny_iff t).mpr ⟨j, c, aspect, present, closed, stop, lamps, cause, ?_, hp⟩
  rw [counted_eq_some] at hc ⊢
  rw [hstraps]
  split at hc
  · rw [hc, State.ownContent, State.ownPayload, hrole] at hp
    cases hp
  · rw [if_neg ‹_›, State.peer, hpeers]
    exact hc

/-- A corner that halts does not lower again in the expiry: LOWER is gone, or a vessel is high where it halts (R74, R88, R89). -/
theorem Halts.not_lowering {u t : State} (h : Halts u t) (hrole : u.role = .corner) (hu : Formed u)
    (hn : u.demandView ≠ .lower ∨ u.vesselHigh = true) :
    (profileWork t).motion.phase ≠ some .lowering := by
  rcases h.halts with ht | ⟨ht, hplace, -, -⟩
  · rw [profileWork_elsewhere ht (by decide), ht]
    decide
  · rw [profileWork_halting ht]
    split
    · let w0 := enterCorner .held .none (slowed t)
      have hf : w0.fixed = u.fixed := (enterCorner_fixed _ _ _).trans h.fixed
      have hrole1 := (role_of_fixed hf).trans hrole
      have hplace0 : w0.motion.place = u.motion.place := (enterCorner_place (by decide) .none (slowed t)).trans hplace
      have hpos0 : w0.motion.pos = u.motion.pos := congrArg (·.1) hplace0
      have hformed : Formed w0 := by
        rw [Formed, hpos0, countedPosition_of_place hf hplace0]
        exact hu
      refine (EntryRun.cornerReact _).avoids (by decide) (by decide) (fun w hw he => ?_) (by rw [enterCorner_phase]; decide)
      obtain ⟨hperm, hfree⟩ := he.lowering rfl
      have htracks := (Tracks.refl w0).run hrole1 hformed hw
      have hposw : w.motion.pos = w0.motion.pos := by
        rcases htracks.place with hk | hc
        · exact congrArg (·.1) hk.place
        · exact absurd (hc.locked.symm.trans hfree) (by decide)
      simp only [State.loweringPermission, Bool.and_eq_true, beq_iff_eq, Bool.not_eq_true'] at hperm
      obtain ⟨⟨⟨⟨hlower, -⟩, -⟩, -⟩, hlow⟩ := hperm
      have hfw : w.fixed = u.fixed := hw.fixed.trans hf
      rcases hn with hn | hn
      · exact hn ((demandView_of_fixed (by simp [hrole]) hfw).symm.trans hlower)
      · simp only [State.vesselHigh, Bool.and_eq_true] at hn
        obtain ⟨halert, hhigh⟩ := hn
        have hclear : w.clearanceHeight = u.clearanceHeight := by rw [State.clearanceHeight, config_of_fixed hfw]; rfl
        rw [State.vesselHigh, vesselAlertAny_of_fixed hrole hfw halert, hposw, hpos0, hclear, hhigh] at hlow
        cases hlow
    · rw [show (slowed t).motion.phase = some .halting from ht]
      decide

end Sys2Proof.Machine
end

section
/-! PROOFS. The output speed of an expiry, and what the control period supervises (O48). -/

namespace Sys2Proof.Machine

/-! ### The output speed -/

theorem levelled_still (s : State) (c : Int) : levelled s 0 c = 0 := rfl

theorem outputSpeed_of_still {s : State} (h : s.motion.profile.vPrev = 0) : outputSpeed s = 0 := by
  unfold outputSpeed
  rw [h, levelled_still]
  simp

theorem outputSpeed_releasing {s : State} (h : s.motion.phase = some .releasing) : outputSpeed s = 0 := by
  simp [outputSpeed, State.cornerIs, h]

theorem outputSpeed_moving {s : State} (h : s.motion.phase ∈ [some .raising, some .lowering, some .halting]) :
    outputSpeed s = levelled s s.motion.profile.vPrev (levellingCorrection s) ∧ outputCorrection s = levellingCorrection s := by
  have hm : (s.cornerIs .raising || s.cornerIs .lowering || s.cornerIs .halting) = true := by
    simpa [State.cornerIs, or_assoc] using h
  exact ⟨if_pos hm, if_pos hm⟩

theorem outputSpeed_homing {s : State} (h : s.motion.phase = some .homing) : outputSpeed s = s.motion.profile.vPrev := by
  simp [outputSpeed, State.cornerIs, h]

/-- Levelling keeps the output within full scale (R58). -/
theorem levelled_within (s : State) (v c : Int) : -s.vfs ≤ levelled s v c ∧ levelled s v c ≤ s.vfs := by
  have hvfs : 0 ≤ s.vfs := Int.natCast_nonneg _
  unfold levelled clampInt
  split
  · omega
  · split
    · omega
    · omega

/-- Only a homing corner is in HOMING behind the profile, and then by its own step. -/
theorem profileWork_homes {s : State} (h : (profileWork s).motion.phase = some .homing) :
    s.motion.phase = some .homing ∧ profileWork s = s.onProfile fun p => { p with vPrev := deadHold s (homingSpeed s) } := by
  have never : ∀ {u : State} (p : CornerPhase), p ≠ .homing → u.fixed = s.fixed →
      (cornerReact (enterCorner p .none u)).motion.phase ≠ some .homing := fun {u} p hp hf =>
    (EntryRun.cornerReact _).avoids (by decide) (by decide) (fun w _ he => he.notHoming rfl)
      (by rw [enterCorner_phase]; exact fun he => hp (Option.some.inj he))
  cases hphase : s.motion.phase with
  | none =>
    have hw : profileWork s = s := by unfold profileWork; rw [hphase]
    rw [hw, hphase] at h
    cases h
  | some p =>
    by_cases hp : p ∈ [.raising, .lowering, .halting, .homing]
    · simp only [List.mem_cons, List.not_mem_nil, or_false] at hp
      rcases hp with rfl | rfl | rfl | rfl
      · rw [profileWork_raising hphase] at h
        split at h
        · exact absurd h (never _ (by decide) rfl)
        · cases hphase.symm.trans h
      · rw [profileWork_lowering hphase] at h
        cases hphase.symm.trans h
      · rw [profileWork_halting hphase] at h
        split at h
        · exact absurd h (never _ (by decide) rfl)
        · cases hphase.symm.trans h
      · rw [profileWork_homing hphase] at h ⊢
        split at h
        · rw [failHoming_eq, enterCorner_phase] at h
          cases h
        · exact ⟨rfl, if_neg ‹_›⟩
    · rw [profileWork_elsewhere hphase hp, hphase] at h
      cases h
      exact absurd hp (by decide)

/-- The speed of HOMING, held or not, is downward and within full scale (R54). -/
theorem homingSpeed_within (s : State) :
    -s.vfs ≤ deadHold s (homingSpeed s) ∧ deadHold s (homingSpeed s) ≤ 0 := by
  have hvfs : 0 ≤ s.vfs := Int.natCast_nonneg _
  have hcreep : s.vcreep ≤ s.vfs ∧ 0 ≤ s.vcreep := by simp only [State.vcreep, State.vtop, State.vfs]; omega
  have haccel : 0 ≤ s.accel := Int.natCast_nonneg _
  have hspeed : -s.vfs ≤ homingSpeed s ∧ homingSpeed s ≤ 0 := by
    unfold homingSpeed
    split
    · omega
    · omega
  unfold deadHold
  split
  · omega
  · exact hspeed

theorem profileWork_homing_within {s : State} (h : (profileWork s).motion.phase = some .homing) :
    -s.vfs ≤ (profileWork s).motion.profile.vPrev ∧ (profileWork s).motion.profile.vPrev ≤ s.vfs := by
  have hvfs : 0 ≤ s.vfs := Int.natCast_nonneg _
  obtain ⟨hlo, hhi⟩ := homingSpeed_within s
  rw [(profileWork_homes h).2]
  exact ⟨hlo, hhi.trans hvfs⟩

/-- The output speed of an expiry is within full scale (R60). -/
theorem outputSpeed_within {s : State} (hrole : s.straps.role = .corner) :
    -s.vfs ≤ outputSpeed (profiled s) ∧ outputSpeed (profiled s) ≤ s.vfs := by
  obtain ⟨u, hu, hfu⟩ : ∃ u, profiled s = profileWork u ∧ u.fixed = s.fixed :=
    ⟨_, rfl, (cornerReact_fixed _).trans ((testDriveCondition_fixed _).trans (supervise_fixed s))⟩
  have hvfs : ∀ {w : State}, w.fixed = s.fixed → w.vfs = s.vfs := fun hw => by rw [State.vfs, config_of_fixed hw]; rfl
  have hvp := hvfs (profiled_tracks hrole).fixed
  have hnn : 0 ≤ s.vfs := Int.natCast_nonneg _
  have hhoming := fun h => profileWork_homing_within (s := u) h
  rw [hvfs hfu, ← hu] at hhoming
  have hlevelled := levelled_within (profiled s)
  rw [hvp] at hlevelled
  unfold outputSpeed
  split
  · exact hlevelled _ _
  · split
    · exact hhoming (phase_of_cornerIs ‹_›)
    · omega

/-! ### The stall window of an expiry -/

/-- In a movement or HOMING that an expiry does not leave the stall window is the old one, or fresh at a standstill (R64). -/
theorem profiled_window {s : State} (hrole : s.straps.role = .corner)
    (hp : s.motion.phase ∈ [some .releasing, some .raising, some .lowering, some .halting, some .homing])
    (hsame : (profiled s).motion.phase = s.motion.phase) :
    (profiled s).motion.stall = s.motion.stall ∨
      ((profiled s).motion.stall = { timer := some s.stallTime, start := some (profiled s).motion.pos } ∧
        outputSpeed (profiled s) = 0) := by
  have hin : (profiled s).cornerIn stallPhase = true := by
    simp only [List.mem_cons, List.not_mem_nil, or_false] at hp
    rw [State.cornerIn, hsame]
    rcases hp with hp | hp | hp | hp | hp <;> rw [hp] <;> rfl
  rcases (profiled_tracks hrole).window hin with h | h
  · exact .inl h
  · rw [List.mem_cons] at hp
    rcases hp with hp | hp
    · exact .inr ⟨h, outputSpeed_releasing (hsame.trans hp)⟩
    · exact (profiled_stall hrole hp hsame).imp id fun hv => ⟨h, outputSpeed_of_still hv⟩

end Sys2Proof.Machine
end

section
/-! PROOFS. O48, put together from the stages of an expiry. -/

namespace Sys2Proof.Machine

section
variable {s : State}

/-- Behind an expiry P, encoder and POSITION are as measured, or as the seat's capture leaves them (R44, R45, R47). -/
theorem profiled_place (hrole : s.straps.role = .corner) :
    let m := (profiled s).motion
    (m.pos = (measured s).motion.pos ∧ m.encoder = (measured s).motion.encoder) ∨
      (s.seat = true ∧ m.phase ≠ s.motion.phase ∧ ((measured s).motion.pos.natAbs : Int) ≤ s.seatTolerance ∧ m.pos = 0 ∧
        m.encoder = { s.motion.encoder with count := 0, sampled := 0 }) := by
  intro m
  rcases (profiled_tracks hrole).place with hk | hc
  · have hplace := hk.place
    simp only [MotionUnit.place, Prod.mk.injEq] at hplace
    obtain ⟨hpos, -, he⟩ := hplace
    exact .inl ⟨hpos, he⟩
  · refine .inr ⟨hc.seat, fun hp => ?_, hc.near, hc.pos, ?_⟩
    · have hin := cornerIn_of_phase (s := measured s) (t := profiled s) restsLocked hp
      rw [hc.locked, hc.unlocked] at hin
      cases hin
    · rw [show m.encoder = _ from hc.encoder]
      simp [measured, formPosition_motion]

/-- The causes of the supervision, in their order, on a state that keeps a trip of the supervision (R47, R59, R63, R65). -/
theorem supervise_trips {t : State} (hrun : s.running = true) (hrole : s.straps.role = .corner) (hflag : s.trip.flag = false)
    (tripped : (supervise s).motion.phase = some .tripped →
      t.motion.phase = some .tripped ∧ t.trip = (supervise s).trip) :
    let beyond := (measured s).overtravelled
    let low := (measured s).unseated
    let skewed := (measured s).isMoving = true ∧ s.skewLimitInForce < s.skewNow
    (tooFast s = true → t.trip.causes.head? = some .overspeed) ∧
    (tooFast s = false → beyond = true → t.trip.causes = [.overtravel]) ∧
    (tooFast s = false → beyond = false → low = true → t.trip.causes = [.seatMismatch]) ∧
    (tooFast s = false → beyond = false → low = false → skewed → t.trip.causes = [.skew]) ∧
    (tooFast s = true ∨ beyond = true ∨ low = true ∨ skewed → t.trip.flag = true ∧ t.motion.phase = some .tripped) := by
  intro beyond low skewed
  have behind : (supervise s).motion.phase = some .tripped → (supervise s).trip.flag = true →
      t.trip = (supervise s).trip ∧ t.trip.flag = true ∧ t.motion.phase = some .tripped := fun hp hf => by
    obtain ⟨htp, ht⟩ := tripped hp
    exact ⟨ht, by rw [ht, hf], htp⟩
  have trips : ∀ {c : Cause} {m : MotionUnit}, TrippedFrom c m (supervise s) →
      t.trip.causes = [c] ∧ t.trip.flag = true ∧ t.motion.phase = some .tripped := fun h => by
    obtain ⟨ht, hrest⟩ := behind h.phase h.flag
    exact ⟨by rw [ht, h.causes], hrest⟩
  have fast : tooFast s = true →
      t.trip.causes.head? = some .overspeed ∧ t.trip.flag = true ∧ t.motion.phase = some .tripped := fun h => by
    obtain ⟨hp, hf, hc⟩ := supervise_fast hrun hrole hflag h
    obtain ⟨ht, hrest⟩ := behind hp hf
    exact ⟨by rw [ht, hc], hrest⟩
  have overtravels := fun h1 h2 => trips (supervise_beyond hrun hrole hflag h1 h2)
  have unseated := fun h1 h2 h3 => trips (supervise_unseated hrun hrole hflag h1 h2 h3)
  have skew : tooFast s = false → beyond = false → low = false → skewed →
      t.trip.causes = [.skew] ∧ t.trip.flag = true ∧ t.motion.phase = some .tripped := fun h1 h2 h3 h4 => by
    obtain ⟨m, hm⟩ := supervise_skewed hrun hrole hflag h1 h2 h3 h4.1 h4.2
    exact trips hm
  refine ⟨fun h => (fast h).1, fun h1 h2 => (overtravels h1 h2).1, fun h1 h2 h3 => (unseated h1 h2 h3).1,
    fun h1 h2 h3 h4 => (skew h1 h2 h3 h4).1, fun h => ?_⟩
  cases h1 : tooFast s with
  | true => exact (fast h1).2
  | false =>
    cases h2 : beyond with
    | true => exact (overtravels h1 h2).2
    | false =>
      cases h3 : low with
      | true => exact (unseated h1 h2 h3).2
      | false =>
        refine (skew h1 h2 h3 ?_).2
        rcases h with h | h | h | h
        · cases h1.symm.trans h
        · cases h2.symm.trans h
        · cases h3.symm.trans h
        · exact h

/-- The stall window that an expiry leaves in a movement or HOMING: fresh below creep speed or after 3 mm, else the old one (R64). -/
theorem windowAfter_of {p : State} (hf : p.fixed = s.fixed) (hin : p.cornerIn stallPhase = true) {start v : Int}
    (hs : s.motion.stall.start = some start)
    (hw : p.motion.stall = s.motion.stall ∨
      (p.motion.stall = { timer := some s.stallTime, start := some p.motion.pos } ∧ v = 0)) :
    ((v.natAbs : Int) < s.vcreep ∨ 3 ≤ ((p.motion.pos - start).natAbs : Int) →
      windowAfter p v = { timer := some s.stallTime, start := some p.motion.pos }) ∧
    (0 < s.vcreep → s.vcreep ≤ (v.natAbs : Int) → ((p.motion.pos - start).natAbs : Int) < 3 →
      windowAfter p v = s.motion.stall) := by
  have hcreep : p.vcreep = s.vcreep := by rw [State.vcreep, State.vtop, config_of_fixed hf]; rfl
  have htime : p.stallTime = s.stallTime := by rw [State.stallTime, config_of_fixed hf]; rfl
  have hafter : windowAfter p v = if (v.natAbs : Int) < s.vcreep ∨
      3 ≤ ((p.motion.pos - p.motion.stall.start.getD p.motion.pos).natAbs : Int) then
      { timer := some s.stallTime, start := some p.motion.pos } else p.motion.stall := by
    rw [← hcreep, ← htime]
    simp only [windowAfter, hin, true_and, stallDistance]
  rw [hafter]
  rcases hw with h | ⟨h, rfl⟩
  · rw [h, hs]
    refine ⟨fun hr => if_pos hr, fun _ hc hd => if_neg fun hr => ?_⟩
    rcases hr with hr | hr
    · exact absurd hc (not_le.mpr hr)
    · exact absurd hd (not_lt.mpr hr)
  · rw [h]
    exact ⟨fun _ => ite_self _, fun hpos hc => absurd hpos (not_lt.mpr hc)⟩

end

/-- The duty that V_OUT gives, with its direction blocked or not (R60, R61). -/
theorem applyOutput_duty (v : Int) (s : State) :
    let o := (applyOutput v s).motion.output
    o.duty = if (0 < o.vOut ∧ o.upBlocked = true) ∨ (o.vOut < 0 ∧ o.downBlocked = true) then 0 else dutyOf s v := rfl

theorem overtravelled_iff (s : State) : s.overtravelled = true ↔ s.motion.encoder.referenced = true ∧ s.filtered 24 = false ∧
    ((s.config.item 4 : Int) + s.config.item 8 < s.motion.pos ∨ s.motion.pos < -(s.config.item 8 : Int)) := by
  unfold State.overtravelled
  simp only [Bool.and_eq_true, Bool.or_eq_true, decide_eq_true_eq, Bool.not_eq_true', and_assoc]
  rfl

theorem unseated_iff (s : State) : s.unseated = true ↔
    s.motion.phase = some .lowering ∧ s.filtered 0 = false ∧ s.motion.pos ≤ -(s.config.item 7 : Int) := by
  unfold State.unseated State.cornerIs
  simp only [Bool.and_eq_true, decide_eq_true_eq, Bool.not_eq_true', beq_iff_eq, and_assoc]
  rfl

theorem cornerIn_movingPhase_iff (s : State) : s.cornerIn movingPhase = true ↔
    s.motion.phase ∈ [some .releasing, some .raising, some .lowering, some .halting] := by
  unfold State.cornerIn
  cases h : s.motion.phase with
  | none => simp
  | some q => cases q <;> simp [movingPhase]

theorem skewLimitInForce_eq (s : State) : s.skewLimitInForce =
    ((if s.filtered 24 then max (s.config.item 17) (s.config.item 16) else s.config.item 16 : Nat) : Int) := by
  unfold State.skewLimitInForce State.maint State.maintSkewLimit State.skewLimit
  split
  · rw [Nat.cast_max]
  · rfl

/-- Settles O48: the stages of an expiry in the order of R48, each by what it keeps of the ones before it. -/
theorem controlPeriodSupervises : Obligations.ControlPeriodSupervises := by
  intro s hrun hrole htimer millimetres p travel fast beyond unseated moving skewed creep formed captured
  let v := s.setFed false
  have hrolev : v.straps.role = .corner := hrole
  obtain ⟨q, hq⟩ : ∃ q, q = profiled v := ⟨_, rfl⟩
  obtain ⟨t, ht⟩ : ∃ t, t = controlPeriod s := ⟨_, rfl⟩
  have haside : t.aside = (expired q).aside := by rw [ht, hq]; exact controlPeriod_aside hrun hrole htimer
  have hm : t.motion = (expired q).motion := motion_of_aside haside
  have hplace := profiled_place (s := v) hrolev
  obtain ⟨hlo, hhi⟩ := outputSpeed_within (s := v) hrolev
  have htripped := @profiled_tripped v
  have hfix := (profiled_tracks hrolev).fixed
  have hwindow := @profiled_window v hrolev
  rw [← hq] at hplace hlo hhi htripped hfix hwindow
  have htrip : t.trip = q.trip := congrArg (·.1) haside
  have hphase : t.motion.phase = q.motion.phase := by rw [hm]; rfl
  have hpos : t.motion.pos = q.motion.pos := by rw [hm]; rfl
  have hencoder : t.motion.encoder = q.motion.encoder := by rw [hm]; rfl
  have hposition : t.motion.position = publishedPosition t.motion.encoder.referenced t.motion.pos := by rw [hm]; rfl
  have houtput : t.motion.output = (applyOutput (outputSpeed q) q).motion.output := by rw [hm]; rfl
  have hstall : t.motion.stall = windowAfter q (outputSpeed q) := by rw [hm]; rfl
  have hformed : q.motion.pos = (measured v).motion.pos ∧ q.motion.encoder = (measured v).motion.encoder → formed t := by
    rintro ⟨h1, h2⟩
    have hp : t.motion.pos = p := hpos.trans h1
    have he := hencoder.trans h2
    exact ⟨hp, he, by rw [hposition, he, hp]; rfl⟩
  obtain ⟨-, hup, hdown, -⟩ := applyOutput_safe (outputSpeed q) q
  have hvfs : q.vfs = s.config.item 9 := by rw [State.vfs, config_of_fixed hfix]; rfl
  refine ⟨t, by rw [ht]; rfl, by rw [hm]; rfl, fun h => ?_, ?_, ?_, ?_, ?_, ?_, ?_, fun hflag => ?_, fun hin hsame start hs => ?_, ?_⟩
  · rcases hplace with hk | ⟨hseat, hne, -⟩
    · exact hformed hk
    · rcases h with h | h
      · exact absurd (hseat.symm.trans h) (by decide)
      · exact absurd (hphase.symm.trans h) hne
  · refine hplace.imp hformed ?_
    rintro ⟨-, -, hnear, hzero, he⟩
    have he' := hencoder.trans he
    have hp := hpos.trans hzero
    refine ⟨hnear, hp, he', ?_⟩
    rw [hposition, he', hp]
    rfl
  · rw [houtput]
    exact hlo
  · rw [houtput]
    exact hhi
  · rw [houtput]
    exact hup
  · rw [houtput]
    exact hdown
  · rw [houtput, applyOutput_duty, dutyOf, hvfs]
    rfl
  · have hfast : tooFast v = true ↔ fast := decide_eq_true_iff
    have hbeyond : (measured v).overtravelled = true ↔ beyond := overtravelled_iff (measured v)
    have hunseated : (measured v).unseated = true ↔ unseated := unseated_iff (measured v)
    have hmoving : (measured v).isMoving = true ↔ moving := by
      rw [State.isMoving, show (measured v).role = .corner from hrole]
      exact cornerIn_movingPhase_iff (measured v)
    have hskew : v.skewLimitInForce < v.skewNow ↔ skewed := by
      rw [skewLimitInForce_eq]
      rfl
    have h := supervise_trips (s := v) (t := t) hrun hrole hflag (by rw [hphase, htrip]; exact htripped)
    simp only [← Bool.not_eq_true, hfast, hbeyond, hunseated, hmoving, hskew] at h
    obtain ⟨h1, h2, h3, h4, h5⟩ := h
    exact ⟨h1, h2, h3, fun hf hb hu hmv hsk => h4 hf hb hu ⟨hmv, hsk⟩, h5⟩
  · have hinv : v.motion.phase ∈ [some .releasing, some .raising, some .lowering, some .halting, some .homing] := by
      rcases hin with h | h
      · exact List.mem_append_left [some .homing] h
      · exact List.mem_append_right [some .releasing, some .raising, some .lowering, some .halting] (List.mem_singleton.mpr h)
    have hsame' : q.motion.phase = v.motion.phase := hphase.symm.trans hsame
    have hstallIn : q.cornerIn stallPhase = true := by
      simp only [List.mem_cons, List.not_mem_nil, or_false] at hinv
      rw [State.cornerIn, hsame']
      rcases hinv with h | h | h | h | h <;> rw [h] <;> rfl
    have hvcreep : v.vcreep = creep := by
      simp only [creep, Nat.cast_min]
      rfl
    have hposq : q.motion.pos = p := by
      rcases hplace with ⟨h, -⟩ | ⟨-, hne, -⟩
      · exact h
      · exact absurd hsame' hne
    obtain ⟨hfresh, hold⟩ := windowAfter_of (s := v) hfix hstallIn hs (hwindow hinv hsame')
    rw [← hstall, hposq, hvcreep] at hfresh hold
    rw [houtput, applyOutput_vOut]
    refine ⟨fun h => hfresh (by exact_mod_cast h), fun h0 hc hd => hold ?_ ?_ ?_⟩
    · exact_mod_cast h0
    · exact_mod_cast hc
    · exact_mod_cast hd
  · rw [ht]
    exact controlPeriod_unchangedBut hrun hrole htimer

end Sys2Proof.Machine
end

section
/-! PROOFS. The arithmetic of one step of the profile (R50 to R54). -/

namespace Sys2Proof.Machine

theorem towardZero_eq (v a : Int) : towardZero v a = if 0 < v then max 0 (v - a) else min 0 (v + a) := by
  unfold towardZero
  split
  · omega
  · omega

/-- The stopping distance, rounded up, reaches a remainder where the distance itself exceeds the millimetre below it (R52). -/
theorem le_stoppingDistance_iff {u a r : Int} (ha : 0 < a) : r ≤ stoppingDistance u a ↔ (r - 1) * (20 * a) < u * (u + a) := by
  have hexpand : (r - 1) * (20 * a) = r * (20 * a) - 20 * a := by ring
  rw [stoppingDistance, Int.le_ediv_iff_mul_le (by omega), hexpand]
  generalize r * (20 * a) = x
  generalize u * (u + a) = y
  omega

theorem driveMagnitude_free {a : Int} (ha : 0 < a) (u top creep : Int) :
    driveMagnitude u a top creep false = if u < top then min (u + a) top else max (u - a) top := by
  unfold driveMagnitude
  rw [if_neg (by decide)]
  split
  · rfl
  · split
    · rfl
    · omega

/-- The sign of the way to a goal that is not reached (R50). -/
theorem dirOf_sign {r : Int} (h : r ≠ 0) (last : Option Dir) :
    ((dirOf r last).map Dir.sign).getD 0 = if 0 < r then 1 else -1 := by
  unfold dirOf
  split
  · rfl
  · rw [if_pos (by omega)]
    rfl

/-- A speed goes the wrong way where its product with the sign of the way is negative (R51). -/
theorem wrongWay_iff (v : Int) {sign : Int} (h : sign = 1 ∨ sign = -1) : (v ≠ 0 ∧ v.sign ≠ sign) ↔ v * sign < 0 := by
  rcases lt_trichotomy v 0 with hv | rfl | hv
  · rw [Int.sign_eq_neg_one_of_neg hv]
    rcases h with rfl | rfl <;> omega
  · simp
  · rw [Int.sign_eq_one_of_pos hv]
    rcases h with rfl | rfl <;> omega

section
variable (s : State) (g : Int)

/-- The corner creeps on near its seat (R54). -/
def State.nearSeat (s : State) : Bool := s.cornerIs .lowering && decide (s.motion.pos ≤ s.deadband)

/-- The latched braking of a profile stands for this goal (R52). -/
def brakingKept : Bool :=
  s.motion.profile.braking && s.motion.profile.goal == some g &&
    s.motion.profile.dir == dirOf (g - s.motion.pos) s.motion.profile.dir

/-- The profile of a step with this speed and braking flag. -/
def profileNext (v : Int) (braking : Bool) : Profile :=
  { vPrev := v, braking := braking, goal := some g, dir := dirOf (g - s.motion.pos) s.motion.profile.dir }

/-- The sign of the way to the goal (R50). -/
def wayTo : Int := ((dirOf (g - s.motion.pos) s.motion.profile.dir).map Dir.sign).getD 0

/-- The braking of a step: latched, or within the stopping distance (R52). -/
def brakesFor : Bool :=
  brakingKept s g ||
    decide (((g - s.motion.pos).natAbs : Int) ≤ stoppingDistance (s.motion.profile.vPrev.natAbs : Int) s.accel)

theorem profileStep_eq : profileStep s g =
    if s.nearSeat = true then
      let u := if s.motion.profile.vPrev ≤ 0 then -s.motion.profile.vPrev else 0
      (profileNext s g (if s.vcreep < u then -(max (u - s.accel) s.vcreep) else -(min (u + s.accel) s.vcreep)) (brakingKept s g),
        false)
    else if ((g - s.motion.pos).natAbs : Int) ≤ s.deadband then
      if (s.motion.profile.vPrev.natAbs : Int) ≤ s.vcreep then (profileNext s g 0 false, true)
      else (profileNext s g (towardZero s.motion.profile.vPrev s.accel) (brakingKept s g), false)
    else if s.motion.profile.vPrev ≠ 0 ∧ s.motion.profile.vPrev.sign ≠ wayTo s g then
      (profileNext s g (towardZero s.motion.profile.vPrev s.accel) (brakingKept s g), false)
    else (profileNext s g (wayTo s g *
      driveMagnitude (s.motion.profile.vPrev.natAbs : Int) s.accel (topSpeed s) s.vcreep (brakesFor s g)) (brakesFor s g), false) :=
  rfl

variable {s g}

theorem profileStep_nearSeat (h : s.nearSeat = true) :
    let u := if s.motion.profile.vPrev ≤ 0 then -s.motion.profile.vPrev else 0
    (profileStep s g).1.vPrev =
      if s.vcreep < u then -(max (u - s.accel) s.vcreep) else -(min (u + s.accel) s.vcreep) := by
  rw [profileStep_eq, if_pos h]
  rfl

section
variable (hr : s.deadband < ((g - s.motion.pos).natAbs : Int))
include hr

/-- Beyond the deadband the way has a sign. -/
theorem wayTo_of_far : wayTo s g = if 0 < g - s.motion.pos then 1 else -1 := by
  have hpos : (0 : Int) ≤ s.deadband := Int.natCast_nonneg _
  exact dirOf_sign (by omega) _

theorem wrongWay_of_far : (s.motion.profile.vPrev ≠ 0 ∧ s.motion.profile.vPrev.sign ≠ wayTo s g) ↔
    s.motion.profile.vPrev * wayTo s g < 0 := by
  refine wrongWay_iff _ ?_
  rw [wayTo_of_far hr]
  split
  · exact .inl rfl
  · exact .inr rfl

end

section
variable (h : s.nearSeat = false)
include h

/-- Within the deadband at creep speed the corner has arrived (R53). -/
theorem profileStep_arrives : (profileStep s g).2 = true ↔
    ((g - s.motion.pos).natAbs : Int) ≤ s.deadband ∧ (s.motion.profile.vPrev.natAbs : Int) ≤ s.vcreep := by
  rw [profileStep_eq, if_neg (by simp [h])]
  split
  · split
    · exact iff_of_true rfl ⟨‹_›, ‹_›⟩
    · exact iff_of_false Bool.false_ne_true fun hn => absurd hn.2 ‹_›
  · split
    · exact iff_of_false Bool.false_ne_true fun hn => absurd hn.1 ‹_›
    · exact iff_of_false Bool.false_ne_true fun hn => absurd hn.1 ‹_›

/-- Within the deadband a speed above creep is braked (R53). -/
theorem profileStep_near (hr : ((g - s.motion.pos).natAbs : Int) ≤ s.deadband)
    (hv : s.vcreep < s.motion.profile.vPrev.natAbs) :
    (profileStep s g).1.vPrev = towardZero s.motion.profile.vPrev s.accel := by
  rw [profileStep_eq, if_neg (by simp [h]), if_pos hr, if_neg (not_le.mpr hv)]
  rfl

section
variable (hr : s.deadband < ((g - s.motion.pos).natAbs : Int))
include hr

/-- A wrong direction is braked off (R51). -/
theorem profileStep_turns (hw : s.motion.profile.vPrev * wayTo s g < 0) :
    (profileStep s g).1.vPrev = towardZero s.motion.profile.vPrev s.accel := by
  rw [profileStep_eq, if_neg (by simp [h]), if_neg (not_le.mpr hr), if_pos ((wrongWay_of_far hr).mpr hw)]
  rfl

/-- The right direction is driven (R52). -/
theorem profileStep_drives (hw : 0 ≤ s.motion.profile.vPrev * wayTo s g) :
    (profileStep s g).1.braking = brakesFor s g ∧ (profileStep s g).1.vPrev = wayTo s g *
      driveMagnitude (s.motion.profile.vPrev.natAbs : Int) s.accel (topSpeed s) s.vcreep (brakesFor s g) := by
  rw [profileStep_eq, if_neg (by simp [h]), if_neg (not_le.mpr hr),
    if_neg (fun hn => absurd hw (not_le.mpr ((wrongWay_of_far hr).mp hn)))]
  exact ⟨rfl, rfl⟩

end
end

theorem brakesFor_iff (ha : 0 < s.accel) : brakesFor s g = true ↔
    (s.motion.profile.braking = true ∧ s.motion.profile.goal = some g ∧
      s.motion.profile.dir = dirOf (g - s.motion.pos) s.motion.profile.dir) ∨
    ((g - s.motion.pos).natAbs - 1) * (20 * s.accel) <
      (s.motion.profile.vPrev.natAbs : Int) * (s.motion.profile.vPrev.natAbs + s.accel) := by
  simp only [brakesFor, brakingKept, Bool.or_eq_true, Bool.and_eq_true, beq_iff_eq, decide_eq_true_eq, and_assoc]
  exact or_congr_right (le_stoppingDistance_iff ha)

/-- One step toward the goal in the right direction: the latched or the needed braking to creep speed, or the drive to the top
speed (R50, R52). -/
theorem profileStep_steers (h : s.nearSeat = false) (hr : s.deadband < ((g - s.motion.pos).natAbs : Int)) (ha : 0 < s.accel) :
    let v := s.motion.profile.vPrev
    let r := g - s.motion.pos
    let kept := s.motion.profile.braking = true ∧ s.motion.profile.goal = some g ∧
      s.motion.profile.dir = dirOf r s.motion.profile.dir
    let sign : Int := if 0 < r then 1 else -1
    let u : Int := v.natAbs
    let next := (profileStep s g).1
    (v * sign < 0 → next.vPrev = if 0 < v then max 0 (v - s.accel) else min 0 (v + s.accel)) ∧
    (0 ≤ v * sign →
      (kept ∨ (r.natAbs - 1) * (20 * s.accel) < u * (u + s.accel) → next.braking = true ∧
        next.vPrev = sign * if s.vcreep ≤ u then max (u - s.accel) s.vcreep else min (u + s.accel) s.vcreep) ∧
      (¬kept → u * (u + s.accel) ≤ (r.natAbs - 1) * (20 * s.accel) → next.braking = false ∧
        next.vPrev = sign * if u < topSpeed s then min (u + s.accel) (topSpeed s) else max (u - s.accel) (topSpeed s))) := by
  intro v r kept sign u next
  have hway : wayTo s g = sign := wayTo_of_far hr
  refine ⟨fun hv => ?_, fun hv => ?_⟩
  · rw [← towardZero_eq]
    exact profileStep_turns h hr (by rw [hway]; exact hv)
  · obtain ⟨hbraking, hspeed⟩ := profileStep_drives h hr (by rw [hway]; exact hv)
    rw [hway] at hspeed
    have hbrakes := brakesFor_iff (s := s) (g := g) ha
    refine ⟨fun hb => ?_, fun hk hn => ?_⟩
    · rw [hbrakes.mpr hb] at hbraking hspeed
      exact ⟨hbraking, hspeed⟩
    · have hfree : brakesFor s g = false := by
        rw [← Bool.not_eq_true, hbrakes]
        exact fun hb => hb.elim hk fun hlt => absurd hn (not_le.mpr hlt)
      rw [hfree, driveMagnitude_free ha] at hspeed
      rw [hfree] at hbraking
      exact ⟨hbraking, hspeed⟩

end

end Sys2Proof.Machine
end

section
/-! PROOFS. What an expiry does to a movement and to HOMING, and O49. -/

namespace Sys2Proof.Machine

/-! ### What levelling and goals read of the peer table -/

theorem otherCorners_of_fixed {s t : State} (h : t.fixed = s.fixed) : t.otherCorners = s.otherCorners := by
  have hstraps : t.straps = s.straps := congrArg Fixed.straps h
  have hroster : t.roster = s.roster := congrArg Fixed.roster h
  unfold State.otherCorners State.rosterRole State.number
  rw [hroster, hstraps]

theorem levellingPeers_of_fixed {s t : State} (h : t.fixed = s.fixed) : t.levellingPeers = s.levellingPeers := by
  have hpeers : t.peers = s.peers := congrArg Fixed.peers h
  simp only [State.levellingPeers, otherCorners_of_fixed h, qualifying_of_peers hpeers]

theorem raisingGoals_of_fixed {s t : State} (h : t.fixed = s.fixed) : t.raisingGoals = s.raisingGoals := by
  have hpeers : t.peers = s.peers := congrArg Fixed.peers h
  simp only [State.raisingGoals, otherCorners_of_fixed h, qualifying_of_peers hpeers]

theorem mem_otherCorners (s : State) (j : Fin 12) :
    j ∈ s.otherCorners ↔ s.rosterRole j = some .corner ∧ j.val ≠ s.straps.number.val := by
  simp only [State.otherCorners, List.mem_filter, mem_stations, true_and, Bool.and_eq_true, decide_eq_true_eq]
  exact Iff.rfl

/-- The levelling participants other than self (R57). -/
theorem mem_levellingPeers (s : State) (q : Int) : q ∈ s.levellingPeers ↔
    ∃ j e h position speed goal intent bolt brake seat cause,
      s.rosterRole j = some .corner ∧ j.val ≠ s.straps.number.val ∧ s.peer j = some e ∧ e.freshness = .fresh ∧
      e.heard = some h ∧ h.digestOk = true ∧ h.content.tripped = false ∧
      h.content.payload = .corner position speed goal intent bolt brake seat cause ∧ position ≠ 0x8000#16 ∧
      q = position.toInt := by
  simp only [State.levellingPeers, List.mem_filterMap, mem_otherCorners]
  constructor
  · rintro ⟨j, ⟨hj, hn⟩, hq⟩
    split at hq
    · rename_i c hc
      obtain ⟨e, h, he, hfresh, hh, hdigest, rfl⟩ := (qualifying_eq_some s j c).mp hc
      split at hq
      · rename_i position speed goal intent bolt brake seat cause hp
        split at hq
        · rename_i hok
          cases hq
          exact ⟨j, e, h, position, speed, goal, intent, bolt, brake, seat, cause, hj, hn, he, hfresh, hh, hdigest, hok.2, hp,
            hok.1, rfl⟩
        · cases hq
      · cases hq
    · cases hq
  · rintro ⟨j, e, h, position, speed, goal, intent, bolt, brake, seat, cause, hj, hn, he, hfresh, hh, hdigest, htrip, hp, hpos, rfl⟩
    have hc := (qualifying_eq_some s j h.content).mpr ⟨e, h, he, hfresh, hh, hdigest, rfl⟩
    exact ⟨j, ⟨hj, hn⟩, by simp [hc, hp, hpos, htrip]⟩

/-! ### The outcome of an expiry, phase by phase -/

theorem enterCorner_keeps (p : CornerPhase) (rel : Intent) {s : State} {c : Condition} (h : s.latched c = true) :
    (enterCorner p rel s).latched c = true := by
  unfold enterCorner report
  exact submit_keeps _ _ _ (by simpa [State.latched] using h)

/-- A failed homing has latched its condition (R91). -/
theorem failHoming_latched (s : State) : (failHoming s).latched .homingFailed = true := by
  rw [failHoming_eq]
  exact enterCorner_keeps _ _ (latch_latched _ _)

/-- The expiry as one step of the profile from a state that the supervision has left steady. -/
theorem profiled_steady {s : State} (hrole : s.straps.role = .corner) (h : (profiled s).motion.phase ≠ some .tripped) :
    ∃ u, Steady s u ∧ u.role = .corner ∧ u.motion.phase = s.motion.phase ∧ profiled s = profileWork (cornerReact u) := by
  have hu := steady_of_profiled hrole h
  exact ⟨_, hu, (role_of_fixed hu.fixed).trans hrole, hu.field (·.phase), rfl⟩

section
variable {s : State} (hrole : s.straps.role = .corner)
include hrole

/-- A raising corner that is not tripped nor stopped takes a step of its profile, or has arrived (R53). -/
theorem profiled_raising (hp : s.motion.phase = some .raising)
    (h : (profiled s).motion.phase = some .raising ∨ (profiled s).motion.phase = some .raised) :
    ∃ u, Steady s u ∧
      ((profiled s).motion.phase = some .raising → (profileStep u (workingGoalNow u)).2 = false ∧ profiled s = raisedBy u) ∧
      ((profiled s).motion.phase = some .raised → (profileStep u (workingGoalNow u)).2 = true) := by
  obtain ⟨u, hu, hroleu, hpu, hw⟩ := profiled_steady hrole (by rcases h with h | h <;> rw [h] <;> decide)
  rw [hp] at hpu
  rw [hw] at h ⊢
  rcases cornerReact_raising hroleu hpu with ⟨hd, hr⟩ | ⟨x, hx, hxu, -, hl⟩
  · refine ⟨u, hu, ?_⟩
    rw [hr, profileWork_raising hpu]
    by_cases ha : (profileStep u (workingGoalNow u)).2 = true
    · rw [if_pos ha]
      have hphase : (cornerReact (enterCorner .raised .none (raisedBy u))).motion.phase = some .raised := by
        have hdr : (enterCorner .raised .none (raisedBy u)).demandView = .raise := by
          have hf : (enterCorner .raised .none (raisedBy u)).fixed = u.fixed := enterCorner_fixed .raised .none (raisedBy u)
          rw [demandView_of_fixed (by simp [hroleu]) hf, hd]
        have hc := clearLeftBehind_of_raise hdr
        have hnone : cornerCondition (enterCorner .raised .none (raisedBy u)) = none := by
          unfold cornerCondition
          rw [enterCorner_phase]
          simp [State.loweringPermission, hdr]
        rw [cornerReact_stays (by rw [hc]; exact hnone), hc, enterCorner_phase]
      rw [hphase]
      exact ⟨nofun, fun _ => ha⟩
    · rw [if_neg ha]
      refine ⟨fun _ => ⟨by simpa using ha, rfl⟩, fun hn => ?_⟩
      cases hpu.symm.trans hn
  · have hrolex : x.role = .corner := (role_of_fixed hxu).trans hroleu
    have hlx : x.demandView = .raise → x.motion.leftBehind = true := fun hx =>
      hl ((demandView_of_fixed (by simp [hroleu]) hxu).symm.trans hx)
    rcases h with h | h
    · exact absurd h (hx.not_raising hrolex hlx (.inl rfl))
    · exact absurd h (hx.not_raising hrolex hlx (.inr rfl))

/-- A lowering corner that is not stopped takes a step of its profile (R50, R54). -/
theorem profiled_lowering (hp : s.motion.phase = some .lowering) (h : (profiled s).motion.phase = some .lowering) :
    ∃ u, Steady s u ∧ profiled s = storeProfile (profileStep u 0).1 u := by
  obtain ⟨u, hu, hroleu, hpu, hw⟩ := profiled_steady hrole (by rw [h]; decide)
  rw [hp] at hpu
  have hc := hu.clearLeftBehind
  have hpc : (clearLeftBehind u).motion.phase = some .lowering := (hc.field (·.phase)).trans hp
  rw [hw] at h ⊢
  rcases cornerReact_lowering hroleu hpu with hr | ⟨hx, hn⟩
  · refine ⟨_, hc, ?_⟩
    rw [hr, profileWork_lowering hpc]
  · have hformed : Formed (clearLeftBehind u) := by
      have hplace := hc.field (·.place)
      rw [Formed, countedPosition_of_place (b := measured s) hc.fixed hplace]
      exact congrArg (·.1) hplace
    have hrolec := (role_of_fixed hc.fixed).trans hrole
    have hd := (MotionOnly.clearLeftBehind u).demandView hroleu
    exact absurd h (hx.not_lowering hrolec hformed (by rw [hd]; exact hn))

/-- A halting corner slows by one step, and has stopped where it is HELD (R54). -/
theorem profiled_halting (hp : s.motion.phase = some .halting) (h : (profiled s).motion.phase ≠ some .tripped) :
    ∃ u, Steady s u ∧ (profiled s).motion.profile.vPrev = haltingSpeed u ∧
      ((profiled s).motion.phase = some .held → haltingSpeed u = 0) := by
  obtain ⟨u, hu, hroleu, hpu, hw⟩ := profiled_steady hrole h
  rw [hp] at hpu
  have hc := hu.clearLeftBehind
  have hpc : (clearLeftBehind u).motion.phase = some .halting := (hc.field (·.phase)).trans hp
  refine ⟨_, hc, ?_⟩
  rw [hw, cornerReact_stays (cornerCondition_halting hpc)]
  generalize clearLeftBehind u = w at hc hpc ⊢
  rw [profileWork_halting hpc]
  by_cases h0 : haltingSpeed w = 0
  · have hf : (enterCorner .held .none (slowed w)).fixed = s.fixed := (enterCorner_fixed _ _ _).trans hc.fixed
    rw [if_pos h0, h0]
    refine ⟨(EntryRun.cornerReact _).still ((role_of_fixed hf).trans hrole) ?_, fun _ => rfl⟩
    · rw [enterCorner_profile]
      rfl
  · rw [if_neg h0]
    refine ⟨rfl, fun hn => ?_⟩
    cases hpc.symm.trans hn

/-- A homing corner creeps on within its limit, or its homing fails (R54, R91). -/
theorem profiled_homing (hp : s.motion.phase = some .homing) (h : (profiled s).motion.phase ≠ some .tripped) :
    ∃ u, Steady s u ∧
      ((profiled s).motion.phase = some .homing →
        ¬u.homingLimit < u.motion.homingStart.getD u.motion.pos - u.motion.pos ∧
        (profiled s).motion.profile.vPrev = deadHold u (homingSpeed u)) ∧
      ((profiled s).motion.phase = some .unreferenced → (profiled s).latched .homingFailed = true) := by
  obtain ⟨u, hu, hroleu, hpu, hw⟩ := profiled_steady hrole h
  rw [hp] at hpu
  have hc := hu.clearLeftBehind
  have hpc : (clearLeftBehind u).motion.phase = some .homing := (hc.field (·.phase)).trans hp
  have failed : ∀ w : State, (failHoming w).motion.phase = some .unreferenced := fun w => by
    rw [failHoming_eq, enterCorner_phase]
  refine ⟨_, hc, ?_⟩
  rw [hw]
  have hreact := cornerReact_homing hpu
  generalize clearLeftBehind u = w at hpc hreact ⊢
  rcases hreact with hr | hr
  · rw [hr, profileWork_homing hpc]
    split
    · rw [failed]
      exact ⟨nofun, fun _ => failHoming_latched _⟩
    · refine ⟨fun _ => ⟨‹_›, rfl⟩, fun hn => ?_⟩
      cases hpc.symm.trans hn
  · rw [hr, profileWork_elsewhere (failed _) (by decide), failed]
    exact ⟨nofun, fun _ => failHoming_latched _⟩

end

/-! ### A steady corner computes as it measured -/

namespace Steady

variable {s u : State} (h : Steady s u)
include h

theorem config : u.config = s.config := config_of_fixed h.fixed

theorem profileStep (g : Int) : profileStep u g = profileStep (measured s) g := by
  have hphase := h.field (·.phase)
  have hprofile := h.field (·.profile)
  have hpos := h.field (·.pos)
  have hc : u.config = (measured s).config := h.config
  unfold Machine.profileStep topSpeed State.cornerIs State.deadband State.landingHeight State.accel State.vcreep State.vtop
  rw [hphase, hprofile, hpos, hc]

theorem deadHold (v : Int) : deadHold u v = deadHold (measured s) v := by
  have houtput := h.field (·.output)
  simp only [Machine.deadHold, houtput]

theorem haltingSpeed : haltingSpeed u = haltingSpeed (measured s) := by
  have hprofile := h.field (·.profile)
  have hc : u.config = (measured s).config := h.config
  simp only [Machine.haltingSpeed, h.deadHold, State.accel, hprofile, hc]

theorem homingSpeed : homingSpeed u = homingSpeed (measured s) := by
  have hprofile := h.field (·.profile)
  have hbrake := h.field (·.brake)
  have hc : u.config = (measured s).config := h.config
  simp only [Machine.homingSpeed, State.accel, State.vcreep, State.vtop, hprofile, hbrake, hc]

theorem workingGoalNow : workingGoalNow u = workingGoalNow (measured s) := by
  have hgoal := h.field (·.goal)
  have hworking := h.field (·.workingGoal)
  have hf : u.fixed = (measured s).fixed := h.fixed
  simp only [Machine.workingGoalNow, leastGoal, raisingGoals_of_fixed hf, hgoal, hworking]

/-- A stored step of the profile, as it was measured. -/
theorem stored (g : Int) (x : State) (hx : x.motion.output = u.motion.output) :
    (storeProfile (Machine.profileStep u g).1 x).motion.profile =
      { (Machine.profileStep (measured s) g).1 with
        vPrev := Machine.deadHold (measured s) (Machine.profileStep (measured s) g).1.vPrev } := by
  have hd : ∀ v, Machine.deadHold x v = Machine.deadHold (measured s) v := fun v => by
    rw [← h.deadHold]
    simp only [Machine.deadHold, hx]
  simp only [storeProfile, State.onProfile, State.onMotion_motion, hd, h.profileStep]

end Steady

/-- In a movement POSITION is the one last set, and levelling reads the peers as they were (R57; log entry 17). -/
theorem levellingCorrection_of_profiled {s : State} (hrole : s.straps.role = .corner)
    (hp : (profiled s).motion.phase ∈ [some .raising, some .lowering, some .halting]) :
    levellingCorrection (profiled s) = levellingCorrection s := by
  have htracks := profiled_tracks hrole
  have hposition : (profiled s).motion.position = s.motion.position := by
    rcases htracks.place with hk | hc
    · have hplace := hk.place
      simp only [MotionUnit.place, Prod.mk.injEq] at hplace
      obtain ⟨-, hposition, -⟩ := hplace
      exact hposition
    · have hl := hc.locked
      simp only [List.mem_cons, List.not_mem_nil, or_false] at hp
      rcases hp with hp | hp | hp <;> simp [State.cornerIn, hp, restsLocked] at hl
  simp only [levellingCorrection, hposition, levellingPeers_of_fixed htracks.fixed, State.vcorr, State.kl,
    config_of_fixed htracks.fixed]
  rfl

theorem nearSeat_of_ne {s : State} (h : s.motion.phase ≠ some .lowering) : s.nearSeat = false := by
  simp [State.nearSeat, State.cornerIs, h]

theorem nearSeat_lowering {s : State} (h : s.motion.phase = some .lowering) : s.nearSeat = decide (s.motion.pos ≤ s.deadband) := by
  simp [State.nearSeat, State.cornerIs, h]

theorem topSpeed_of_ne {s : State} (h : s.motion.phase ≠ some .lowering) : topSpeed s = s.vtop := by
  simp [topSpeed, State.cornerIs, h]

theorem topSpeed_lowering {s : State} (h : s.motion.phase = some .lowering) :
    topSpeed s = if s.motion.pos ≤ s.landingHeight then s.vcreep else s.vtop := by
  simp [topSpeed, State.cornerIs, h]

/-- Settles O49: each phase by the step of its profile, and the output by the levelling of that speed. -/
theorem profileDrivesTheSpan : Obligations.ProfileDrivesTheSpan := by
  intro s hrun hrole htimer hflag haccel p a top creep v slower held steps
  let w := s.setFed false
  have hrolew : w.straps.role = .corner := hrole
  obtain ⟨q, hq⟩ : ∃ q, q = profiled w := ⟨_, rfl⟩
  obtain ⟨t, ht⟩ : ∃ t, t = controlPeriod s := ⟨_, rfl⟩
  have haside : t.aside = (expired q).aside := by rw [ht, hq]; exact controlPeriod_aside hrun hrole htimer
  have hm : t.motion = (expired q).motion := motion_of_aside haside
  have hphase : t.motion.phase = q.motion.phase := by rw [hm]; rfl
  have hprofile : t.motion.profile = q.motion.profile := by rw [hm]; rfl
  have hworking : t.motion.workingGoal = q.motion.workingGoal := by rw [hm]; rfl
  have hcorrection : t.motion.correction = outputCorrection q := by rw [hm]; rfl
  have houtput : t.motion.output.vOut = outputSpeed q := by rw [hm]; rfl
  have hlatched : q.latched .homingFailed = true → t.latched .homingFailed = true := fun h => by
    rw [State.latched, ht, controlPeriod_port hrun hrole htimer, ← hq]
    exact h
  have hraising := @profiled_raising w hrolew
  have hlowering := @profiled_lowering w hrolew
  have hhalting := @profiled_halting w hrolew
  have hhoming := @profiled_homing w hrolew
  have hlevelling := @levellingCorrection_of_profiled w hrolew
  have hfix := (profiled_tracks hrolew).fixed
  rw [← hq] at hraising hlowering hhalting hhoming hlevelling hfix
  rw [← hphase] at hraising hlowering hhalting hhoming hlevelling
  have haccel' : 0 < (measured w).accel := Int.natCast_pos.mpr haccel
  have hheld : ∀ x, deadHold (measured w) x = held x := fun _ => rfl
  have steer : ∀ g limit : Int, (measured w).nearSeat = false → topSpeed (measured w) = limit →
      t.motion.profile = { (profileStep (measured w) g).1 with
        vPrev := deadHold (measured w) (profileStep (measured w) g).1.vPrev } → steps g limit t := by
    intro g limit hn hlimit hprof
    refine ⟨fun hfar hv => ?_, fun hfar hv => ?_⟩
    · obtain ⟨h, -⟩ := profileStep_steers (g := g) hn (Int.ofNat_lt.mpr hfar) haccel'
      rw [hprof, ← hheld]
      exact congrArg (deadHold (measured w)) (h hv)
    · obtain ⟨-, h⟩ := profileStep_steers (g := g) hn (Int.ofNat_lt.mpr hfar) haccel'
      obtain ⟨hbrakes, hfree⟩ := h hv
      rw [hlimit] at hfree
      rw [hprof, ← hheld, ← hheld]
      refine ⟨fun hb => ?_, fun hk hn => ?_⟩
      · obtain ⟨h1, h2⟩ := hbrakes hb
        exact ⟨h1, congrArg (deadHold (measured w)) h2⟩
      · obtain ⟨h1, h2⟩ := hfree hk hn
        exact ⟨h1, congrArg (deadHold (measured w)) h2⟩
  have hslower : haltingSpeed (measured w) = held slower := congrArg (deadHold (measured w)) (towardZero_eq _ _)
  have hne : s.motion.phase = some .raising → (measured w).motion.phase ≠ some .lowering := fun hp h => by
    cases hp.symm.trans h
  refine ⟨t, by rw [ht]; rfl, fun hp g hg => ⟨fun hr => ?_, fun hr => ?_⟩, fun hp hl => ⟨fun hn => ?_, fun hn => ?_⟩,
    fun hp => ⟨fun hh => ?_, fun hh => ?_⟩, fun hp start hs => ⟨fun hh => ?_, fun hu => ?_⟩, fun hmoving => ?_,
    mem_levellingPeers s, ?_⟩
  · obtain ⟨u, hu, hstep, -⟩ := hraising hp (.inl hr)
    obtain ⟨harr, heq⟩ := hstep hr
    have hgoal : workingGoalNow u = g := hu.workingGoalNow.trans hg.symm
    have hn : (measured w).nearSeat = false := nearSeat_of_ne (hne hp)
    have hprof := hprofile.trans (congrArg (·.motion.profile) heq)
    rw [raisedBy, hu.stored _ (aimed u) rfl, hgoal] at hprof
    rw [hu.profileStep, hgoal] at harr
    refine ⟨?_, steer g top hn (topSpeed_of_ne (hne hp)) hprof, fun hnear => ?_⟩
    · rw [hworking, heq, ← hgoal]
      rfl
    · have hfast : creep < v.natAbs := not_le.mp fun hslow => by
        rw [(profileStep_arrives hn).mpr ⟨Int.ofNat_le.mpr hnear, hslow⟩] at harr
        cases harr
      have h := profileStep_near hn (Int.ofNat_le.mpr hnear) hfast
      rw [towardZero_eq] at h
      rw [hprof, ← hheld]
      exact ⟨hfast, congrArg (deadHold (measured w)) h⟩
  · obtain ⟨u, hu, -, hstep⟩ := hraising hp (.inr hr)
    have harr := hstep hr
    rw [hu.profileStep, hu.workingGoalNow.trans hg.symm] at harr
    obtain ⟨hnear, hslow⟩ := (profileStep_arrives (nearSeat_of_ne (hne hp))).mp harr
    exact ⟨Int.ofNat_le.mp hnear, hslow⟩
  · obtain ⟨u, hu, heq⟩ := hlowering hp hl
    have hprof := hprofile.trans (congrArg (·.motion.profile) heq)
    rw [hu.stored 0 u rfl] at hprof
    have h := profileStep_nearSeat (s := measured w) (g := 0) ((nearSeat_lowering (s := measured w) hp).trans (decide_eq_true hn))
    intro x
    rw [hprof, ← hheld]
    exact congrArg (deadHold (measured w)) h
  · obtain ⟨u, hu, heq⟩ := hlowering hp hl
    have hprof := hprofile.trans (congrArg (·.motion.profile) heq)
    rw [hu.stored 0 u rfl] at hprof
    exact steer 0 _ ((nearSeat_lowering (s := measured w) hp).trans (decide_eq_false (not_le.mpr hn))) (topSpeed_lowering (s := measured w) hp) hprof
  · obtain ⟨u, hu, hv, -⟩ := hhalting hp (by rw [hh]; decide)
    rw [hprofile, hv, hu.haltingSpeed, hslower]
  · obtain ⟨u, hu, -, hv⟩ := hhalting hp (by rw [hh]; decide)
    rw [← hslower, ← hu.haltingSpeed]
    exact hv hh
  · obtain ⟨u, hu, h, -⟩ := hhoming hp (by rw [hh]; decide)
    obtain ⟨hlimit, hv⟩ := h hh
    have hstart : u.motion.homingStart = some start := (hu.field (·.homingStart)).trans hs
    have hpos : u.motion.pos = p := hu.field (·.pos)
    rw [hstart, hpos, State.homingLimit, hu.config] at hlimit
    rw [hu.deadHold, hu.homingSpeed] at hv
    refine ⟨not_lt.mp hlimit, by rw [hprofile, hv]; rfl, ?_⟩
    rw [houtput, outputSpeed_homing (hphase.symm.trans hh), hprofile]
  · obtain ⟨-, -, -, h⟩ := hhoming hp (by rw [hu]; decide)
    exact hlatched (h hu)
  · intro own mean c x
    obtain ⟨hspeed, hc⟩ := outputSpeed_moving (s := q) (by rw [← hphase]; exact hmoving)
    have hcorr : levellingCorrection q = c := hlevelling hmoving
    have hvfs : q.vfs = s.config.item 9 := by rw [State.vfs, config_of_fixed hfix]; rfl
    refine ⟨by rw [hcorrection, hc, hcorr], ?_⟩
    rw [houtput, hspeed, hcorr, ← hprofile, levelled, hvfs]
    rfl
  · rw [ht]
    exact controlPeriod_unchangedBut hrun hrole htimer

end Sys2Proof.Machine
end
